-- ==== Sys2Proof/Word.lean ====
section
/-! DEFINITION. Word: the sizes of data that every chapter of the spec shares. -/

namespace Sys2Proof

/-- One byte (R6, R8). -/
abbrev Byte := BitVec 8

/-- One register word of 32 bits (R716). -/
abbrev Word := BitVec 32

/-- One flit of 32 bytes; byte 0 is bits 7 to 0 (R61, R7). -/
abbrev Flit := BitVec 256

/-- The 56-bit body of a control block (R47). -/
abbrev Body := BitVec 56

end Sys2Proof
end

