-- ==== Sys2Proof/Machine/Bytes.lean ====
section
/-! DEFINITION. Bytes: byte order, bit fields of byte strings, and the two checksums of the spec. -/

namespace Sys2Proof.Machine

/-- The number a little-endian byte string spells (R7). -/
def leNat : List Byte → Nat
  | [] => 0
  | b :: bs => b.toNat + 256 * leNat bs

/-- `n` little-endian bytes of a number (R7). -/
def leBytes : Nat → Nat → List Byte
  | 0, _ => []
  | n + 1, v => BitVec.ofNat 8 v :: leBytes n (v / 256)

/-- Bytes `off` to `off + n - 1`, zero where the string is shorter. -/
def slice (bs : List Byte) (off n : Nat) : List Byte :=
  let t := (bs.drop off).take n
  t ++ List.replicate (n - t.length) 0#8

/-- The little-endian field of `n` bytes at offset `off`. -/
def fieldAt (bs : List Byte) (off n : Nat) : Nat := leNat (slice bs off n)

/-- Byte `i` as a number, zero beyond the end. -/
def byteAt (bs : List Byte) (i : Nat) : Nat := fieldAt bs i 1

/-- Pad with zero bytes, or cut, to `n` bytes. -/
def fit (n : Nat) (bs : List Byte) : List Byte := slice bs 0 n

/-- Bits `lo` to `lo + w - 1` of a number. -/
def bits (v lo w : Nat) : Nat := v / 2 ^ lo % 2 ^ w

/-- Bit `i` of a number. -/
def bit (v i : Nat) : Bool := v.testBit i

/-- A truth value as 0 or 1. -/
def b2n (b : Bool) : Nat := if b then 1 else 0

/-- The signed value of the low `w` bits. -/
def signed (w v : Nat) : Int := (BitVec.ofNat w v).toInt

/-- The `w`-bit two's complement of a signed value. -/
def unsigned (w : Nat) (v : Int) : Nat := (BitVec.ofInt w v).toNat

/-- One shift step of the CRC-24 (R63). -/
def crc24Shift (c : BitVec 24) : BitVec 24 :=
  if c.getLsbD 23 then (c <<< 1) ^^^ 0x864CFB#24 else c <<< 1

/-- CRC-24 of a byte string from a start value, each byte most significant bit first (R63). -/
def crc24From (c : BitVec 24) : List Byte → BitVec 24
  | [] => c
  | b :: bs =>
    let c0 := c ^^^ ((b.setWidth 24) <<< 16)
    crc24From (crc24Shift (crc24Shift (crc24Shift (crc24Shift (crc24Shift (crc24Shift (crc24Shift (crc24Shift c0)))))))) bs

/-- The CRC-24 of a frame's protected bytes (R63). -/
def crc24 (bs : List Byte) : BitVec 24 := crc24From 0xFFFFFF#24 bs

/-- One shift step of the reflected CRC-32C, polynomial 0x1EDC6F41. -/
def crc32cShift (c : BitVec 32) : BitVec 32 :=
  if c.getLsbD 0 then (c >>> 1) ^^^ 0x82F63B78#32 else c >>> 1

/-- CRC-32C from a start value. -/
def crc32cFrom (c : BitVec 32) : List Byte → BitVec 32
  | [] => c
  | b :: bs =>
    let c0 := c ^^^ b.setWidth 32
    crc32cFrom (crc32cShift (crc32cShift (crc32cShift (crc32cShift (crc32cShift (crc32cShift (crc32cShift (crc32cShift c0)))))))) bs

/-- CRC-32C of a byte string: reflected, initial value and final inversion all ones (17, 18, 19, 22). -/
def crc32c (bs : List Byte) : BitVec 32 := ~~~ crc32cFrom 0xFFFFFFFF#32 bs

/-- The 32 bytes of a flit, byte 0 first (R61). -/
def flitBytes (f : Flit) : List Byte := leBytes 32 f.toNat

/-- The flit whose bytes are given, zero padded. -/
def flitOf (bs : List Byte) : Flit := BitVec.ofNat 256 (leNat (bs.take 32))

end Sys2Proof.Machine
end

