-- ==== Sys2Proof/Machine/Packet.lean ====
section
/-! DEFINITION. Packet: fabric packets (Table 3-1, Table 3-2) and link frames (Tables 2-6 to 2-8). -/

namespace Sys2Proof.Machine

/-- A fabric packet: the fields of its header (Table 3-1) and its payload bytes. -/
structure Packet where
  dst : Nat := 0
  src : Nat := 0
  tc : Nat := 0
  kind : Nat := 0
  bcast : Bool := false
  dl : Bool := false
  poison : Bool := false
  len : Nat := 1
  nbytes : Nat := 0
  tag : Nat := 0
  ten : Nat := 7
  issuer : Nat := 0
  reserved : Nat := 0
  stamp : Nat := 0
  addr : Nat := 0
  data : List Byte := []
  deriving DecidableEq, Repr

/-- A link frame as it crosses the port stream (Tables 2-6, 2-7, 2-8). `crc` is the CRC field as received,
`blockErr` says that some block of the frame was in error (R48, R57, R65). A received frame may be given by its blocks as the
descrambler leaves them, header and payload of each: the other fields are then read from them. With `raw` the payloads are as the lanes
carry them, still scrambled (R46). `lane` is the lane of a lone block before the port stream begins. -/
structure Frame where
  seq : Nat := 0
  ack : Nat := 0
  ackV : Bool := false
  nak : Bool := false
  short : Bool := false
  crVc : Nat := 0
  crTotal : Nat := 0
  crc : BitVec 24 := 0#24
  slots : List Flit := []
  flitV : Nat := 0
  vcs : List Nat := []
  blockErr : Bool := false
  lane : Nat := 0
  blocks : List (BitVec 2 × BitVec 64) := []
  raw : Bool := false
  deriving DecidableEq, Repr

/-- A KMP command accepted for execution (R498): the path and entry chip it came by, its code, session (0 for none), role,
sequence number and payload bytes. -/
structure Req where
  path : Nat := 0
  entry : Nat := 0
  /-- UDP source on paths 1 and 2: address * 65536 + port. -/
  peer : Nat := 0
  code : Nat := 0
  sid : Nat := 0
  role : Nat := 0
  seq : Nat := 0
  data : List Byte := []
  deriving DecidableEq, Repr

/-- LEN of a packet with `n` payload bytes: ceil((16 + n) / 32) (R88). -/
def lenOf (n : Nat) : Nat := (16 + n + 31) / 32

/-- The traffic class that Table 3-2 gives a kind. -/
def tcOfKind (k : Nat) : Nat :=
  if k = 0 then 1 else if k ≤ 4 then 2 else if k ≤ 8 then 3 else 0

/-- The 128-bit header of a packet (Table 3-1). -/
def packetHeader (p : Packet) : BitVec 128 :=
  BitVec.ofNat 48 p.addr ++ BitVec.ofNat 24 p.stamp ++ BitVec.ofNat 3 p.reserved ++ BitVec.ofNat 4 p.issuer ++
    BitVec.ofNat 3 p.ten ++ BitVec.ofNat 10 p.tag ++ BitVec.ofNat 10 p.nbytes ++ BitVec.ofNat 5 p.len ++
    BitVec.ofBool p.poison ++ BitVec.ofBool p.dl ++ BitVec.ofBool p.bcast ++ BitVec.ofNat 4 p.kind ++
    BitVec.ofNat 2 p.tc ++ BitVec.ofNat 6 p.src ++ BitVec.ofNat 6 p.dst

/-- The packet that a header and its payload bytes spell (Table 3-1). -/
def packetOf (h : BitVec 128) (bs : List Byte) : Packet :=
  { dst := (h.extractLsb' 0 6).toNat, src := (h.extractLsb' 6 6).toNat, tc := (h.extractLsb' 12 2).toNat,
    kind := (h.extractLsb' 14 4).toNat, bcast := h.getLsbD 18, dl := h.getLsbD 19, poison := h.getLsbD 20,
    len := (h.extractLsb' 21 5).toNat, nbytes := (h.extractLsb' 26 10).toNat, tag := (h.extractLsb' 36 10).toNat,
    ten := (h.extractLsb' 46 3).toNat, issuer := (h.extractLsb' 49 4).toNat, reserved := (h.extractLsb' 53 3).toNat,
    stamp := (h.extractLsb' 56 24).toNat, addr := (h.extractLsb' 80 48).toNat, data := bs }

/-- The flits of a packet (R88): header in bytes 0 to 15 of flit 0, payload after it, unused bytes zero. -/
def packetFlits (p : Packet) : List Flit :=
  let all := leBytes 16 (packetHeader p).toNat ++ p.data
  (List.range p.len).map (fun i => flitOf (slice all (32 * i) 32))

/-- The packet that a list of flits spells (R88). -/
def flitsPacket (fs : List Flit) : Packet :=
  let all := fs.flatMap flitBytes
  let h := BitVec.ofNat 128 (leNat (all.take 16))
  packetOf h ((all.drop 16).take (h.extractLsb' 26 10).toNat)

/-- The payload length that a kind admits (R89). -/
def bytesFit (k n : Nat) : Bool :=
  if k = 0 || k = 1 || k = 5 then 4 ≤ n && n ≤ 512
  else if k = 2 || k = 8 then n = 2
  else if k = 3 then 1 ≤ n && n ≤ 512
  else if k = 4 || k = 7 then n = 6
  else if k = 6 then n = 0
  else if k = 9 then n ≤ 16
  else 1 ≤ n && n ≤ 16

/-- A malformed header (R89). -/
def malformed (p : Packet) : Bool :=
  decide (10 < p.kind) || decide (p.tc ≠ tcOfKind p.kind) || decide (p.len ≠ lenOf p.nbytes) ||
  !bytesFit p.kind p.nbytes || decide (13 < p.issuer) ||
  ((p.kind = 0 || p.kind = 9 || p.kind = 10) && decide (p.issuer ≠ 0)) ||
  (decide (4 ≤ p.ten) && decide (p.ten ≤ 6)) || (p.bcast && decide (p.kind ≠ 9)) || decide (p.reserved ≠ 0)

/-- A request that its target answers (Table 3-2): READ, WRITE_BULK, MSG, CREDIT_REQ. -/
def isRequest (k : Nat) : Bool := 1 ≤ k && k ≤ 4

/-- The FRAME_HDR body of a frame (Table 2-7). -/
def frameHdr (f : Frame) : Body :=
  BitVec.ofNat 26 0 ++ BitVec.ofNat 8 f.crTotal ++ BitVec.ofNat 3 f.crVc ++ BitVec.ofBool f.short ++ BitVec.ofBool f.nak ++
    BitVec.ofBool f.ackV ++ BitVec.ofNat 8 f.ack ++ BitVec.ofNat 8 f.seq

/-- Bits 55 to 24 of the FRAME_TRL body (Table 2-8). -/
def frameTags (f : Frame) : BitVec 32 :=
  BitVec.ofNat 16 0 ++ BitVec.ofNat 3 (f.vcs.getD 3 0) ++ BitVec.ofNat 3 (f.vcs.getD 2 0) ++ BitVec.ofNat 3 (f.vcs.getD 1 0) ++
    BitVec.ofNat 3 (f.vcs.getD 0 0) ++ BitVec.ofNat 4 f.flitV

/-- The FRAME_TRL body of a frame (Table 2-8). -/
def frameTrl (f : Frame) : Body := frameTags f ++ f.crc

/-- The CRC of a frame over the bytes that R63 names. -/
def frameCrc (f : Frame) : BitVec 24 :=
  crc24 (leBytes 7 (frameHdr f).toNat ++ (if f.short then [] else (List.range 4).flatMap (fun i => flitBytes (f.slots.getD i 0#256))) ++
    leBytes 4 (frameTags f).toNat)

/-- The header of a CSI-2 packet after its ECC check (R353, R355): virtual channel, data type, and whether a one-bit error was corrected;
and whether the footer's CRC fails, for a long packet other than a pixel line. -/
structure CsiHead where
  vc : Fin 16 := 0
  dt : Fin 64 := 0
  ecc : Bool := false
  crcErr : Bool := false
  deriving DecidableEq, Repr

end Sys2Proof.Machine
end

