-- ==== Sys2Proof/Syntax.lean ====
section
/-! DEFINITION. Syntax: the commands of the block, one constructor per row of the table of operations.
A command is an event at the chip or a message it takes; its operands are what the event carries from outside. -/

namespace Sys2Proof

open Sys2Proof.Machine

/-- The commands, in the order of the table. -/
inductive Instr where
  /-- `LINK_DOWN_DWELL_END` (R56): The 1 ms DOWN dwell of a port ends with EN = 1, so its lanes, scramblers and elastic buffers reset and the port enters DETECT. -/
  | linkDownDwellEnd (p : Fin 6)
  /-- `DETECT_TIMEOUT` (R56): A port has stayed 20 ms in DETECT without meeting its exit condition and goes to DOWN with cause 3. -/
  | detectTimeout (p : Fin 6)
  /-- `ALIGN_TIMEOUT` (R56): A port has stayed 2 ms in ALIGN without meeting its exit condition and goes to DOWN with cause 4. -/
  | alignTimeout (p : Fin 6)
  /-- `EQUALIZE_TIMEOUT` (R56): A port has spent 50 ms in EQUALIZE and READY without reaching ACTIVE and goes to DOWN with cause 5. -/
  | equalizeTimeout (p : Fin 6)
  /-- `RETRAIN_TIMEOUT` (R56): A port has spent 500 µs in RETRAIN without completing it and goes to DOWN with cause 6. -/
  | retrainTimeout (p : Fin 6)
  /-- `BLOCK_LOCK` (R57): A lane has received 64 consecutive blocks with a valid sync header and counts as block-locked. -/
  | blockLock (p : Fin 6) (l : Fin 2)
  /-- `LOSS_OF_LOCK` (R57): A lane in ACTIVE has received 16 invalid sync headers within 64 blocks and loses lock, so the port enters RETRAIN. -/
  | lossOfLock (p : Fin 6) (l : Fin 2) (bad : Nat)
  /-- `TRAIN_BLOCK` (R55): A TRAIN block is received; it drives polarity detection and the DETECT, ALIGN, EQUALIZE and READY progress, or is a protocol error in ACTIVE. -/
  | trainBlock (p : Fin 6) (l : Fin 2) (inv : Bool) (body : Body)
  /-- `ALIGN_PAIR` (R53): An ALIGN pair is received; it resolves lane reversal and deskew from LANE_ID and MARKER_CNT, or detects a lane identity conflict. -/
  | alignPair (p : Fin 6) (b0 : Body) (b1 : Body) (skew : Nat)
  /-- `SKIP_PAIR` (R51): A SKIP pair is received and deleted or repeated to keep the elastic buffers of both lanes centred. -/
  | skipPair (p : Fin 6) (fill : Int)
  /-- `LANE_LEVEL_PAIR_DUE` (R51): A transmitter's count reaches 4,096 or 16,384 block periods and it sends a SKIP or ALIGN pair on both lanes. -/
  | laneLevelPairDue (p : Fin 6)
  /-- `IDLE` (R58): An IDLE block is received; in phase READY with all credits advertised it makes the port enter ACTIVE. -/
  | idle (p : Fin 6)
  /-- `NOTICE` (R64): A NOTICE block is received; RETRAIN_REQ leads to RETRAIN and GOING_DOWN to DOWN with cause 8. -/
  | notice (p : Fin 6) (code : Nat)
  /-- `FULL_FRAME` (R65): A full link frame is received; it is accepted and its flits go to VC buffers, or it is a duplicate or discarded with a NAK, and its ACK, NAK and credit report are processed. -/
  | fullFrame (p : Fin 6) (f : Frame)
  /-- `SHORT_FRAME` (R66): A short link frame is received and its ACK, NAK and credit report are processed, or it is discarded and counted. -/
  | shortFrame (p : Fin 6) (f : Frame)
  /-- `FRAME_SEND` (R62): A transmitter starts a full frame once a flit with credit is ready for slot 0, binding slots as they start. -/
  | frameSend (p : Fin 6)
  /-- `SHORT_FRAME_SEND` (R68): A receiver with an accepted frame, NAK or changed credit total and no frame in progress sends a short frame. -/
  | shortFrameSend (p : Fin 6)
  /-- `REPLAY_TIMER_EXPIRY` (R71): The 1.0 µs replay timer expires while frames are held and starts a replay. -/
  | replayTimerExpiry (p : Fin 6)
  /-- `LNK_EN` (R56): A write of LNK_P_n_CTL.EN enables training of the port or sends it to DOWN with cause 1. -/
  | lnkEn (p : Fin 6) (en : Bool)
  /-- `LNK_RST` (R85): A write of 1 to RST performs a link-port reset: the port goes to DOWN with cause 2 and clears its buffers, counters, EVT and PEER. -/
  | lnkRst (p : Fin 6)
  /-- `LNK_RETRAIN` (R56): A write of 1 to RETRAIN sends an ACTIVE port into RETRAIN with four RETRAIN_REQ notices. -/
  | lnkRetrain (p : Fin 6)
  /-- `INJ_CRC` (R81): A write of 1 to INJ_CRC inverts CRC bit 0 of the next full frame sent. -/
  | injCrc (p : Fin 6)
  /-- `LNK_TEST` (R82): A write of TEST selects normal mode, PRBS31 or near-end loopback, bypassing the link layer and holding the port in DOWN with cause 11. -/
  | lnkTest (p : Fin 6) (t : Fin 4)
  /-- `PRBS_SYNC` (R82): A lane's PRBS31 checker predicts 64 consecutive bits after seeding and sets SYNC, and INV for the complement. -/
  | prbsSync (p : Fin 6) (l : Fin 2) (inv : Bool)
  /-- `PRBS_SYNC_LOSS` (R82): A lane's PRBS31 checker counts 32 wrong bits within 64, clears SYNC and seeds itself again. -/
  | prbsSyncLoss (p : Fin 6) (l : Fin 2) (wrong : List Bool)
  /-- `PACKET_RECEIVE` (R103): A router receives a packet's flits into an input VC buffer, checks the header, discards malformed or stale packets and consumes HOP packets. -/
  | packetReceive (p : Fin 6) (v : Fin 8)
  /-- `PACKET_FORWARD` (R104): A whole packet, or a TC0 flit, wins its output under the TC0-first, 7-slot cycle and oldest-STAMP arbitration and leaves the router. -/
  | packetForward (out : Fin 8) (v : Fin 8)
  /-- `WRITE_STREAM` (R174): A WRITE_STREAM reaches a core's fabric ingress and is written if it lies in the window's live span, or is discarded and counted. -/
  | writeStream (pk : Packet)
  /-- `WRITE_BULK` (R93): A WRITE_BULK reaches its target, takes a bulk pool entry, is written and answered with WRITE_ACK or ERR. -/
  | writeBulk (pk : Packet)
  /-- `READ` (R94): A READ reaches its target, which answers with one READ_DATA of the whole length or with ERR. -/
  | read (pk : Packet)
  /-- `MSG` (R97): A MSG is placed in the mailbox that ADDR names and answered with WRITE_ACK, or ERR 0x04 when the mailbox is full. -/
  | msg (pk : Packet)
  /-- `CREDIT_REQ` (R172): A CREDIT_REQ for a write window is answered at once with CREDIT_RET of the granted units, or ERR 0x05 or 0x03. -/
  | creditReq (pk : Packet)
  /-- `READ_DATA` (R94): A READ_DATA response lands in its issuer's reserved slot and is written to the palette, or is discarded as late. -/
  | readData (pk : Packet)
  /-- `WRITE_ACK` (R93): A WRITE_ACK reaches its issuer, returning bulk credit and completing the write, note or SIGNAL it answers. -/
  | writeAck (pk : Packet)
  /-- `CREDIT_RET` (R201): A CREDIT_RET, solicited or unsolicited, adds granted units to a DMA channel's HELD and subtracts them from PEND. -/
  | creditRet (pk : Packet)
  /-- `ERR` (R95): An ERR response reaches its issuer and ends the transaction with the code it carries. -/
  | err (pk : Packet)
  /-- `RESPONSE_TIMEOUT` (R95): A request without a response 200 µs after issue ends locally with code 0x07 and its tag enters a 1 ms quarantine. -/
  | responseTimeout (issuer : Fin 14) (tag : Fin 1024)
  /-- `TAG_QUARANTINE_END` (R95): A tag's 1 ms quarantine ends; it becomes free, a waiting transaction may take it, and a timed-out bulk credit returns. -/
  | tagQuarantineEnd (issuer : Fin 14) (tag : Fin 1024)
  /-- `BEACON_RELEASE` (R107): The chip's TC0 shaper releases a routed BEACON once 125 µs have passed since its previous release. -/
  | beaconRelease
  /-- `TC0_SINK_SERVICE` (R106): The safety core pair services the TC0 sink queue, at least every 100 µs, taking the beacons it holds. -/
  | tc0SinkService
  /-- `ROUTE_SWITCH` (R111): Constellation time reaches the armed switch time T and the router swaps its route banks between two flit slots. -/
  | routeSwitch
  /-- `STALL_BREAKER` (R115): A TC1–TC3 packet header has waited 2 ms at an output and is discarded, requests answered with ERR 0x01, and the firing reported. -/
  | stallBreaker (out : Fin 8) (v : Fin 8)
  /-- `TIME_REQ_SEND` (R127): At each whole millisecond of CT a chip sends a TIME_REQ on each ACTIVE port. -/
  | timeReqSend (p : Fin 6)
  /-- `TIME_REQ` (R127): A TIME_REQ HOP packet is received and its arrival time is captured for an answer. -/
  | timeReq (p : Fin 6) (data : List Byte)
  /-- `TIME_RSP_SEND` (R127): At the first allowed instant after a TIME_REQ's arrival the chip sends the TIME_RSP, or drops it if 200 µs pass first. -/
  | timeRspSend (p : Fin 6)
  /-- `TIME_RSP` (R129): A TIME_RSP is received; it records the partner's LOCKED, DEPTH and ROOT and, from the parent, is a servo sample that may update FREQ and INC. -/
  | timeRsp (p : Fin 6) (data : List Byte)
  /-- `PARENT_CHOICE` (R126): Every millisecond of CT a non-pole chip chooses its time parent among its ACTIVE ports. -/
  | parentChoice
  /-- `LOCKED_LOSS` (R131): 10 ms pass without an accepted sample and LOCKED clears, driving FSYNC low and leading to self-report. -/
  | lockedLoss
  /-- `MEMBERSHIP_DECLARE` (R39): After 100 ms in which no new node became reachable, the pole declares the initial membership and broadcasts FORMATION. -/
  | membershipDeclare
  /-- `FORMATION` (R125): A FORMATION beacon is taken; the chip stores T_F and RATE, or enters the member phase at once if T_F has passed. -/
  | formation (b : Packet)
  /-- `FORMATION_INSTANT` (R125): Provisional CT reaches T_F; CT is set to 0, the member phase starts, RUN is set and epoch 0 begins. -/
  | formationInstant
  /-- `RATE_CHANGE` (R142): A RATE_CHANGE beacon is taken and firmware stages the new base and rate for boundary B. -/
  | rateChange (b : Packet)
  /-- `VT_UPDATE_SEND` (R140): After each epoch boundary the pole broadcasts VT_UPDATE with the vehicle offset and VT_VALID. -/
  | vtUpdateSend
  /-- `VT_UPDATE` (R142): A VT_UPDATE beacon is taken and firmware writes VT into CLK_VT_OFS and keeps VT_VALID. -/
  | vtUpdate (b : Packet)
  /-- `VT_STALE` (R142): No VT_UPDATE has been received for 3 epochs and the chip treats VT as not valid. -/
  | vtStale
  /-- `EPOCH_BOUNDARY` (R133): CT reaches boundary(n): epoch n begins, CLK_EPOCH_N is set, the epoch interrupt fires and every boundary-timed action takes effect. -/
  | epochBoundary
  /-- `FSYNC_EDGE` (R136): CT reaches the time of FSYNC edge j and the active edge leaves the pin. -/
  | fsyncEdge (k : Fin 4)
  /-- `FSYNC_PULSE_END` (R136): An FSYNC pulse has lasted WIDTH microseconds and the pin returns inactive. -/
  | fsyncPulseEnd (k : Fin 4)
  /-- `CLOCK_MONITOR_FAULT` (R143): Two consecutive windows of a divided clock fall outside their limits and raise a monitor bit and a safety event. -/
  | clockMonitorFault (m : Fin 9)
  /-- `PLL_LOCK_LOSS` (R143): The root or Ethernet PLL lock detector reports loss of lock. -/
  | pllLockLoss (root : Bool)
  /-- `CRYSTAL_LOSS` (R144): 64 backup periods pass without a crystal edge and the always-on domain takes over, driving safety outputs low and stopping links. -/
  | crystalLoss
  /-- `FAULT_RESET_DELAY` (R144): 1 ms after a clock loss, lockstep mismatch or class A reaction, the always-on domain issues a watchdog reset with the origin recorded. -/
  | faultResetDelay
  /-- `CLK_GATE_WRITE` (R121): A write of CLK_GATE opens gates within 16 cycles or requests the closing of gates. -/
  | clkGateWrite (v : Word)
  /-- `CORE_GATE_CLOSE` (R121): A core whose gate bit was cleared becomes idle and its clock gate closes. -/
  | coreGateClose (c : Fin 8)
  /-- `CLK_CT_LO_READ` (R123): A read of CLK_CT_LO latches the matching upper half into CLK_CT_HI. -/
  | clkCtLoRead
  /-- `PTP_SYNC` (R139): A PTP Sync message is received on the pole's port, timestamped, and used to update the vehicle offset and steering. -/
  | ptpSync (e : Fin 2) (data : List Byte)
  /-- `PTP_FOLLOW_UP` (R139): A PTP Follow_Up message completes a two-step Sync. -/
  | ptpFollowUp (e : Fin 2) (data : List Byte)
  /-- `PTP_ANNOUNCE` (R139): A PTP Announce message is received and enters master selection by the best master clock algorithm. -/
  | ptpAnnounce (e : Fin 2) (data : List Byte)
  /-- `PTP_DELAY_REQ_SEND` (R139): The pole sends a two-step Delay_Req and timestamps it. -/
  | ptpDelayReqSend
  /-- `PTP_DELAY_RESP` (R139): A PTP Delay_Resp is received and completes the delay measurement. -/
  | ptpDelayResp (e : Fin 2) (data : List Byte)
  /-- `PTP_MASTER_LOSS` (R142): No Sync arrives for 3 announce intervals; VT is frozen and later VT_UPDATE beacons carry VT_VALID = 0. -/
  | ptpMasterLoss
  /-- `PAL_RGN_WRITE` (R157): A write to a palette region register applies the enable checks, or raises cause 7 for a change to an enabled region. -/
  | palRgnWrite (c : Fin 8) (r : Fin 8) (w : Fin 3) (v : Word)
  /-- `PAL_BANK_PWR_WRITE` (R169): A write of PAL_BANK_PWR powers bank pairs down within 1 µs or starts their power-up. -/
  | palBankPwrWrite (c : Fin 8) (v : Word)
  /-- `PAIR_READY` (R169): A powered-up bank pair finishes its automatic clear and its PAL_BANK_PWR_STAT bit reads 1. -/
  | pairReady (c : Fin 8) (pair : Fin 16)
  /-- `PAL_WIN_CFG_WRITE` (R171): A write of a window's CFG opens it with counts reset, or closes it so that credits lapse. -/
  | palWinCfgWrite (c : Fin 8) (w : Fin 16) (v : Word)
  /-- `PAL_WIN_REL` (R173): A write of PAL_WIN_w_REL releases units and may send an unsolicited CREDIT_RET to the producer. -/
  | palWinRel (c : Fin 8) (w : Fin 16) (v : Word)
  /-- `NARROW_DISPLACE` (R162): A narrow request that has lost its bank for 64 consecutive cycles takes it and the wide port stalls one cycle. -/
  | narrowDisplace (c : Fin 8) (b : Fin 16) (step : Nat)
  /-- `CLEAR_PHASE_END` (R176): A tenant clear phase ends on a core and the next phase starts, or the release completes and PWR_CLEAR_PENDING clears. -/
  | clearPhaseEnd (c : Fin 8)
  /-- `DMA_STEP` (R183): A DMA step pushes its descriptor into the queue of the channel it names, stalling issue while the queue is full. -/
  | dmaStep (c : Fin 8)
  /-- `DESCRIPTOR_START` (R192): A channel starts its next descriptor once the previous one ended, checking it before moving any byte. -/
  | descriptorStart (c : Fin 8) (ch : Fin 8)
  /-- `DMA_PACKET_FORM` (R190): A channel with slot room and credit forms its next packet or local write and presents it for injection. -/
  | dmaPacketForm (c : Fin 8) (ch : Fin 8)
  /-- `DESCRIPTOR_COMPLETE` (R184): Every write, packet, acknowledgement and read of a descriptor is done; DONE_CNT rises and DONE may be set. -/
  | descriptorComplete (c : Fin 8) (ch : Fin 8)
  /-- `BULK_RESEND` (R210): 100 µs after an ERR 0x04 to a WRITE_BULK the channel sends the packet again with a new tag. -/
  | bulkResend (c : Fin 8) (ch : Fin 8)
  /-- `DMA_FLUSH` (R206): A write of FLUSH empties a channel's queue and ends its descriptor locally. -/
  | dmaFlush (c : Fin 8) (ch : Fin 8)
  /-- `DMA_NOTE_GO` (R204): A write of GO to a note slot issues its bytes as a local write, WRITE_BULK or MSG, or is ignored if the slot is busy. -/
  | dmaNoteGo (c : Fin 8) (sl : Fin 4) (ten : Fin 8)
  /-- `SEQ_GO` (R225): A write of GO starts the first pass of the step list at SEQ_ENTRY. -/
  | seqGo (c : Fin 8)
  /-- `SEQ_HALT` (R216): A write of HALT ends the context. -/
  | seqHalt (c : Fin 8)
  /-- `RERUN_GO` (R229): A write of RERUN_GO tells the sequencer the weight re-fetch is done so the aborted step may re-run. -/
  | rerunGo (c : Fin 8)
  /-- `SEQ_ABANDON` (R227): A write of ABANDON abandons the epoch for the core. -/
  | seqAbandon (c : Fin 8)
  /-- `PLAN_SWITCH` (R228): At boundary(n) with ARM set the sequencer ends in-flight work, copies the NEXT values and starts the new list. -/
  | planSwitch (c : Fin 8)
  /-- `TENSOR` (R248): A TENSOR step issues once its arrays are free and its checks pass, or kills the context. -/
  | tensor (c : Fin 8)
  /-- `TENSOR_COMPLETE` (R221): The last output write of a tensor operation is granted and its step counter rises by 1. -/
  | tensorComplete (c : Fin 8) (st : Nat)
  /-- `WAIT_STEP` (R222): A WAIT step holds issue until its counter, and ACT_IDLE where asked, reaches its target. -/
  | waitStep (c : Fin 8)
  /-- `BARRIER` (R223): A BARRIER step reads its flag word and holds issue until it reaches its target. -/
  | barrier (c : Fin 8)
  /-- `BARRIER_REREAD` (R223): Every 16 cycles a waiting BARRIER reads its flag word again. -/
  | barrierReread (c : Fin 8)
  /-- `SIGNAL` (R223): A SIGNAL step writes its value locally or by WRITE_BULK. -/
  | signal (c : Fin 8)
  /-- `CREDIT_WAIT` (R224): A CREDIT_WAIT step holds issue until its channel holds enough credit. -/
  | creditWait (c : Fin 8)
  /-- `CREDIT_REL` (R224): A CREDIT_REL step releases units of a window of this core. -/
  | creditRel (c : Fin 8)
  /-- `EPOCH_END` (R225): An EPOCH_END step drains in-flight steps, waits for a later boundary, captures the bases and jumps to SEQ_ENTRY. -/
  | epochEnd (c : Fin 8)
  /-- `TEST` (R622): A TEST step runs a self-test vector set on its arrays once they are free. -/
  | test (c : Fin 8)
  /-- `TEST_COMPLETE` (R622): A self-test set ends; a mismatch sets TEST_FAIL and raises code 0x0D, and the step counter rises. -/
  | testComplete (c : Fin 8) (st : Nat) (pass : Bool)
  /-- `RERUN_ISSUE` (R229): Once the aborted step has released its resources, and any re-fetch is done, the sequencer issues it again ahead of later steps. -/
  | rerunIssue (c : Fin 8)
  /-- `SFU_LOAD_GO` (R283): A write of GO to SFU_LOAD_CTL starts loading a table image into a slot. -/
  | sfuLoadGo (c : Fin 8) (slot : Fin 16)
  /-- `SFU_UNLOAD` (R285): A write of UNLOAD makes a slot EMPTY. -/
  | sfuUnload (c : Fin 8) (slot : Fin 16)
  /-- `SFU_LOAD_END` (R283): A slot load ends: the slot becomes READY with its signature, or the load fails with a cause. -/
  | sfuLoadEnd (c : Fin 8)
  /-- `SFU_SELF_TEST_START` (R291): Every 10 ms the SFU self-test engine starts a pass. -/
  | sfuSelfTestStart (c : Fin 8)
  /-- `SFU_SELF_TEST_LATE` (R291): A pass unfinished 20 ms after its start takes one SFU cycle in every 64. -/
  | sfuSelfTestLate (c : Fin 8)
  /-- `SFU_SELF_TEST_END` (R291): A self-test pass ends; a mismatch sets ST_FAIL and raises a safety event. -/
  | sfuSelfTestEnd (c : Fin 8) (slot : Fin 32) (pass : Bool)
  /-- `TG_LAUNCH` (R298): A TG_LAUNCH step issues when launches, split and granules allow, is checked and becomes a launch in flight. -/
  | tgLaunch (c : Fin 8)
  /-- `GROUP_RESIDENT` (R299): A group of a launch becomes resident once a slot, registers and granules are free, with its initial state. -/
  | groupResident (c : Fin 8) (g : Fin 32)
  /-- `LAUNCH_COMPLETE` (R302): Every group has ended and every store and request returned; the launch completes and its counter rises. -/
  | launchComplete (c : Fin 8) (st : Nat)
  /-- `LAUNCH_LIMIT` (R319): A launch's LIMIT expires before completion and the context is killed with code 0x18. -/
  | launchLimit (c : Fin 8) (st : Nat)
  /-- `NOP` (R334): The NOP instruction does nothing. -/
  | nop (c : Fin 8) (g : Fin 32)
  /-- `EXIT` (R345): EXIT ends the executing lanes and may pop divergence entries or end the group. -/
  | exit (c : Fin 8) (g : Fin 32)
  /-- `BRA` (R346): BRA branches the executing lanes to the target. -/
  | bra (c : Fin 8) (g : Fin 32)
  /-- `BRD` (R347): BRD pushes reconvergence and waiting entries and splits the mask in masked mode. -/
  | brd (c : Fin 8) (g : Fin 32)
  /-- `RCV` (R347): RCV pops the divergence stack and resumes the waiting side or reconverges. -/
  | rcv (c : Fin 8) (g : Fin 32)
  /-- `YIELD` (R348): YIELD ends the current set's run in independent mode. -/
  | yield (c : Fin 8) (g : Fin 32)
  /-- `WAIT` (R348): WAIT holds the group until its earlier memory, SFU and note instructions complete. -/
  | wait (c : Fin 8) (g : Fin 32)
  /-- `FENCE` (R348): FENCE holds the group until its earlier stores and atomics are granted. -/
  | fence (c : Fin 8) (g : Fin 32)
  /-- `JOIN` (R348): JOIN sets the thread's WAITING flag and waits at the JOIN. -/
  | join (c : Fin 8) (g : Fin 32)
  /-- `LBAR` (R348): LBAR makes the group arrive at the launch barrier. -/
  | lbar (c : Fin 8) (g : Fin 32)
  /-- `WAIT_RELEASE` (R348): The outstanding instructions of a group held by WAIT or FENCE complete and the group proceeds. -/
  | waitRelease (c : Fin 8) (g : Fin 32)
  /-- `JOIN_RELEASE` (R348): Every unended thread has reached the same JOIN and the threads proceed as one set. -/
  | joinRelease (c : Fin 8) (g : Fin 32)
  /-- `LBAR_RELEASE` (R348): Every group of the launch has arrived at the same LBAR count or ended and the groups proceed. -/
  | lbarRelease (c : Fin 8) (st : Nat)
  /-- `ADD` (R335): ADD writes A + B modulo 2³². -/
  | add (c : Fin 8) (g : Fin 32)
  /-- `SUB` (R335): SUB writes A − B modulo 2³². -/
  | sub (c : Fin 8) (g : Fin 32)
  /-- `MUL` (R335): MUL writes the low 32 bits of A × B. -/
  | mul (c : Fin 8) (g : Fin 32)
  /-- `MULHI` (R335): MULHI writes the high 32 bits of the product, signed or unsigned. -/
  | mulhi (c : Fin 8) (g : Fin 32)
  /-- `MAD` (R335): MAD writes the low 32 bits of A × B + C. -/
  | mad (c : Fin 8) (g : Fin 32)
  /-- `MIN` (R335): MIN writes the smaller operand, signed or unsigned. -/
  | min (c : Fin 8) (g : Fin 32)
  /-- `MAX` (R335): MAX writes the larger operand, signed or unsigned. -/
  | max (c : Fin 8) (g : Fin 32)
  /-- `AND` (R335): AND writes the bitwise and. -/
  | and (c : Fin 8) (g : Fin 32)
  /-- `OR` (R335): OR writes the bitwise or. -/
  | or (c : Fin 8) (g : Fin 32)
  /-- `XOR` (R335): XOR writes the bitwise exclusive or. -/
  | xor (c : Fin 8) (g : Fin 32)
  /-- `SHL` (R335): SHL shifts A left by B. -/
  | shl (c : Fin 8) (g : Fin 32)
  /-- `SHR` (R335): SHR shifts A right by B, arithmetic or logical. -/
  | shr (c : Fin 8) (g : Fin 32)
  /-- `SEL` (R335): SEL selects A or B by a predicate bit. -/
  | sel (c : Fin 8) (g : Fin 32)
  /-- `MOV` (R335): MOV copies A. -/
  | mov (c : Fin 8) (g : Fin 32)
  /-- `CLZ` (R335): CLZ counts leading zeros. -/
  | clz (c : Fin 8) (g : Fin 32)
  /-- `ONES` (R335): ONES counts set bits. -/
  | ones (c : Fin 8) (g : Fin 32)
  /-- `FADD` (R336): FADD adds in the floating type TY. -/
  | fadd (c : Fin 8) (g : Fin 32)
  /-- `FSUB` (R336): FSUB subtracts in the floating type TY. -/
  | fsub (c : Fin 8) (g : Fin 32)
  /-- `FMUL` (R336): FMUL multiplies in the floating type TY. -/
  | fmul (c : Fin 8) (g : Fin 32)
  /-- `FMA` (R336): FMA forms a fused multiply-add rounded once. -/
  | fma (c : Fin 8) (g : Fin 32)
  /-- `FMIN` (R336): FMIN returns the smaller floating operand or the canonical NaN. -/
  | fmin (c : Fin 8) (g : Fin 32)
  /-- `FMAX` (R336): FMAX returns the larger floating operand or the canonical NaN. -/
  | fmax (c : Fin 8) (g : Fin 32)
  /-- `FNEG` (R336): FNEG inverts the sign of a non-NaN operand. -/
  | fneg (c : Fin 8) (g : Fin 32)
  /-- `FABS` (R336): FABS clears the sign of a non-NaN operand. -/
  | fabs (c : Fin 8) (g : Fin 32)
  /-- `CMPI` (R337): CMPI writes an integer comparison into a predicate register. -/
  | cmpi (c : Fin 8) (g : Fin 32)
  /-- `CMPF` (R337): CMPF writes a floating comparison into a predicate register. -/
  | cmpf (c : Fin 8) (g : Fin 32)
  /-- `MOP` (R337): MOP combines two predicate registers. -/
  | mop (c : Fin 8) (g : Fin 32)
  /-- `MPACK` (R337): MPACK writes a predicate mask into a u register. -/
  | mpack (c : Fin 8) (g : Fin 32)
  /-- `MUNPK` (R337): MUNPK writes u register bits into a predicate register. -/
  | munpk (c : Fin 8) (g : Fin 32)
  /-- `XLANE` (R337): XLANE reads a register from another lane. -/
  | xlane (c : Fin 8) (g : Fin 32)
  /-- `LPICK` (R337): LPICK writes one lane's v register value into a u register. -/
  | lpick (c : Fin 8) (g : Fin 32)
  /-- `CVT` (R338): CVT converts between number formats. -/
  | cvt (c : Fin 8) (g : Fin 32)
  /-- `BSUNP` (R339): BSUNP decodes a BS8 element to FP32. -/
  | bsunp (c : Fin 8) (g : Fin 32)
  /-- `BSPK` (R339): BSPK packs two blocks of FP32 values into BS8. -/
  | bspk (c : Fin 8) (g : Fin 32)
  /-- `BSEL` (R335): BSEL selects bytes from a 64-bit pair. -/
  | bsel (c : Fin 8) (g : Fin 32)
  /-- `MOVI` (R335): MOVI writes a 32-bit immediate. -/
  | movi (c : Fin 8) (g : Fin 32)
  /-- `LD` (R340): LD loads from the palette or local store. -/
  | ld (c : Fin 8) (g : Fin 32)
  /-- `ST` (R340): ST stores to the palette or local store. -/
  | st (c : Fin 8) (g : Fin 32)
  /-- `ATOM` (R341): ATOM performs a local-store atomic per lane. -/
  | atom (c : Fin 8) (g : Fin 32)
  /-- `SFU` (R343): The SFU instruction evaluates a table slot on each executing lane. -/
  | sfu (c : Fin 8) (g : Fin 32)
  /-- `RSCLR` (R343): RSCLR clears a row accumulator with a shift K. -/
  | rsclr (c : Fin 8) (g : Fin 32)
  /-- `RSADD` (R343): RSADD merges the lanes' values into a row accumulator. -/
  | rsadd (c : Fin 8) (g : Fin 32)
  /-- `RSMRG` (R343): RSMRG merges one row accumulator into another. -/
  | rsmrg (c : Fin 8) (g : Fin 32)
  /-- `RSRD` (R343): RSRD reads a row accumulator into six u registers. -/
  | rsrd (c : Fin 8) (g : Fin 32)
  /-- `NOTE` (R344): NOTE fills and issues a note slot for the group, waiting while it is busy. -/
  | note (c : Fin 8) (g : Fin 32)
  /-- `NOTEST` (R344): NOTEST reads a note slot's status into a u register. -/
  | notest (c : Fin 8) (g : Fin 32)
  /-- `FRAME_START` (R360): A CSI-2 FS packet opens a frame with its ID, or is discarded off-window or voids an open frame. -/
  | frameStart (p : Fin 4) (num : Nat) (h : CsiHead)
  /-- `FRAME_END` (R361): A CSI-2 FE packet closes a frame; the record, statistics, frozen check and embedded-data check latch and the blanking window opens. -/
  | frameEnd (p : Fin 4) (h : CsiHead)
  /-- `PIXEL_LINE` (R357): A pixel line is received, replaced if bad, unpacked and passed through the ground stage. -/
  | pixelLine (p : Fin 4) (data : List Byte) (crcErr : Bool) (laneErr : Bool) (ovf : Bool) (h : CsiHead)
  /-- `EMBEDDED_LINE` (R356): An embedded line is received and its bytes numbered for readback. -/
  | embeddedLine (p : Fin 4) (data : List Byte) (h : CsiHead)
  /-- `LINE_START` (R355): A line start or line end packet is accepted and ignored. -/
  | lineStart (p : Fin 4) (h : CsiHead)
  /-- `PACKET_DISCARD` (R355): A packet that no filter keeps is discarded and counted. -/
  | packetDiscard (p : Fin 4) (h : CsiHead)
  /-- `UNCORRECTABLE_HEADER` (R357): A packet header with an uncorrectable ECC error is discarded. -/
  | uncorrectableHeader (p : Fin 4)
  /-- `FS_WINDOW_CLOSE` (R361): The FS window of edge j closes without an FS and a void record with cause 1 latches. -/
  | fsWindowClose (p : Fin 4)
  /-- `GROUP_DEADLINE` (R431): A group member's frame still open at edge_j + DEADLINE is closed as void. -/
  | groupDeadline (p : Fin 4)
  /-- `FREC_ID_LO_READ` (R364): A read of CAM_p_FREC_ID_LO takes a snapshot of the whole frame record. -/
  | frecIdLoRead (p : Fin 4)
  /-- `CAM_EN` (R374): A write of CAM_p_CTL.EN switches the receiver on after its checks, or off. -/
  | camEn (p : Fin 4) (en : Bool)
  /-- `I2C_STUCK_BUS` (R367): SCL held low for more than 1 ms makes the controller send 9 clocks and a STOP. -/
  | i2cStuckBus (b : Fin 5) (freed : Bool)
  /-- `SET_COMMIT` (R368): A write of COMMIT queues a settings set, or is refused when the queue is full. -/
  | setCommit (p : Fin 4)
  /-- `SET_FLUSH` (R375): A write of FLUSH empties the settings queue. -/
  | setFlush (p : Fin 4)
  /-- `SETRAM_WRITE` (R375): A write to a settings RAM entry stores it, or is refused when the entry belongs to a queued or busy set. -/
  | setramWrite (p : Fin 4) (e : Fin 256) (hi : Bool) (v : Word)
  /-- `SET_START` (R369): In an open blanking window the engine starts the head set that is due and fits. -/
  | setStart (p : Fin 4)
  /-- `I2C_ENTRY_WRITE` (R368): One settings entry's I²C write ends, with a retry after a first NACK or a stop of the set after a second. -/
  | i2cEntryWrite (p : Fin 4) (acked : Bool)
  /-- `SET_WRITTEN` (R369): A set is written whole; its effective frame and expected embedded image are recorded. -/
  | setWritten (p : Fin 4)
  /-- `BLANKING_CLOSE` (R369): A blanking window closes at edge − GUARD, or after WIN, and no further set starts in it. -/
  | blankingClose (p : Fin 4)
  /-- `STRIPE_ROW_WRITE` (R397): The stripe writer sends a row's WRITE_STREAM packets to a destination ring once credit allows. -/
  | stripeRowWrite (w : Fin 24)
  /-- `STRIPE_HEADER_WRITE` (R399): A complete stripe whose rows are written or consumed gets its header entry written. -/
  | stripeHeaderWrite (w : Fin 24)
  /-- `VERDICT_WRITE` (R399): After the record latches and every stripe header, the frame verdict entry is written. -/
  | verdictWrite (w : Fin 24)
  /-- `DEST_FAIL` (R402): A destination without a grant across 2 boundaries, or with a full header queue, fails. -/
  | destFail (w : Fin 24)
  /-- `OBSCURATION_CHECK` (R394): Firmware evaluates a frame's zone sums against the baselines and updates the obscuration state. -/
  | obscurationCheck (p : Fin 4)
  /-- `PARAM_SET_COMMIT` (R430): A COMMIT of a ground or feed parameter set captures its target and ID and starts its checks. -/
  | paramSetCommit (t : Fin 12)
  /-- `PARAM_SET_ABORT` (R430): An ABORT returns an ARMED parameter set to OPEN. -/
  | paramSetAbort (t : Fin 12)
  /-- `PARAM_SET_CHECKS_DONE` (R430): The checks of an ARMED parameter set finish. -/
  | paramSetChecksDone (t : Fin 12)
  /-- `PARAM_SET_APPLY` (R430): At a frame boundary at or after T the set is swapped in or refused. -/
  | paramSetApply (t : Fin 12)
  /-- `PARAM_SET_SYNC_DONE` (R430): The active set has been copied into the shadow and the set returns to OPEN. -/
  | paramSetSyncDone (t : Fin 12)
  /-- `FEED_EN` (R435): A write of a feed's EN enables it after its checks, or disables it. -/
  | feedEn (f : Fin 8) (en : Bool)
  /-- `FEED_AVAIL_WRITE` (R413): A write of AVAIL may start the next feed frame, latching layers, or skip frames as void. -/
  | feedAvailWrite (f : Fin 8) (v : Word)
  /-- `FEED_VERDICT_WRITE` (R414): A write of VERDICT reports a frame's void state. -/
  | feedVerdictWrite (f : Fin 8) (v : Word)
  /-- `VERDICT_LATE` (R414): No matching verdict within 2 epochs of a feed frame's boundary makes it void. -/
  | verdictLate (f : Fin 8)
  /-- `FEED_ROW_READ` (R412): The formatter reads feed rows by READ and writes FREE after consuming them. -/
  | feedRowRead (f : Fin 8)
  /-- `RTP_PACKET_SEND` (R420): The formatter forms and queues an RTP packet of one line pair, compositing glaze layers. -/
  | rtpPacketSend (f : Fin 8) (k : Fin 2)
  /-- `HELD_PACKET_SEND` (R421): Once a frame's void state is final its held last packet leaves with M = 1. -/
  | heldPacketSend (f : Fin 8) (k : Fin 2)
  /-- `CSITX_LINE_SEND` (R422): The CSI-2 transmitter sends the next ready line of a feed's coding picture. -/
  | csitxLineSend (f : Fin 8)
  /-- `LAYER_READY_WRITE` (R425): A producer publishes a finished layer buffer and READY_CNT rises. -/
  | layerReadyWrite (f : Fin 8) (l : Fin 4) (v : Word) (fid : Word)
  /-- `GROUP_STATE_UPDATE` (R433): The pole counts consecutive void verdicts per group member and sets the group DEGRADED or NORMAL. -/
  | groupStateUpdate (g : Fin 16) (node : Fin 64) (p : Fin 4) (void_ : Bool)
  /-- `EPOCH_READY_SEND` (R449): Once a chip's completion flags reach their targets it sends EPOCH_READY. -/
  | epochReadySend (plan : Nat) (n : Nat)
  /-- `EPOCH_READY` (R450): The pole takes an EPOCH_READY. -/
  | epochReady (b : Packet)
  /-- `EPOCH_COMMIT_SEND` (R450): The pole broadcasts EPOCH_COMMIT once every READY is held and the previous epoch decided. -/
  | epochCommitSend (plan : Nat)
  /-- `EPOCH_COMMIT` (R451): A chip takes EPOCH_COMMIT and updates its epoch words. -/
  | epochCommit (b : Packet)
  /-- `EPOCH_ABANDON` (R451): A chip takes EPOCH_ABANDON and marks the epoch INVALID in its epoch words. -/
  | epochAbandon (b : Packet)
  /-- `GETS` (R463): An L1 read request to the L2. -/
  | gets (u : Fin 6) (line : Fin 49152)
  /-- `GETM` (R464): An L1 ownership request, granted in rotating order with losers snooped and replayed. -/
  | getm (u : Fin 3) (line : Fin 49152)
  /-- `PUTM` (R463): An L1 writes back an M line. -/
  | putm (u : Fin 3) (line : Fin 49152)
  /-- `PUTC` (R463): An L1 evicts a clean line. -/
  | putc (u : Fin 6) (line : Fin 49152)
  /-- `SNOOP` (R465): An L1 answers a snoop after completing its granted store. -/
  | snoop (u : Fin 3) (line : Fin 49152)
  /-- `LOCKSTEP_MISMATCH` (R472): The safety core pair's outputs differ; the pair stops and the outputs go low. -/
  | lockstepMismatch
  /-- `BOOT_STAGE_END` (R475): A boot ROM stage ends and the next starts, releasing the cores at stage 4. -/
  | bootStageEnd (ok : Bool)
  /-- `LINK_BOOT_TIMEOUT` (R479): 10 ms without progress from a neighbour moves link boot to the next ACTIVE port. -/
  | linkBootTimeout
  /-- `LINK_BOOT_PUSH` (R480): A running chip pushes its boot header and images to a requesting neighbour and sends BOOT_GO. -/
  | linkBootPush (node : Fin 64)
  /-- `SPI_WRITE` (R490): An SPI WRITE transaction writes data into the SPI window. Bits 23 to 16 of the operand are
  the opcode byte that the host sent, where it is not this command's own. -/
  | spiWrite (addr : Nat) (data : List Byte)
  /-- `SPI_READ` (R490): An SPI READ transaction returns data from the SPI window. Bits 23 to 16 of the operand are
  as for `SPI_WRITE`. -/
  | spiRead (addr : Nat) (n : Nat)
  /-- `SPI_STATUS` (R490): An SPI STATUS transaction returns the status byte. -/
  | spiStatus
  /-- `MBX_POST` (R492): A host write to MBX_P_0_POST posts MB0 or MB3 slots. -/
  | mbxPost (p : Fin 4) (v : Word)
  /-- `MBX_CONSUME` (R492): The device consumes a posted mailbox message, freeing the slot and relaying or executing it. -/
  | mbxConsume (p : Fin 4) (mb : Fin 4) (sl : Fin 16)
  /-- `MBX_OUT_CLEAR` (R492): A host W1C write to MBX_P_0_OUT frees response or event slots. -/
  | mbxOutClear (p : Fin 4) (v : Word)
  /-- `UDP_DATAGRAM` (R493): A UDP datagram on port 47110 carries one KMP message to MB0 or MB3. -/
  | udpDatagram (e : Fin 2) (src : Nat) (data : List Byte)
  /-- `RELAY_RETRY` (R495): 1 ms after an ERR 0x04 a relay fragment is sent again. -/
  | relayRetry (id : Nat)
  /-- `RELAY_TIMEOUT` (R495): A relayed message not placed within 20 ms is abandoned and a command answered with 0x010D. -/
  | relayTimeout (id : Nat)
  /-- `SESSION_PENDING_TIMEOUT` (R501): A pending session not authenticated within 2 s is dropped. -/
  | sessionPendingTimeout (sid : Nat)
  /-- `SESSION_IDLE_TIMEOUT` (R504): A session with no valid message for 10 s closes. -/
  | sessionIdleTimeout (sid : Nat)
  /-- `HANDLE_LAPSE` (R513): A transfer handle lapses 60 s after its last chunk. -/
  | handleLapse (h : Nat)
  /-- `GET_INFO` (R488): Command 0x0100 returns chip information, answered by the entry chip. -/
  | getInfo (r : Req)
  /-- `SESSION_OPEN` (R501): Command 0x0101 opens a pending session with nonces. -/
  | sessionOpen (r : Req)
  /-- `SESSION_AUTH` (R501): Command 0x0102 proves the role key and opens the session. -/
  | sessionAuth (r : Req)
  /-- `SESSION_CLOSE` (R504): Command 0x0103 closes the session. -/
  | sessionClose (r : Req)
  /-- `KEEPALIVE` (R504): Command 0x0104 keeps the session alive. -/
  | keepalive (r : Req)
  /-- `EVENT_SUBSCRIBE` (R526): Command 0x0105 sets the session's event mask. -/
  | eventSubscribe (r : Req)
  /-- `CHIP_RESET` (R686): Command 0x0106 orders a KMP chip reset of a node 10 ms after its response. -/
  | chipReset (r : Req)
  /-- `CHIP_RESET_DELAY` (R686): 10 ms after the CHIP_RESET response the named chip performs a KMP chip reset. -/
  | chipResetDelay
  /-- `SET_OPERATOR_KEY` (R503): Command 0x0107 sets the operator key. -/
  | setOperatorKey (r : Req)
  /-- `GET_TIME` (R511): Command 0x0108 returns CT, epoch, VT and VT_VALID. -/
  | getTime (r : Req)
  /-- `OP_STATUS` (R507): Command 0x0109 returns the state of an operation. -/
  | opStatus (r : Req)
  /-- `CONST_STATUS` (R511): Command 0x0200 returns the constellation status. -/
  | constStatus (r : Req)
  /-- `NODE_STATUS` (R520): Command 0x0201 returns a node's status. -/
  | nodeStatus (r : Req)
  /-- `SET_CONFIG_RECORD` (R519): Command 0x0202 reads or writes a section of the configuration record. -/
  | setConfigRecord (r : Req)
  /-- `SET_FRAME_RATE` (R134): Command 0x0203 changes the master frame rate at a named boundary. -/
  | setFrameRate (r : Req)
  /-- `LINK_STATUS` (R511): Command 0x0204 returns a link port's registers. -/
  | linkStatus (r : Req)
  /-- `PTP_CONFIG` (R521): Command 0x0205 sets the PTP configuration. -/
  | ptpConfig (r : Req)
  /-- `TENANT_CREATE` (R512): Command 0x0300 creates a tenant. -/
  | tenantCreate (r : Req)
  /-- `TENANT_RELEASE` (R654): Command 0x0301 releases a tenant across its chips, clearing its memory. -/
  | tenantRelease (r : Req)
  /-- `TENANT_STATUS` (R525): Command 0x0302 returns a tenant's status. -/
  | tenantStatus (r : Req)
  /-- `MODEL_BEGIN` (R558): Command 0x0310 starts a staged package transfer. -/
  | modelBegin (r : Req)
  /-- `MODEL_CHUNK` (R513): Command 0x0311 writes a chunk of a staged package. -/
  | modelChunk (r : Req)
  /-- `MODEL_ADMIT` (R559): Command 0x0312 checks a staged package and chooses a variant. -/
  | modelAdmit (r : Req)
  /-- `MODEL_COMMIT` (R567): Command 0x0313 runs the two-phase commit of an admitted model. -/
  | modelCommit (r : Req)
  /-- `MODEL_UNLOAD` (R572): Command 0x0318 unloads a model at epoch U. -/
  | modelUnload (r : Req)
  /-- `MODEL_LIST` (R525): Command 0x0319 lists packages. -/
  | modelList (r : Req)
  /-- `CAM_CONFIGURE` (R515): Command 0x0400 writes a camera's registers. -/
  | camConfigure (r : Req)
  /-- `CAM_ENABLE` (R374): Command 0x0401 switches a camera on or off. -/
  | camEnable (r : Req)
  /-- `CAM_SETTINGS` (R516): Command 0x0402 writes and commits a settings set. -/
  | camSettings (r : Req)
  /-- `CAM_STATUS` (R522): Command 0x0403 returns a camera's status. -/
  | camStatus (r : Req)
  /-- `CAM_GROUND_SET` (R522): Command 0x0404 writes and commits a ground parameter set. -/
  | camGroundSet (r : Req)
  /-- `CAM_OBSCURATION_CFG` (R523): Command 0x0405 configures the obscuration diagnostic. -/
  | camObscurationCfg (r : Req)
  /-- `CAM_ASSIGN` (R373): Command 0x0406 assigns a camera to a tenant. -/
  | camAssign (r : Req)
  /-- `STREAM_CONFIGURE` (R524): Command 0x0500 writes a feed's configuration. -/
  | streamConfigure (r : Req)
  /-- `STREAM_ENABLE` (R524): Command 0x0501 switches a feed or one of its outputs on or off. -/
  | streamEnable (r : Req)
  /-- `FEED_SET` (R524): Command 0x0502 writes and commits a feed parameter set. -/
  | feedSet (r : Req)
  /-- `LAYER_CONFIGURE` (R524): Command 0x0503 configures a glaze layer. -/
  | layerConfigure (r : Req)
  /-- `STREAM_STATUS` (R524): Command 0x0504 returns a feed's status. -/
  | streamStatus (r : Req)
  /-- `CSITX_CONFIGURE` (R524): Command 0x0505 configures the CSI-2 transmitter. -/
  | csitxConfigure (r : Req)
  /-- `SERVICE_LIST` (R548): Command 0x0600 lists service instances. -/
  | serviceList (r : Req)
  /-- `SERVICE_START` (R548): Command 0x0601 starts a service instance. -/
  | serviceStart (r : Req)
  /-- `SERVICE_STOP` (R548): Command 0x0602 stops a service instance. -/
  | serviceStop (r : Req)
  /-- `SERVICE_SUBSCRIBE` (R548): Command 0x0603 subscribes a session to an instance's state events. -/
  | serviceSubscribe (r : Req)
  /-- `SERVICE_STATUS` (R548): Command 0x0604 returns an instance's status. -/
  | serviceStatus (r : Req)
  /-- `COUNT_READ` (R548): Command 0x0605 returns a door's last count message. -/
  | countRead (r : Req)
  /-- `SAFETY_STATUS` (R624): Command 0x0700 returns a node's safety status. -/
  | safetyStatus (r : Req)
  /-- `SAFETY_CONFIG` (R625): Command 0x0701 writes the OW_VALID bindings. -/
  | safetyConfig (r : Req)
  /-- `SAFETY_LOCK` (R624): Command 0x0702 locks or unlocks the safety configuration. -/
  | safetyLock (r : Req)
  /-- `SAFETY_FAULT_LOG` (R617): Command 0x0703 returns fault log entries. -/
  | safetyFaultLog (r : Req)
  /-- `SAFETY_TEST` (R626): Command 0x0704 injects a test fault and measures the reaction. -/
  | safetyTest (r : Req)
  /-- `ATTEST_QUOTE` (R644): Command 0x0800 returns a signed quote of a node. -/
  | attestQuote (r : Req)
  /-- `ATTEST_CERT` (R644): Command 0x0801 returns a node's certificate chain. -/
  | attestCert (r : Req)
  /-- `LIFECYCLE_STATUS` (R646): Command 0x0802 returns the device ID, lifecycle and a nonce. -/
  | lifecycleStatus (r : Req)
  /-- `DEBUG_UNLOCK_CHALLENGE` (R646): Command 0x0803 with byte 1 = 0 returns a challenge nonce. -/
  | debugUnlockChallenge (r : Req)
  /-- `DEBUG_UNLOCK_TOKEN` (R647): Command 0x0803 with byte 1 = 1 verifies a token and opens debug after releasing tenants. -/
  | debugUnlockToken (r : Req)
  /-- `LIFECYCLE_SET` (R632): Command 0x0804 moves a chip forward in its lifecycle by burning fuses. -/
  | lifecycleSet (r : Req)
  /-- `FUSE_BURN_DONE` (R632): A lifecycle fuse burn completes and LIFECYCLE_SET is answered. -/
  | fuseBurnDone
  /-- `CAL_STATUS` (R677): Command 0x0900 returns the calibration status. -/
  | calStatus (r : Req)
  /-- `CAL_RUN` (R671): Command 0x0901 starts a calibration run. -/
  | calRun (r : Req)
  /-- `CAL_CONFIG` (R677): Command 0x0902 configures calibration. -/
  | calConfig (r : Req)
  /-- `REG_READ` (R517): Command 0x0A00 reads registers of a node. -/
  | regRead (r : Req)
  /-- `REG_WRITE` (R517): Command 0x0A01 writes registers of a node. -/
  | regWrite (r : Req)
  /-- `COUNTERS` (R511): Command 0x0A02 returns a block's counters. -/
  | counters (r : Req)
  /-- `TELEMETRY` (R708): Command 0x0A03 returns temperatures, voltages and power. -/
  | telemetry (r : Req)
  /-- `PING` (R511): Command 0x0A04 echoes its payload. -/
  | ping (r : Req)
  /-- `FW_BEGIN` (R655): Command 0x0B10 starts a firmware transfer. -/
  | fwBegin (r : Req)
  /-- `FW_CHUNK` (R655): Command 0x0B11 writes a firmware chunk. -/
  | fwChunk (r : Req)
  /-- `FW_VERIFY` (R655): Command 0x0B12 verifies the staged image set. -/
  | fwVerify (r : Req)
  /-- `FW_ACTIVATE` (R656): Command 0x0B13 activates the new slot at a named reset. -/
  | fwActivate (r : Req)
  /-- `FW_STATUS` (R655): Command 0x0B14 returns the firmware slot status. -/
  | fwStatus (r : Req)
  /-- `LINK_BOOT_REQ` (R480): Command 0x0B20 asks a neighbour to push boot images. -/
  | linkBootReq (r : Req)
  /-- `BOOT_CHUNK` (R481): Command 0x0B21 writes staged boot data. -/
  | bootChunk (r : Req)
  /-- `BOOT_GO` (R480): Command 0x0B22 runs image verification on the staged boot set. -/
  | bootGo (r : Req)
  /-- `WARNING_COMPOSE` (R539): The composer forms the obstacle-warning message of an epoch and sends it to its publishers and shadow. -/
  | warningCompose (svc : Nat)
  /-- `DOOR_SAMPLE` (R542): Each millisecond a door-state input is sampled and a debounced level may open or close a door cycle. -/
  | doorSample (d : Fin 8) (level : Bool)
  /-- `SETTLE_EXPIRY` (R542): 2 s after CLOSE_CT the door window closes. -/
  | settleExpiry (d : Nat)
  /-- `DOOR_MAX_EXPIRY` (R542): A door stays open for DOOR_MAX and a DOOR_FAULT cycle is published. -/
  | doorMaxExpiry (d : Nat)
  /-- `COUNT_PUBLISH` (R544): Once every epoch of a door window is decided its count message is published. -/
  | countPublish (d : Nat)
  /-- `COMMIT_VERIFY_DONE` (R567): A chip finishes verifying a commit's sections and sends PREPARED. -/
  | commitVerifyDone (plan : Nat) (ok : Bool)
  /-- `PREPARED` (R567): The pole takes PREPARED and broadcasts ORDER once every chip has sent it. -/
  | prepared (b : Packet)
  /-- `ORDER` (R567): A chip stores the commit order and sends ORDERED. -/
  | order (b : Packet)
  /-- `ORDERED` (R567): The pole takes ORDERED and broadcasts GO once every chip has sent it. -/
  | ordered (b : Packet)
  /-- `GO` (R568): A chip stores GO with S and arms the switch. -/
  | go (b : Packet)
  /-- `COMMIT_ABORT` (R568): A chip clears the plan's staged regions and unloads its slots. -/
  | commitAbort (b : Packet)
  /-- `RESERVATION_LAPSE` (R564): An admission's reservation lapses after 60 s without commit. -/
  | reservationLapse (h : Nat)
  /-- `HEARTBEAT_SEND` (R579): At 500 µs of each ms a heartbeat is sent on each ACTIVE port if its payload is fresh. -/
  | heartbeatSend (p : Fin 6)
  /-- `SAF_HB_TX_3_WRITE` (R579): The safety pair writes SAF_HB_TX_3, refreshing the heartbeat payload. -/
  | safHbTx3Write (v : Word)
  /-- `HEARTBEAT` (R580): A heartbeat is received; MISS resets and a JOINING sender leads to JOIN_SEEN. -/
  | heartbeat (p : Fin 6) (data : List Byte)
  /-- `SILENT` (R580): MISS reaches 3 on a port; SILENT is set, the port disabled and LINK_REPORT sent. -/
  | silent (p : Fin 6)
  /-- `SILENT_PORT_REENABLE` (R580): 1 s after a SILENT port was disabled its EN is set again. -/
  | silentPortReenable (p : Fin 6)
  /-- `LINK_REPORT` (R584): The pole takes a LINK_REPORT and may declare a node lost. -/
  | linkReport (b : Packet)
  /-- `PARTIAL_REPORT_TIMEOUT` (R584): 10 ms after a first report, reports on fewer than all links of a node are treated as link failures. -/
  | partialReportTimeout (node : Fin 64)
  /-- `SELF_LOST` (R584): The pole takes a SELF_LOST and declares the sender lost. -/
  | selfLost (b : Packet)
  /-- `SELF_LOSS_RESET` (R582): 10 ms after SELF_LOST the chip issues a watchdog reset. -/
  | selfLossReset
  /-- `POLE_BEAT_SEND` (R585): The pole broadcasts POLE_BEAT every ms. -/
  | poleBeatSend
  /-- `POLE_BEAT` (R585): A chip takes POLE_BEAT, confirming the pole is alive. -/
  | poleBeat (b : Packet)
  /-- `POLE_LOSS_DETECT` (R585): 3.5 ms without POLE_BEAT; the chip switches to standby tables and stops executing KMP commands. -/
  | poleLossDetect
  /-- `POLE_CLAIM_SEND` (R587): A candidate broadcasts POLE_CLAIM at its rank's delay unless it follows a lower claimant. -/
  | poleClaimSend
  /-- `POLE_CLAIM` (R588): A member takes a POLE_CLAIM and acknowledges the lowest claimant heard. -/
  | poleClaim (b : Packet)
  /-- `CLAIM_ACK` (R589): A claimant takes an acknowledgement. -/
  | claimAck (b : Packet)
  /-- `CLAIM_WINDOW_END` (R589): 1 ms after its claim a claimant becomes pole if its acknowledgements meet R37. -/
  | claimWindowEnd
  /-- `NO_POLE_TIMEOUT` (R600): 30 ms after detection without a pole the chips of a part stop all services. -/
  | noPoleTimeout
  /-- `MEMBERSHIP` (R592): A chip takes MEMBERSHIP and prepares the fallback plan for epoch m, or records a join. -/
  | membership (b : Packet)
  /-- `EPOCH_FAIL` (R596): The pole takes EPOCH_FAIL and abandons the epoch. -/
  | epochFail (b : Packet)
  /-- `SECTION_RELOAD_DONE` (R593): The last chip reports reloaded sections written and the pole orders the switch at m′. -/
  | sectionReloadDone (plan : Nat)
  /-- `JOIN_SEEN` (R602): The pole takes JOIN_SEEN and accepts or refuses the join. -/
  | joinSeen (b : Packet) (quote : List Byte)
  /-- `AUTO_READMIT` (R594): The pole admits a halted or joined-chip model again from flash, one commit per tenant. -/
  | autoReadmit (model : Nat)
  /-- `OW_PERMIT_WRITE` (R614): A write of SAF_OW_PERMIT refreshes the permit, or voids it on a wrong key. -/
  | owPermitWrite (key : BitVec 16)
  /-- `OW_STOP` (R614): A write of STOP drives both OW_VALID pins low. -/
  | owStop
  /-- `PERMIT_LAPSE` (R614): 2 ms without a correct permit write stops the OW_VALID generator. -/
  | permitLapse
  /-- `OW_GENERATOR_START` (R613): At the next whole ms after its conditions hold the OW_VALID generator starts. -/
  | owGeneratorStart
  /-- `OW_READBACK_MISMATCH` (R616): Two consecutive pad samples mismatch and mechanism 0x15 is raised. -/
  | owReadbackMismatch (a : Bool) (b : Bool)
  /-- `PERMIT_CHECK` (R615): Every ms the safety pair writes the permit only if its instance is available with a recent VALID message. -/
  | permitCheck
  /-- `SAFETY_EVENT_TAKE` (R617): The safety pair takes a safety event, logs it and applies its reaction class. -/
  | safetyEventTake
  /-- `WDT_SERVICE` (R619): A write of SAF_WDT_SVC services the windowed watchdog, or fires it if early or wrong. -/
  | wdtService (key : BitVec 16)
  /-- `WATCHDOG_TIMEOUT` (R619): 10 ms without an accepted service fires the watchdog. -/
  | watchdogTimeout
  /-- `VOLTAGE_FAULT` (R620): Two consecutive monitor windows outside limits raise a voltage fault. -/
  | voltageFault (r : Fin 7) (mv : Nat)
  /-- `TEMPERATURE_FAULT` (R621): Two consecutive sensor readings out of range raise code 0x0A. -/
  | temperatureFault (sn : Fin 8) (t : Int)
  /-- `SELF_TEST_SET_RUN` (R622): The self-test engine runs a vector set on an array that has no operation in flight. -/
  | selfTestSetRun (c : Fin 8) (a : Fin 4) (st : Fin 16) (pass : Bool)
  /-- `SELF_TEST_FORCE` (R623): A set not run for 30 ms is forced. -/
  | selfTestForce (c : Fin 8) (a : Fin 4) (st : Fin 16) (pass : Bool)
  /-- `SELF_TEST_OVERDUE` (R623): A set not run for 40 ms sets OVERDUE and raises code 0x0D. -/
  | selfTestOverdue (c : Fin 8) (a : Fin 4) (st : Fin 16)
  /-- `MEAS_EXTEND` (R643): A write of GO to SEC_MEAS_EXT_CTL starts a measurement extension, or is refused. -/
  | measExtend (v : Word)
  /-- `MEAS_EXTEND_DONE` (R643): A measurement extension completes and BUSY clears. -/
  | measExtendDone
  /-- `ROMLOCK` (R643): A write setting ROMLOCK locks registers 0–2 against further extension. -/
  | romlock (v : Word)
  /-- `FW_CONFIRM` (R657): Once the constellation forms at the new version the pole confirms the update. -/
  | fwConfirm
  /-- `TRIAL_TIMEOUT` (R657): Unconfirmed trial firmware issues a watchdog reset after 120 s. -/
  | trialTimeout
  /-- `CAL_TEMP_TRIGGER` (R671): A sensor drifts by DT from its reference and a calibration run starts or is held. -/
  | calTempTrigger
  /-- `CAL_RUN_WRITE` (R671): A write of CAL_CTL.RUN starts a calibration run. -/
  | calRunWrite
  /-- `CAL_HOLD_END` (R671): The 1 s spacing ends and a held trigger starts its run. -/
  | calHoldEnd
  /-- `CAL_TASK_STEP` (R668): In a camera or link window a calibration task applies trim steps. -/
  | calTaskStep (task : Fin 5) (port : Fin 6) (lane : Fin 5) (what : Fin 3) (n : Int) (window : Bool)
  /-- `CAL_FORCE` (R670): A task that waited 250 ms for a window becomes forced. -/
  | calForce (task : Fin 5) (port : Fin 6)
  /-- `TRIM_RECORD_WRITE` (R675): A trim record is written to the slot not in force. -/
  | trimRecordWrite
  /-- `POWER_ON_RESET` (R682): The cold detector asserts reset on VDD_AON and clears the always-on domain. -/
  | powerOnReset
  /-- `BROWNOUT_RESET` (R682): The brownout detector asserts reset keeping the always-on domain. -/
  | brownoutReset
  /-- `RESET_N` (R687): A qualifying low pulse on RESET_N resets the chip. -/
  | resetN
  /-- `WATCHDOG_RESET` (R688): A watchdog reset restarts the dividers with the cause recorded. -/
  | watchdogReset (origin : Fin 256) (reason : Fin 256)
  /-- `RESET_RELEASE` (R684): The dividers release after PLL lock; straps are sampled and ROM stage 0 starts. -/
  | resetRelease (straps : BitVec 9)
  /-- `CRYSTAL_RESTART_RETRY` (R689): After clock loss without lock the always-on domain restarts the clock sequence every 100 ms. -/
  | crystalRestartRetry
  /-- `PWR_CORE_RST` (R690): A write of PWR_CORE_RST starts a core-local reset. -/
  | pwrCoreRst (v : Word)
  /-- `CORE_RESET_DONE` (R690): A core-local reset completes and the core returns. -/
  | coreResetDone (c : Fin 8)
  /-- `PARK_REQ_DEBOUNCE` (R699): A PARK_REQ level held 1 s requests or ends PARK. -/
  | parkReqDebounce (level : Bool)
  /-- `PARK_EXIT_PREPARE` (R702): 5 ms before boundary(X) chips ungate cores and restore their plans. -/
  | parkExitPrepare
  /-- `GOVERNOR_ESTIMATE` (R703): Every 100 µs the governor estimates chip power. -/
  | governorEstimate (mw : Nat)
  /-- `GOVERNOR_STEP` (R704): Every 1 ms the governor changes the throttle level by at most one step. -/
  | governorStep
  /-- `GOVERNOR_LIMIT` (R707): 100 ms at level 7 above PMAX sets LIMIT. -/
  | governorLimit
  /-- `REGISTER_WRITE` (R717): A write to a register with no row of its own takes effect at its grant. -/
  | registerWrite (ag : Fin 4) (a : Nat) (v : Word)
  /-- `PAIR_LO_READ` (R718): A read of the LO word of a read-only 64-bit pair latches its HI word. -/
  | pairLoRead (a : Nat)
  /-- `ETH_EN` (R721): A write of PER_ETH_e_CTL.EN enables the port after its checks and sends gratuitous ARP. -/
  | ethEn (e : Fin 2) (v : Word)
  /-- `ETH_LINK_CHANGE` (R721): An Ethernet port's link rises or falls. -/
  | ethLinkChange (e : Fin 2) (up : Bool)
  /-- `ETH_FRAME_RECEIVE` (R763): An Ethernet frame is received and filtered, tagged and dispatched. -/
  | ethFrameReceive (e : Fin 2) (data : List Byte) (fcsOk : Bool)
  /-- `ARP_REQUEST` (R763): An ARP request for the port's address is answered. -/
  | arpRequest (e : Fin 2) (data : List Byte)
  /-- `ARP_RETRY` (R763): An ARP miss resends its request every 1 s up to 3 times. -/
  | arpRetry (e : Fin 2) (ip : Nat)
  /-- `ARP_ENTRY_EXPIRY` (R763): An ARP cache entry expires after 300 s. -/
  | arpEntryExpiry (e : Fin 2) (ip : Nat)
  /-- `ICMP_ECHO` (R763): An ICMP echo request is answered. -/
  | icmpEcho (e : Fin 2) (data : List Byte)
  /-- `IGMP_QUERY` (R763): An IGMP query is answered with a report for the PTP group. -/
  | igmpQuery (e : Fin 2)
  /-- `REASSEMBLY_TIMEOUT` (R763): A fragmented datagram not reassembled within 100 ms is dropped. -/
  | reassemblyTimeout (e : Fin 2) (id : Nat)
  /-- `MDIO_GO` (R722): A write of GO starts an MDIO frame. -/
  | mdioGo (v : Word)
  /-- `MDIO_DONE` (R722): An MDIO frame ends. -/
  | mdioDone (driven : Bool) (rd : BitVec 16)
  /-- `QSPI_GO` (R724): A write of GO starts a QSPI command. -/
  | qspiGo (v : Word)
  /-- `QSPI_DONE` (R724): A QSPI command ends. -/
  | qspiDone (data : List Byte)
  /-- `I2C4_GO` (R725): A write of GO starts an I2C_4 transfer. -/
  | i2c4Go (v : Word)
  /-- `I2C4_DONE` (R725): An I2C_4 transfer ends with DONE, NACK or STUCK. -/
  | i2c4Done (nack : Bool) (stuck : Bool) (data : List Byte)
  /-- `UART_TX_WRITE` (R723): A write of PER_UART_u_TX pushes a byte into the transmit FIFO. -/
  | uartTxWrite (u : Fin 2) (b : Byte)
  /-- `UART_RX_READ` (R723): A read of PER_UART_u_RX pops the oldest byte. -/
  | uartRxRead (u : Fin 2)
  /-- `UART_BYTE_RECEIVED` (R723): A UART byte is received into the FIFO. -/
  | uartByteReceived (u : Fin 2) (b : Byte) (frameErr : Bool) (parErr : Bool)
  /-- `GPIO_EDGE` (R723): A GPIO edge is recorded. -/
  | gpioEdge (pin : Fin 16) (rise : Bool)
  /-- `DOOR_EDGE` (R723): A door-state input edge is recorded. -/
  | doorEdge (pin : Fin 8) (rise : Bool)
  /-- `TAP_RESET` (R762): The TAP is reset. -/
  | tapReset
  /-- `EXTEST` (R759): The EXTEST instruction drives pins from the boundary register. -/
  | extest
  /-- `IDCODE` (R760): The IDCODE instruction selects the ID register. -/
  | idcode
  /-- `SAMPLE_PRELOAD` (R759): The SAMPLE/PRELOAD instruction captures pin states. -/
  | samplePreload (cells : List Bool)
  /-- `CLAMP` (R759): The CLAMP instruction holds pins from the boundary register. -/
  | clamp
  /-- `HIGHZ` (R759): The HIGHZ instruction sets pins high impedance. -/
  | highz
  /-- `BYPASS` (R759): The BYPASS instruction selects the bypass register. -/
  | bypass
  /-- `DEBUG_INSTRUCTION` (R759): A Kereifold debug TAP instruction acts under an unlock. -/
  | debugInstruction (code : Fin 256)
  /-- `LONE_CHIP_FINDING` (R60): 100 ms after reset release with no port ACTIVE, the chip finds no live neighbour and becomes a lone chip under R3. -/
  | loneChipFinding
  /-- `RECEIVER_ADAPTATION_DONE` (R56): A port's receiver finishes equalisation adaptation in EQUALIZE and starts sending EQ_DONE = 1 in its TRAIN blocks. -/
  | receiverAdaptationDone (p : Fin 6) (preset : Fin 8)
  /-- `TENSOR_OPERAND_FAULT` (R229): A running tensor operation reads a poisoned operand (code 0x11, abort) or meets an address or fence fault at a beat (code 0x10, kill) partway through. -/
  | tensorOperandFault (c : Fin 8) (st : Nat) (code : Nat)
  /-- `DPHY_LANE_STATE_CHANGE` (R353): A CSI-2 receiver lane enters or leaves stop state, HS or ULPS, and CAM_p_STAT.RX changes. -/
  | dphyLaneStateChange (p : Fin 4) (rx : Fin 4)
  /-- `ETH_FRAME_TRANSMITTED` (R420): An Ethernet port finishes sending a queued frame and frees its space in the stream's 64 KiB transmit queue. -/
  | ethFrameTransmitted (e : Fin 2)
  /-- `UART_BYTE_SENT` (R723): A UART finishes sending a byte from its transmit FIFO and TX_LEVEL falls. -/
  | uartByteSent (u : Fin 2)
  /-- `NONCE_LAPSE` (R646): A debug or lifecycle challenge nonce lapses 60 s after it was issued, unused. -/
  | nonceLapse
  deriving DecidableEq, Repr

end Sys2Proof
end

