-- ==== Sys2Proof/WellFormed.lean ====
section
/-! DEFINITION. WellFormed: which terms are commands: fields within their widths, and the kind, type or code that names the event. -/

namespace Sys2Proof.Machine

/-- The fields of a packet fit their header fields, and BYTES counts the payload (Table 3-1). -/
def Packet.wf (p : Packet) : Bool :=
  decide (p.dst < 64) && decide (p.src < 64) && decide (p.tc < 4) && decide (p.kind < 16) && decide (p.len < 32) &&
  decide (p.nbytes < 1024) && decide (p.tag < 1024) && decide (p.ten < 8) && decide (p.issuer < 16) && decide (p.reserved < 8) &&
  decide (p.stamp < 16777216) && decide (p.addr < 281474976710656) && p.data.length == p.nbytes

/-- A beacon of a type: a packet of KIND 9 whose payload begins with it (Table 3-2, R90). -/
def Packet.beaconWf (p : Packet) (ty : Nat) : Bool := p.wf && p.kind == 9 && p.data.head? == some (BitVec.ofNat 8 ty)

/-- A HOP payload of a type: 1 to 16 bytes (Table 3-2). -/
def hopWf (ty : Nat) (data : List Byte) : Bool := decide (data.length ≤ 16) && data.head? == some (BitVec.ofNat 8 ty)

/-- The fields of a link frame fit their bits, with four slots and four tags (Tables 2-6 to 2-8). -/
def Frame.wf (f : Frame) : Bool :=
  decide (f.seq < 256) && decide (f.ack < 256) && decide (f.crVc < 8) && decide (f.crTotal < 256) && decide (f.flitV < 16) &&
  f.slots.length == 4 && f.vcs.length == 4 && f.vcs.all (fun v => decide (v < 8))

/-- A request with a command's code; its fields fit the message header (Table 17-5). -/
def Req.wf (r : Req) (code : Nat) : Bool :=
  decide (r.path < 4) && decide (r.entry < 64) && decide (r.peer < 281474976710656) && r.code == code && decide (r.sid < 4096) &&
  decide (r.role < 16) && decide (r.seq < 65536) && decide (r.data.length ≤ 4080)

end Sys2Proof.Machine

namespace Sys2Proof

open Sys2Proof.Machine

/-- The operands of a command are such as the command can carry. -/
def Instr.wf (i : Instr) : Bool :=
  match i with
  | .linkDownDwellEnd _ | .detectTimeout _ | .alignTimeout _ | .equalizeTimeout _ | .retrainTimeout _
  | .blockLock _ _ => true
  | .lossOfLock _ _ bad => decide (bad ≤ 64)
  | .trainBlock _ _ _ _ | .alignPair _ _ _ _ | .skipPair _ _ | .laneLevelPairDue _ | .idle _ => true
  | .notice _ code => decide (code < 256)
  | .fullFrame _ f => f.wf && !f.short
  | .shortFrame _ f => f.wf && f.short
  | .frameSend _ | .shortFrameSend _ | .replayTimerExpiry _ | .lnkEn _ _ | .lnkRst _ | .lnkRetrain _ | .injCrc _
  | .lnkTest _ _ | .prbsSync _ _ _ => true
  | .prbsSyncLoss _ _ wrong => decide (wrong.length ≤ 64)
  | .packetReceive _ _ | .packetForward _ _ => true
  | .writeStream pk => pk.wf && pk.kind == 0
  | .writeBulk pk => pk.wf && pk.kind == 1
  | .read pk => pk.wf && pk.kind == 2
  | .msg pk => pk.wf && pk.kind == 3
  | .creditReq pk => pk.wf && pk.kind == 4
  | .readData pk => pk.wf && pk.kind == 5
  | .writeAck pk => pk.wf && pk.kind == 6
  | .creditRet pk => pk.wf && pk.kind == 7
  | .err pk => pk.wf && pk.kind == 8
  | .responseTimeout _ _ | .tagQuarantineEnd _ _ | .beaconRelease | .tc0SinkService | .routeSwitch
  | .stallBreaker _ _ | .timeReqSend _ => true
  | .timeReq _ data => hopWf 2 data
  | .timeRspSend _ => true
  | .timeRsp _ data => hopWf 3 data
  | .parentChoice | .lockedLoss | .membershipDeclare => true
  | .formation b => b.beaconWf 0x40
  | .formationInstant => true
  | .rateChange b => b.beaconWf 0x41
  | .vtUpdateSend => true
  | .vtUpdate b => b.beaconWf 0x42
  | .vtStale | .epochBoundary | .fsyncEdge _ | .fsyncPulseEnd _ | .clockMonitorFault _ | .pllLockLoss _
  | .crystalLoss | .faultResetDelay | .clkGateWrite _ | .coreGateClose _ | .clkCtLoRead | .ptpSync _ _
  | .ptpFollowUp _ _ | .ptpAnnounce _ _ | .ptpDelayReqSend | .ptpDelayResp _ _ | .ptpMasterLoss
  | .palRgnWrite _ _ _ _ | .palBankPwrWrite _ _ | .pairReady _ _ | .palWinCfgWrite _ _ _ | .palWinRel _ _ _ => true
  | .narrowDisplace _ _ step => decide (step < 65536)
  | .clearPhaseEnd _ | .dmaStep _ | .descriptorStart _ _ | .dmaPacketForm _ _ | .descriptorComplete _ _
  | .bulkResend _ _ | .dmaFlush _ _ | .dmaNoteGo _ _ _ | .seqGo _ | .seqHalt _ | .rerunGo _ | .seqAbandon _
  | .planSwitch _ | .tensor _ => true
  | .tensorComplete _ k => decide (k < 65536)
  | .waitStep _ | .barrier _ | .barrierReread _ | .signal _ | .creditWait _ | .creditRel _ | .epochEnd _ | .test _ => true
  | .testComplete _ k _ => decide (k < 65536)
  | .rerunIssue _ | .sfuLoadGo _ _ | .sfuUnload _ _ | .sfuLoadEnd _ | .sfuSelfTestStart _ | .sfuSelfTestLate _
  | .sfuSelfTestEnd _ _ _ | .tgLaunch _ | .groupResident _ _ => true
  | .launchComplete _ k => decide (k < 65536)
  | .launchLimit _ k => decide (k < 65536)
  | .nop _ _ | .exit _ _ | .bra _ _ | .brd _ _ | .rcv _ _ | .yield _ _ | .wait _ _ | .fence _ _ | .join _ _
  | .lbar _ _ | .waitRelease _ _ | .joinRelease _ _ => true
  | .lbarRelease _ k => decide (k < 65536)
  | .add _ _ | .sub _ _ | .mul _ _ | .mulhi _ _ | .mad _ _ | .min _ _ | .max _ _ | .and _ _ | .or _ _ | .xor _ _
  | .shl _ _ | .shr _ _ | .sel _ _ | .mov _ _ | .clz _ _ | .ones _ _ | .fadd _ _ | .fsub _ _ | .fmul _ _ | .fma _ _
  | .fmin _ _ | .fmax _ _ | .fneg _ _ | .fabs _ _ | .cmpi _ _ | .cmpf _ _ | .mop _ _ | .mpack _ _ | .munpk _ _
  | .xlane _ _ | .lpick _ _ | .cvt _ _ | .bsunp _ _ | .bspk _ _ | .bsel _ _ | .movi _ _ | .ld _ _ | .st _ _
  | .atom _ _ | .sfu _ _ | .rsclr _ _ | .rsadd _ _ | .rsmrg _ _ | .rsrd _ _ | .note _ _ | .notest _ _ => true
  | .frameStart _ num h => decide (num < 65536) && decide (h.dt.val = 0) && !h.crcErr
  | .frameEnd _ h => decide (h.dt.val = 1) && !h.crcErr
  | .lineStart _ h => (decide (h.dt.val = 2) || decide (h.dt.val = 3)) && !h.crcErr
  | .pixelLine _ _ _ _ _ h => ([0x1E, 0x2A, 0x2B, 0x2C, 0x2D, 0x2E] : List Nat).contains h.dt && !h.crcErr
  | .embeddedLine _ _ h => decide (h.dt.val = 0x12)
  | .packetDiscard _ _ | .uncorrectableHeader _ | .fsWindowClose _ | .groupDeadline _ | .frecIdLoRead _ | .camEn _ _ | .i2cStuckBus _ _
  | .setCommit _ | .setFlush _ | .setramWrite _ _ _ _ | .setStart _ | .i2cEntryWrite _ _ | .setWritten _
  | .blankingClose _ | .stripeRowWrite _ | .stripeHeaderWrite _ | .verdictWrite _ | .destFail _
  | .obscurationCheck _ | .paramSetCommit _ | .paramSetAbort _ | .paramSetChecksDone _ | .paramSetApply _
  | .paramSetSyncDone _ | .feedEn _ _ | .feedAvailWrite _ _ | .feedVerdictWrite _ _ | .verdictLate _
  | .feedRowRead _ | .rtpPacketSend _ _ | .heldPacketSend _ _ | .csitxLineSend _ | .layerReadyWrite _ _ _ _
  | .groupStateUpdate _ _ _ _ => true
  | .epochReadySend plan n => decide (plan < 65536) && decide (n < 18446744073709551616)
  | .epochReady b => b.beaconWf 0x10
  | .epochCommitSend plan => decide (plan < 65536)
  | .epochCommit b => b.beaconWf 0x11
  | .epochAbandon b => b.beaconWf 0x12
  | .gets _ _ | .getm _ _ | .putm _ _ | .putc _ _ | .snoop _ _ | .lockstepMismatch | .bootStageEnd _
  | .linkBootTimeout | .linkBootPush _ => true
  | .spiWrite addr _ => decide (addr < 16777216)
  | .spiRead addr _ => decide (addr < 16777216)
  | .spiStatus | .mbxPost _ _ | .mbxConsume _ _ _ | .mbxOutClear _ _ => true
  | .udpDatagram _ src _ => decide (src < 281474976710656)
  | .relayRetry _ | .relayTimeout _ => true
  | .sessionPendingTimeout sid => decide (sid < 4096)
  | .sessionIdleTimeout sid => decide (sid < 4096)
  | .handleLapse _ => true
  | .getInfo r => r.wf 0x0100
  | .sessionOpen r => r.wf 0x0101
  | .sessionAuth r => r.wf 0x0102
  | .sessionClose r => r.wf 0x0103
  | .keepalive r => r.wf 0x0104
  | .eventSubscribe r => r.wf 0x0105
  | .chipReset r => r.wf 0x0106
  | .chipResetDelay => true
  | .setOperatorKey r => r.wf 0x0107
  | .getTime r => r.wf 0x0108
  | .opStatus r => r.wf 0x0109
  | .constStatus r => r.wf 0x0200
  | .nodeStatus r => r.wf 0x0201
  | .setConfigRecord r => r.wf 0x0202
  | .setFrameRate r => r.wf 0x0203
  | .linkStatus r => r.wf 0x0204
  | .ptpConfig r => r.wf 0x0205
  | .tenantCreate r => r.wf 0x0300
  | .tenantRelease r => r.wf 0x0301
  | .tenantStatus r => r.wf 0x0302
  | .modelBegin r => r.wf 0x0310
  | .modelChunk r => r.wf 0x0311
  | .modelAdmit r => r.wf 0x0312
  | .modelCommit r => r.wf 0x0313
  | .modelUnload r => r.wf 0x0318
  | .modelList r => r.wf 0x0319
  | .camConfigure r => r.wf 0x0400
  | .camEnable r => r.wf 0x0401
  | .camSettings r => r.wf 0x0402
  | .camStatus r => r.wf 0x0403
  | .camGroundSet r => r.wf 0x0404
  | .camObscurationCfg r => r.wf 0x0405
  | .camAssign r => r.wf 0x0406
  | .streamConfigure r => r.wf 0x0500
  | .streamEnable r => r.wf 0x0501
  | .feedSet r => r.wf 0x0502
  | .layerConfigure r => r.wf 0x0503
  | .streamStatus r => r.wf 0x0504
  | .csitxConfigure r => r.wf 0x0505
  | .serviceList r => r.wf 0x0600
  | .serviceStart r => r.wf 0x0601
  | .serviceStop r => r.wf 0x0602
  | .serviceSubscribe r => r.wf 0x0603
  | .serviceStatus r => r.wf 0x0604
  | .countRead r => r.wf 0x0605
  | .safetyStatus r => r.wf 0x0700
  | .safetyConfig r => r.wf 0x0701
  | .safetyLock r => r.wf 0x0702
  | .safetyFaultLog r => r.wf 0x0703
  | .safetyTest r => r.wf 0x0704
  | .attestQuote r => r.wf 0x0800
  | .attestCert r => r.wf 0x0801
  | .lifecycleStatus r => r.wf 0x0802
  | .debugUnlockChallenge r => r.wf 0x0803
  | .debugUnlockToken r => r.wf 0x0803
  | .lifecycleSet r => r.wf 0x0804
  | .fuseBurnDone => true
  | .calStatus r => r.wf 0x0900
  | .calRun r => r.wf 0x0901
  | .calConfig r => r.wf 0x0902
  | .regRead r => r.wf 0x0a00
  | .regWrite r => r.wf 0x0a01
  | .counters r => r.wf 0x0a02
  | .telemetry r => r.wf 0x0a03
  | .ping r => r.wf 0x0a04
  | .fwBegin r => r.wf 0x0b10
  | .fwChunk r => r.wf 0x0b11
  | .fwVerify r => r.wf 0x0b12
  | .fwActivate r => r.wf 0x0b13
  | .fwStatus r => r.wf 0x0b14
  | .linkBootReq r => r.wf 0x0b20
  | .bootChunk r => r.wf 0x0b21
  | .bootGo r => r.wf 0x0b22
  | .warningCompose _ | .doorSample _ _ | .settleExpiry _ | .doorMaxExpiry _ | .countPublish _ => true
  | .commitVerifyDone plan _ => decide (plan < 65536)
  | .prepared b => b.beaconWf 0x20
  | .order b => b.beaconWf 0x21
  | .ordered b => b.beaconWf 0x22
  | .go b => b.beaconWf 0x23
  | .commitAbort b => b.beaconWf 0x24
  | .reservationLapse _ | .heartbeatSend _ | .safHbTx3Write _ => true
  | .heartbeat _ data => hopWf 1 data
  | .silent _ | .silentPortReenable _ => true
  | .linkReport b => b.beaconWf 0x31
  | .partialReportTimeout _ => true
  | .selfLost b => b.beaconWf 0x32
  | .selfLossReset | .poleBeatSend => true
  | .poleBeat b => b.beaconWf 0x35
  | .poleLossDetect | .poleClaimSend => true
  | .poleClaim b => b.beaconWf 0x36
  | .claimAck b => b.beaconWf 0x37
  | .claimWindowEnd | .noPoleTimeout => true
  | .membership b => b.beaconWf 0x33
  | .epochFail b => b.beaconWf 0x30
  | .sectionReloadDone plan => decide (plan < 65536)
  | .joinSeen b _ => b.beaconWf 0x34
  | .autoReadmit _ | .owPermitWrite _ | .owStop | .permitLapse | .owGeneratorStart | .owReadbackMismatch _ _
  | .permitCheck | .safetyEventTake | .wdtService _ | .watchdogTimeout | .voltageFault _ _ | .temperatureFault _ _ => true
  | .selfTestSetRun _ _ k _ => decide (k < 65536)
  | .selfTestForce _ _ k _ => decide (k < 65536)
  | .selfTestOverdue _ _ k => decide (k < 65536)
  | .measExtend _ | .measExtendDone | .romlock _ | .fwConfirm | .trialTimeout | .calTempTrigger | .calRunWrite
  | .calHoldEnd | .calTaskStep _ _ _ _ _ _ | .calForce _ _ | .trimRecordWrite | .powerOnReset | .brownoutReset
  | .resetN | .watchdogReset _ _ | .resetRelease _ | .crystalRestartRetry | .pwrCoreRst _ | .coreResetDone _
  | .parkReqDebounce _ | .parkExitPrepare | .governorEstimate _ | .governorStep | .governorLimit => true
  | .registerWrite _ a _ => decide (a < 281474976710656)
  | .pairLoRead a => decide (a < 281474976710656)
  | .ethEn _ _ | .ethLinkChange _ _ | .ethFrameReceive _ _ _ | .arpRequest _ _ => true
  | .arpRetry _ ip => decide (ip < 4294967296)
  | .arpEntryExpiry _ ip => decide (ip < 4294967296)
  | .icmpEcho _ _ | .igmpQuery _ | .reassemblyTimeout _ _ | .mdioGo _ | .mdioDone _ _ | .qspiGo _ | .qspiDone _
  | .i2c4Go _ | .i2c4Done _ _ _ | .uartTxWrite _ _ | .uartRxRead _ | .uartByteReceived _ _ _ _ | .gpioEdge _ _
  | .doorEdge _ _ | .tapReset | .extest | .idcode => true
  | .samplePreload cells => cells.length == 204
  | .clamp | .highz | .bypass | .debugInstruction _ | .loneChipFinding | .receiverAdaptationDone _ _ => true
  | .tensorOperandFault _ k code => decide (k < 65536) && decide (code < 256)
  | .dphyLaneStateChange _ _ | .ethFrameTransmitted _ | .uartByteSent _ | .nonceLapse => true

end Sys2Proof
end

