-- ==== Sys2Proof/Decode.lean ====
section
/-! DEFINITION. Decode: the command that a word spells by the bits of the table of operations. -/

namespace Sys2Proof

/-- No row of the table of operations gives bits: a command is an event or a message, not a word, so that no word spells one. -/
def decodeTableWord (_nbits _w : Nat) : Option Instr := none

end Sys2Proof
end

