-- ==== Sys2Proof/Machine/Float.lean ====
section
/-! DEFINITION. Float: the number formats, exact values, rounding and conversions (08). -/

namespace Sys2Proof.Machine

/-- The value of a bit pattern: NaN, an infinity, or (-1)^neg * m * 2^e (R253). -/
inductive FVal where
  | nan
  | inf (neg : Bool)
  | fin (neg : Bool) (m : Nat) (e : Int)
  deriving DecidableEq, Repr

/-- A floating format: exponent and mantissa widths; `fn` marks FP8-E4M3, which has no infinity (Table 8-2). -/
structure FloatFmt where
  eb : Nat
  mb : Nat
  fn : Bool := false
  deriving DecidableEq, Repr

/-- FP8-E4M3. -/
def e4m3 : FloatFmt := { eb := 4, mb := 3, fn := true }
/-- FP8-E5M2. -/
def e5m2 : FloatFmt := { eb := 5, mb := 2 }
/-- FP16. -/
def fp16 : FloatFmt := { eb := 5, mb := 10 }
/-- BF16. -/
def bf16 : FloatFmt := { eb := 8, mb := 7 }
/-- FP32. -/
def fp32 : FloatFmt := { eb := 8, mb := 23 }

/-- Exponent bias (Table 8-2). -/
def FloatFmt.bias (f : FloatFmt) : Nat := 2 ^ (f.eb - 1) - 1
/-- The field below the sign of the largest finite value. -/
def FloatFmt.maxField (f : FloatFmt) : Nat := if f.fn then 0x7E else (2 ^ f.eb - 1) * 2 ^ f.mb - 1
/-- The canonical NaN (Table 8-2, R266). -/
def FloatFmt.nan (f : FloatFmt) : Nat := if f.fn then 0x7F else (2 ^ f.eb - 1) * 2 ^ f.mb + 2 ^ (f.mb - 1)
/-- The sign bit. -/
def FloatFmt.sign (f : FloatFmt) (neg : Bool) : Nat := if neg then 2 ^ (f.eb + f.mb) else 0

/-- The value of a pattern (R258). -/
def FloatFmt.decode (f : FloatFmt) (w : Nat) : FVal :=
  let neg := bit w (f.eb + f.mb)
  let e := bits w f.mb f.eb
  let m := w % 2 ^ f.mb
  if e = 2 ^ f.eb - 1 && f.fn && m = 2 ^ f.mb - 1 then .nan
  else if e = 2 ^ f.eb - 1 && !f.fn then (if m = 0 then .inf neg else .nan)
  else if e = 0 then .fin neg m (1 - (f.bias : Int) - f.mb)
  else .fin neg (2 ^ f.mb + m) ((e : Int) - f.bias - f.mb)

/-- m / 2^n rounded to the nearest integer, ties to even (R263). -/
def rneShift (m n : Nat) : Nat :=
  if n = 0 then m
  else
    let q := m / 2 ^ n
    let r := m % 2 ^ n
    let half := 2 ^ (n - 1)
    if r < half then q else if half < r then q + 1 else q + q % 2

/-- m * 2^e as an integer, rounded to nearest even. -/
def rneScale (m : Nat) (e : Int) : Nat := if 0 ≤ e then m * 2 ^ e.toNat else rneShift m (-e).toNat

/-- floor(log2 (m * 2^e)) for m above 0. -/
def floorLog (m : Nat) (e : Int) : Int := (Nat.log2 m : Int) + e

/-- The pattern of a value: rounded to nearest even, then saturated (`sat`, a conversion, R264) or overflowing to infinity
(arithmetic, R265). -/
def FloatFmt.encode (f : FloatFmt) (sat : Bool) : FVal → Nat
  | .nan => f.nan
  | .inf neg => f.sign neg + if f.fn then f.maxField else (2 ^ f.eb - 1) * 2 ^ f.mb
  | .fin neg m e =>
    if m = 0 then f.sign neg
    else
      let lo : Int := 1 - f.bias
      let l := floorLog m e
      let field : Nat :=
        if l < lo then rneScale m (e - (lo - f.mb))
        else (l + f.bias - 1).toNat * 2 ^ f.mb + rneScale m (e - (l - f.mb))
      f.sign neg + if f.maxField < field then (if sat || f.fn then f.maxField else (2 ^ f.eb - 1) * 2 ^ f.mb) else field

/-- Change of sign. -/
def FVal.neg : FVal → FVal
  | .nan => .nan
  | .inf n => .inf (!n)
  | .fin n m e => .fin (!n) m e

/-- A finite value from a signed integer and an exponent; `z` is the sign of a zero. -/
def finOf (z : Bool) (i : Int) (e : Int) : FVal := if i = 0 then .fin z 0 0 else .fin (decide (i < 0)) i.natAbs e

/-- The signed mantissa of a finite value. -/
def sgn (neg : Bool) (m : Nat) : Int := if neg then -(m : Int) else m

/-- Exact sum; a cancelled sum is +0, the sum of two zeros is -0 only when both are (R265). -/
def FVal.add : FVal → FVal → FVal
  | .nan, _ => .nan
  | _, .nan => .nan
  | .inf a, .inf b => if a = b then .inf a else .nan
  | .inf a, _ => .inf a
  | _, .inf b => .inf b
  | .fin a m e, .fin b n g =>
    if m = 0 then (if n = 0 then .fin (a && b) 0 0 else .fin b n g)
    else if n = 0 then .fin a m e
    else
      let lo := min e g
      finOf false (sgn a (m * 2 ^ (e - lo).toNat) + sgn b (n * 2 ^ (g - lo).toNat)) lo

/-- Exact product (R265). -/
def FVal.mul : FVal → FVal → FVal
  | .nan, _ => .nan
  | _, .nan => .nan
  | .inf a, .inf b => .inf (a != b)
  | .inf a, .fin b m _ => if m = 0 then .nan else .inf (a != b)
  | .fin a m _, .inf b => if m = 0 then .nan else .inf (a != b)
  | .fin a m e, .fin b n g => .fin (a != b) (m * n) (e + g)

/-- Comparison of two values that are not NaN: whether the first is below the second; the zeros are equal. -/
def FVal.lt : FVal → FVal → Bool
  | .nan, _ => false
  | _, .nan => false
  | .inf a, .inf b => a && !b
  | .inf a, .fin _ _ _ => a
  | .fin _ _ _, .inf b => !b
  | .fin a m e, .fin b n g =>
    let lo := min e g
    decide (sgn a (m * 2 ^ (e - lo).toNat) < sgn b (n * 2 ^ (g - lo).toNat))

/-- One value at most another: never with NaN; the zeros are equal. -/
def FVal.le (a b : FVal) : Bool := a != .nan && b != .nan && !(b.lt a)

/-- Equality of two values: never with NaN; the zeros are equal. -/
def FVal.eq (a b : FVal) : Bool := a != .nan && b != .nan && !(a.lt b) && !(b.lt a)

/-- The value nearest an integer, exactly. -/
def FVal.ofInt (i : Int) : FVal := finOf false i 0

/-- A value rounded to an integer and saturated to a range; NaN is 0 (Table 8-5). -/
def FVal.toInt (lo hi : Int) : FVal → Int
  | .nan => 0
  | .inf n => if n then lo else hi
  | .fin n m e => max lo (min hi (sgn n (rneScale m e)))

/-- A value of FP32 bits. -/
def f32 (w : Nat) : FVal := fp32.decode w
/-- FP32 arithmetic result of an exact value (R265). -/
def toF32 (v : FVal) : Nat := fp32.encode false v
/-- FP32 addition. -/
def fadd (a b : Nat) : Nat := toF32 ((f32 a).add (f32 b))
/-- FP32 multiplication. -/
def fmul (a b : Nat) : Nat := toF32 ((f32 a).mul (f32 b))
/-- FP32 fused multiply-add: one rounding. -/
def ffma (a b c : Nat) : Nat := toF32 (((f32 a).mul (f32 b)).add (f32 c))

/-- LOG12 of a U16 value (R257). -/
def toLog12 (v : Nat) : Nat :=
  if v < 512 then v
  else
    let s := Nat.log2 v - 9
    let t := rneShift v s
    let (t, s) := if t = 1024 then (512, s + 1) else (t, s)
    if 6 < s then 4095 else 512 * (s + 1) + (t - 512)

/-- U16 of a LOG12 code (R257). -/
def ofLog12 (c : Nat) : Nat := if c < 512 then c else (512 + c % 512) * 2 ^ (c / 512 - 1)

/-- U16 of an unsigned raw code of `w` bits (R256). -/
def rawToU16 (w c : Nat) : Nat := c * 2 ^ (16 - w)

/-- The value of a U16 or decoded LOG12 number: v / 65,536 (Table 8-5). -/
def u16Val (v : Nat) : FVal := .fin false v (-16)

/-- U16 of a floating value: RNE(x * 65,536), saturated (Table 8-5). -/
def toU16 (v : FVal) : Nat := ((v.mul (.fin false 1 16)).toInt 0 65535).toNat

/-- The 10-bit coding output of a U16, in bits 15 to 6 (Table 8-5). -/
def toCoding (v : Nat) : Nat := 64 * min 1023 (rneShift v 6)

/-- The value of a BS8 element: mantissa byte and exponent byte (R259). -/
def bs8Val (q x : Nat) : FVal :=
  if x = 255 then .nan else let i := signed 8 q; finOf false i ((x : Int) - 133)

/-- Mantissas of a block for an exponent byte, unsaturated. -/
def bs8Mants (vs : List FVal) (x : Nat) : List Int :=
  vs.map (fun v => match v with
    | .fin n m e => sgn n (rneScale m (e - ((x : Int) - 133)))
    | .inf n => if n then -127 else 127
    | .nan => 0)

/-- A block of 16 values as BS8: the exponent byte and the mantissa bytes (R269). -/
def toBs8 (vs : List FVal) : Nat × List Nat :=
  if vs.contains .nan || (vs.contains (.inf false) && vs.contains (.inf true)) then (255, vs.map (fun _ => 0))
  else
    let logs := vs.filterMap (fun v => match v with | .fin _ m e => if m = 0 then none else some (floorLog m e) | _ => none)
    let x0 : Nat :=
      if vs.contains (.inf false) || vs.contains (.inf true) then 254
      else match logs with
        | [] => 0
        | l :: ls => (max ((ls.foldl max l) + 127) 0).toNat
    let beyond (x : Nat) : Bool := (bs8Mants vs x).any (fun q => q.natAbs = 128)
    let x := if beyond x0 && decide (x0 < 254) then x0 + 1 else x0
    (x, (bs8Mants vs x).map (fun q => unsigned 8 (max (-127) (min 127 q))))

/-- Bytes of a run of 16n BS8 elements (R260). -/
def bs8Run (elems : Nat) : Nat := elems + 4 * ((elems / 16 + 3) / 4)

/-- Bytes of `n` elements of a tensor format (Table 7-3, R260): INT4 packs two to a byte. -/
def fmtBytes (fmt n : Nat) : Nat :=
  if fmt = 2 then (n + 1) / 2
  else if fmt = 5 || fmt = 6 || fmt = 8 then 2 * n
  else if fmt = 9 || fmt = 10 then 4 * n
  else if fmt = 7 then bs8Run n
  else n

/-- The value of a stored element of an integer or floating tensor format, from its bits (Table 8-1). -/
def fmtVal (fmt w : Nat) : FVal :=
  if fmt = 0 then FVal.ofInt (w % 256)
  else if fmt = 1 then FVal.ofInt (signed 8 w)
  else if fmt = 2 then FVal.ofInt (signed 4 w)
  else if fmt = 3 then e4m3.decode (w % 256)
  else if fmt = 4 then e5m2.decode (w % 256)
  else if fmt = 5 then fp16.decode (w % 65536)
  else if fmt = 6 then bf16.decode (w % 65536)
  else if fmt = 8 then FVal.ofInt (signed 16 w)
  else if fmt = 9 then FVal.ofInt (signed 32 w)
  else f32 w

/-- The bits of a value in an integer or floating tensor format, by conversion (Table 8-5). -/
def fmtBits (fmt : Nat) (v : FVal) : Nat :=
  if fmt = 0 then (v.toInt 0 255).toNat
  else if fmt = 1 then unsigned 8 (v.toInt (-128) 127)
  else if fmt = 2 then unsigned 4 (v.toInt (-8) 7)
  else if fmt = 3 then e4m3.encode true v
  else if fmt = 4 then e5m2.encode true v
  else if fmt = 5 then fp16.encode true v
  else if fmt = 6 then bf16.encode true v
  else if fmt = 8 then unsigned 16 (v.toInt (-32768) 32767)
  else if fmt = 9 then unsigned 32 (v.toInt (-2147483648) 2147483647)
  else fp32.encode true v

/-- The negated FP32 pattern. -/
def fneg (a : Nat) : Nat := a ^^^ 0x80000000

end Sys2Proof.Machine
end

