-- ==== Sys2Proof/Machine/Map.lean ====
section
/-! DEFINITION. Map: sparse tables held as lists of pairs in one canonical form.
A table gives every index a value: the listed one, or the default of that index. The canonical form keeps the indices
strictly rising and lists no pair whose value is its index's default, so equal tables are equal lists. -/

namespace Sys2Proof.Machine

/-- A sparse table from indices to values. -/
abbrev Table (α : Type) := List (Nat × α)

/-- The value of index `i`, `d i` where it is not listed. -/
def tblGet {α : Type} (d : Nat → α) : Table α → Nat → α
  | [], i => d i
  | (k, v) :: m, i => if i = k then v else tblGet d m i

/-- The table without index `i`. -/
def tblDrop {α : Type} (m : Table α) (i : Nat) : Table α :=
  m.filter (fun e => e.1 ≠ i)

/-- Place a pair before the first larger index. -/
def tblPlace {α : Type} (i : Nat) (v : α) : Table α → Table α
  | [] => [(i, v)]
  | (k, w) :: m => if i < k then (i, v) :: (k, w) :: m else (k, w) :: tblPlace i v m

/-- The table with index `i` at value `v`; a default value is not listed. -/
def tblSet {α : Type} [DecidableEq α] (d : Nat → α) (m : Table α) (i : Nat) (v : α) : Table α :=
  if v = d i then tblDrop m i else tblPlace i v (tblDrop m i)

/-- The canonical form: indices strictly rising, no default listed. -/
def tblWf {α : Type} [DecidableEq α] (d : Nat → α) : Table α → Bool
  | [] => true
  | (k, v) :: m => decide (v ≠ d k) && m.all (fun e => k < e.1) && tblWf d m

/-- The table with every index `lo ≤ i < hi` back at its default. -/
def tblClear {α : Type} (m : Table α) (lo hi : Nat) : Table α :=
  m.filter (fun e => e.1 < lo || hi ≤ e.1)

/-- Write a list of values at rising indices from `i`. -/
def tblSets {α : Type} [DecidableEq α] (d : Nat → α) (m : Table α) (i : Nat) : List α → Table α
  | [] => m
  | v :: vs => tblSets d (tblSet d m i v) (i + 1) vs

/-- Read `n` values from rising indices from `i`. -/
def tblGets {α : Type} (d : Nat → α) (m : Table α) (i : Nat) : Nat → List α
  | 0 => []
  | n + 1 => tblGet d m i :: tblGets d m (i + 1) n

end Sys2Proof.Machine
end

