-- ==== Sys2Proof/Machine/ChipState.lean ====
section
/-! DEFINITION. ChipState: epochs, membership, safety, security, calibration, power and peripherals beside their registers
(15, 20 to 25, 27). -/

namespace Sys2Proof.Machine

/-- An epoch barrier of one plan as the pole and as a member see it (R449 to R451). -/
structure PlanEpoch where
  /-- Nodes of the plan: bit n. -/
  nodes : Nat := 0
  /-- Cores of this chip that the plan uses: bit c. -/
  cores : Nat := 0
  /-- First epoch of the plan. -/
  first : Nat := 0
  /-- Last epoch decided at the pole; none before the first. -/
  decided : Option Nat := none
  /-- The first epoch that is no longer the plan's, once it is known (R459). -/
  end_ : Option Nat := none
  /-- The fallback plan that runs: the node whose loss it answers. -/
  fallback : Option Nat := none
  /-- Changes to come at a boundary: its epoch, the node lost, and whether the fallback plan for it starts there or the cores
  halt (R591, R592). -/
  pend : List (Nat × Nat × Bool) := []
  /-- READYs held at the pole: node and epoch; epochs that cannot succeed (R596). -/
  ready : List (Nat × Nat) := []
  failed : List Nat := []
  /-- Every epoch below this one is abandoned at its boundary, at the pole (R591, R593). -/
  abandonTo : Nat := 0
  /-- Last epoch for which this chip sent READY. -/
  sentReady : Option Nat := none
  /-- Completion flags on this chip: address of the flag, its target multiplier and offset (R449). -/
  flags : List (Nat × Nat × Nat) := []
  /-- Addresses of this chip's epoch words: control-SRAM or palette, chip local (R451, R452). -/
  words : List Nat := []
  /-- Last epoch this chip applied, and epochs taken out of order that wait for it (R459). -/
  applied : Option Nat := none
  held : List (Nat × Bool) := []
  /-- The last 64 decisions applied: epoch and whether it was abandoned, newest first. -/
  log : List (Nat × Bool) := []
  safetyTier : Bool := false
  deriving DecidableEq, Repr

/-- A link reported DOWN or SILENT: reporter, its port, the partner, when (R584). -/
structure LinkFault where
  node : Nat
  port : Nat
  partner : Nat
  at_ : Nat
  deriving DecidableEq, Repr

/-- Membership, the pole and chip loss (R37 to R40, R577 to R604). Times are root-clock cycles. -/
structure LossState where
  /-- The live mask: bit n. -/
  members : Nat := 0
  version : Nat := 0
  /-- The last committed membership (R37, R577). -/
  committed : Nat := 0
  /-- Pending membership changes: node, joined, VERSION, epoch. -/
  changes : List (Nat × Bool × Nat × Nat) := []
  pole : Option Nat := none
  formed : Bool := false
  lone : Bool := false
  /-- Nodes known to be in the configuration or reachable, with when the last new one appeared (R39). -/
  reach : Nat := 0
  reachAt : Nat := 0
  /-- Heartbeat STATE: 0 JOINING, 1 MEMBER, 2 POLE, 3 LOST (Table 20-1). -/
  hbState : Nat := 0
  hbAt : Option Nat := none
  /-- Self-loss in progress: reason and when (R582). -/
  selfLost : Option (Nat × Nat) := none
  beatAt : Nat := 0
  beatSent : Option Nat := none
  /-- Loss of the pole detected at this time (R585). -/
  detected : Option Nat := none
  /-- The lowest claimant acknowledged (R588). -/
  follows : Option Nat := none
  /-- This chip's claim: when sent; acknowledgements: bit n (R589). -/
  claimAt : Option Nat := none
  acks : Nat := 0
  /-- Standby tables stand in the inactive bank (R586). -/
  standby : Bool := false
  /-- Members whose active route bank is 1, as the swaps so far leave them (R98, R111). -/
  banks : Nat := 0
  /-- The route banks have swapped and the firmware has not acted on it yet. -/
  swapped : Bool := false
  /-- Nodes whose heartbeats show POLE_ELIG (Table 20-1), and nodes from which a heartbeat has come. -/
  elig : Nat := 0
  heard : Nat := 0
  /-- Link reports at the pole (R584). -/
  reports : List LinkFault := []
  /-- Declared losses: node and CT in ns (R602). -/
  losses : List (Nat × Nat) := []
  /-- Joiners' boots already reported, node and BOOTS (R601). -/
  joinSeen : List (Nat × Nat) := []
  /-- Last refusal of a join: node and reason (Table 17-23). -/
  refused : List (Nat × Nat) := []
  /-- CHIP_RESET accepted since the third loss: node (R602). -/
  pardoned : List Nat := []
  partial_ : List Nat := []
  /-- Epoch at whose boundary every service stops (R38, R600). -/
  stopAt : Option Nat := none
  /-- KMP execution is suspended for want of a pole (R585). -/
  kmpHeld : Bool := false
  /-- A neighbour with this chip's own node ID has been seen (Table 27-12). -/
  dup : Bool := false
  deriving DecidableEq, Repr

/-- One entry of the fault log (Table 21-4). -/
structure FaultEntry where
  ct : Nat
  code : Nat
  cls : Nat
  detail : Nat
  deriving DecidableEq, Repr

/-- Functional safety (R612 to R626). Times are root-clock cycles. -/
structure SafetyState where
  /-- Safety events not yet taken: code and detail (R617). -/
  events : List (Nat × Nat) := []
  log : List FaultEntry := []
  /-- The last four entries of class A or B, in the always-on domain (R617, R693). -/
  kept : List FaultEntry := []
  /-- Permit: last correct write, and the key expected next (R614). -/
  permitAt : Option Nat := none
  permitNext : Nat := 0x5A5A
  stop : Bool := false
  /-- When STOP was written last. -/
  stopAt : Nat := 0
  running : Bool := false
  mismatch : Bool := false
  /-- Watchdog: last accepted service, the key expected next, the end of ROM stage 4 (R619). -/
  wdtAt : Option Nat := none
  wdtNext : Nat := 0x3C3C
  wdtFrom : Nat := 0
  /-- ROM stage 4 passed: the watchdog runs. -/
  wdtOn : Bool := false
  /-- CT ns of the last run of each self-test set, index (core * 4 + array) * 16 + set (R623). -/
  setRun : Table Nat := []
  /-- SAFETY_TEST in progress: code and injection time (R626). -/
  test : Option (Nat × Nat) := none
  /-- Per service ID, the state in the last message formed or received, and the CT in ns of the last VALID one (R615). -/
  svc : Table (Nat × Option Nat) := []
  deriving DecidableEq, Repr

/-- A boot header copy (Table 22-4). -/
structure BootHeader where
  valid : Bool := false
  seq : Nat := 0
  active : Nat := 0
  st : Nat := 0
  deriving DecidableEq, Repr

/-- An image set in a firmware slot: header fields that the rules use (Table 22-5). -/
structure ImageSet where
  present : Bool := false
  version : Nat := 0
  svn : Nat := 0
  header : List Byte := []
  fwLen : Nat := 0
  safeLen : Nat := 0
  data : List Byte := []
  deriving DecidableEq, Repr

/-- Security (R631 to R657). -/
structure SecurityState where
  /-- Fuses (Table 22-2). -/
  secret : Nat := 0
  keyHash0 : Nat := 0
  keyHash1 : Nat := 0
  revoke : Nat := 0
  authHash : Nat := 0
  svn : Nat := 0
  /-- Lifecycle fuse groups, 8 fuses each: how many read 1 (R632). -/
  lc0 : Nat := 0
  lc1 : Nat := 0
  lc2 : Nat := 0
  /-- Extension in progress: register, 48 data bytes, start time (R643). -/
  ext : Option (Nat × List Byte × Nat) := none
  /-- Nonce of the last challenge: bytes, issue time (R646). -/
  nonce : Option (List Byte × Nat) := none
  /-- Burn in progress: target state, the request it answers, start time (R632). -/
  burn : Option (Nat × Req × Nat) := none
  /-- LIFECYCLE_SET requests that wait for the burn to end, oldest first (R632). -/
  burnWait : List Req := []
  hdr0 : BootHeader := {}
  hdr1 : BootHeader := {}
  slotA : ImageSet := {}
  slotB : ImageSet := {}
  /-- Firmware transfer: its handle, the SHA-384 of the set, and whether it has been verified (R655). -/
  xfer : Option (Nat × List Byte × Bool) := none
  /-- Reset epoch R of an activation (R656). -/
  resetEpoch : Option Nat := none
  /-- Trial firmware runs unconfirmed since (R657). -/
  trialFrom : Option Nat := none
  running : Nat := 0
  /-- Debug memory scope opens 1 ms after the last step (R647). -/
  jtagOpenAt : Option Nat := none
  /-- WO1 fields that were made writable again in the cycle `reopenedAt`, by address: a write of that cycle finds them written (R653). -/
  reopened : Table Word := []
  reopenedAt : Nat := 0
  /-- Fence registers as they were before a write in the cycle `fenceAt`, by address: packets of that cycle meet these (R659). -/
  fenceOld : Table Word := []
  fenceAt : Nat := 0
  deriving DecidableEq, Repr

/-- One calibration task on one port (Table 23-3): waiting for a window since, forced, its last forced step, and the lanes and
trims of a lane that are not yet in band. -/
structure CalTask where
  task : Nat
  port : Nat := 0
  since : Nat
  forced : Bool := false
  lastForced : Option Nat := none
  todo : List (Nat × Nat) := [(0, 0)]
  /-- The window in which steps were last applied, and the steps of each lane there (R664, R669). -/
  winAt : Option Nat := none
  used : List (Nat × Nat) := []
  /-- Last code step of task 1 (Table 23-1). -/
  stepAt : Option Nat := none
  deriving DecidableEq, Repr

/-- A trim record slot (Table 23-4). -/
structure TrimSlot where
  valid : Bool := false
  seq : Nat := 0
  fw : Nat := 0
  device : List Byte := []
  tref : List Nat := []
  ctLast : Nat := 0
  image : List Word := []
  deriving DecidableEq, Repr

/-- Calibration (R661 to R676). Times are root-clock cycles. -/
structure CalState where
  tasks : List CalTask := []
  /-- Start of the last run; a trigger waits (R671). -/
  runAt : Option Nat := none
  held : Bool := false
  /-- A task of the run was forced; a trim reached the end of its range (R672). -/
  wasForced : Bool := false
  wasRailed : Bool := false
  /-- Last record write, and one is due (R675). -/
  recordAt : Option Nat := none
  recordDue : Bool := false
  /-- Boot count of the delay line of a data lane, by 8 x port + lane (Table 23-3). -/
  skewBoot : Table (Option Nat) := []
  trim0 : TrimSlot := {}
  trim1 : TrimSlot := {}
  deriving DecidableEq, Repr

/-- Power modes, resets and the governor (R686 to R707). Times are root-clock cycles. -/
structure PowerState where
  /-- A chip reset is in progress: its kind; none after release. -/
  inReset : Option Nat := none
  /-- The reset waits for a clock restart (R689), last attempt. -/
  restart : Option Nat := none
  resetAt : Nat := 0
  /-- 1 ms averages below both limits in a row (R704). -/
  calm : Nat := 0
  stepAt : Nat := 0
  estAt : Nat := 0
  /-- Estimates since the last step, newest first (R703). -/
  ests : List Nat := []
  /-- Level 7 above PMAX since (R707). -/
  limitFrom : Option Nat := none
  reportAt : Option Nat := none
  reportDue : Bool := false
  /-- PARK request level seen and since when; epochs P and X; parked services (R699 to R702). -/
  parkReq : Bool := false
  /-- The level last sampled at the pole, since when it has stood, and the last READ of another chip's line (R518). -/
  parkLevel : Bool := false
  parkSince : Option Nat := none
  parkReadAt : Nat := 0
  parkEpoch : Option Nat := none
  exitEpoch : Option Nat := none
  parkedSvc : List Nat := []
  parkedCams : Nat := 0
  parkedFeeds : Nat := 0
  exitReady : Bool := false
  /-- PARK entry waits for a tenant clear (R180); bank pairs that were powered at entry, by core (R170). -/
  parkHeld : Bool := false
  /-- PARK entry waits for a calibration run to end (R679, R700). -/
  parkCal : Bool := false
  parkedPairs : List Nat := []
  /-- Core-local reset start times, by core (R690). -/
  coreRst : Table (Option Nat) := []
  /-- Epochs in a row without a context on any core (R698). -/
  idleEpochs : Nat := 0
  /-- CHIP_RESET accepted: response time (R686). -/
  chipReset : Option Nat := none
  deriving DecidableEq, Repr

/-- A resolution in progress: address, tries, last try, the held packet (Table 27-8). -/
structure ArpWait where
  ip : Nat
  tries : Nat
  at_ : Nat
  pkt : List Byte
  /-- What it carries, as in the transmit queue. -/
  key : Nat := 16
  deriving DecidableEq, Repr

/-- A datagram being reassembled: identification, source, fragments as offset and bytes, total once known, start. -/
structure Reasm where
  id : Nat
  src : Nat
  parts : List (Nat × List Byte)
  total : Option Nat
  at_ : Nat
  deriving DecidableEq, Repr

/-- An Ethernet port beside its registers (R763). -/
structure EthPort where
  /-- ARP cache: address, MAC, learnt at; at most 32. -/
  arp : List (Nat × Nat × Nat) := []
  waits : List ArpWait := []
  reasm : List Reasm := []
  /-- Identification of the next datagram. -/
  ident : Nat := 0
  /-- Echo replies' times within the last second. -/
  echoes : List Nat := []
  /-- Frames queued to send: feed * 2 + stream, 1000 and the slot of a mailbox message, 16 for others; and bytes. -/
  txq : List (Nat × List Byte) := []
  /-- What was received and accepted and is not yet acted on: 1 ARP, 2 ICMP echo request, 3 IGMP query, 4 UDP datagram for
  KMP, 5 PTP event and 6 PTP general message; the sender's address and port; the bytes; arrival CT in ns. -/
  inbox : List (Nat × Nat × List Byte × Nat) := []
  conflict : Bool := false
  deriving DecidableEq, Repr

/-- The peripherals beside their registers (R722 to R725, R763) and the test access port (R759 to R762). -/
structure PeriState where
  eth : Table EthPort := []
  uartTx : Table (List Byte) := []
  uartRx : Table (List Byte) := []
  gpioIn : Nat := 0
  doorIn : Nat := 0
  /-- Commands in progress: the command word and the address or data that went with it (R722 to R725). -/
  mdio : Option Nat := none
  qspi : Option Nat := none
  i2c : Option Nat := none
  /-- Instruction of the TAP, the boundary cells, and whether they drive the pins. -/
  tapIr : Nat := 1
  cells : List Bool := []
  drives : Bool := false
  highz : Bool := false
  deriving DecidableEq, Repr

end Sys2Proof.Machine
end

