-- ==== Sys2Proof/Config.lean ====
section
/-! DEFINITION. Config: what an implementation fixes and what the spec leaves open, as constants without a body. -/

namespace Sys2Proof

/-- A chip's share of a plan, as the sections of a package give it (Table 19-4). Addresses are chip local. -/
structure Config.Share where
  /-- The plan has a share on this chip. -/
  present : Bool := true
  safetyTier : Bool := false
  tenant : Nat := 0
  nodes : Nat := 0
  /-- Cores that run a context of the plan. -/
  cores : List Nat := []
  /-- Region images: core, region, BASE, SIZE, CFG. -/
  regions : List (Nat × Nat × Nat × Nat × Nat) := []
  /-- Step lists: core, palette offset, length in entries, SEQ_ENTRY. -/
  lists : List (Nat × Nat × Nat × Nat) := []
  /-- Write windows: core, window, BASE, CFG. -/
  windows : List (Nat × Nat × Nat × Nat) := []
  /-- SFU tables: core, slot, palette offset. -/
  tables : List (Nat × Nat × Nat) := []
  /-- Input ranges of SFU slots: core, slot, U_LO, U_HI (R282). -/
  uses : List (Nat × Nat × Nat × Nat) := []
  /-- Weight sections and others to be verified: core, palette offset, length, CRC-32C. -/
  bodies : List (Nat × Nat × Nat × Nat) := []
  /-- Completion flags: address, epoch multiplier, offset (R449). -/
  flags : List (Nat × Nat × Nat) := []
  /-- Epoch words and their copies (R451, R452). -/
  words : List Nat := []
  /-- The result output: address of bank 0 and distance of bank 1; this chip is the composer. -/
  result : Option (Nat × Nat) := none
  /-- RES spans of the tenant's fence: base and size (R650). -/
  spans : List (Nat × Nat) := []
  /-- Step lists of a fallback plan as DISTRIBUTE staged them: core, palette offset, bytes (R592). -/
  staged : List (Nat × Nat × List Byte) := []
  /-- SHA-384 input of register 5: the package's header and directory (Table 22-7). -/
  measured : List Byte := []
  deriving DecidableEq, Repr, Inhabited

/-- The share that another chip as pole has distributed to this chip: plan, and 0 for its primary plan or 1 + x for the
fallback that answers the loss of node x. How a chip keeps it is not in the spec. -/
opaque Config.stagedShare : Nat → Nat → Config.Share

/-- What a section body of a package means, beyond the placement that its directory entry gives: kind 2, region images as
region, BASE, SIZE, CFG; the layout is not in the spec (Table 19-4). -/
opaque Config.regionImages : List Byte → List (Nat × Nat × Nat × Nat)
/-- Kind 3: SEQ_ENTRY, and the body with the core fields of its addresses replaced, for the cores of a mapping. -/
opaque Config.stepList : List (Nat × Nat × Nat) → List Byte → Nat × List Byte
/-- Kind 5: the SFU slot of a table. -/
opaque Config.sfuSlot : List Byte → Nat
/-- Kind 6: use records as slot, FUNC_ID, U_LO, U_HI, Q_NEG, Q_POS (R282); their layout is not in the spec. -/
opaque Config.sfuUses : List Byte → List (Nat × Nat × Nat × Nat × Nat × Nat)
/-- Kind 7: window, BASE, CFG. -/
opaque Config.windowImages : List Byte → List (Nat × Nat × Nat)
/-- Kind 8: the part of an epoch declaration that concerns a node: flags, words, result output, spans. -/
opaque Config.epochDecl : Nat → List Byte → List (Nat × Nat × Nat) × List Nat × Option (Nat × Nat) × List (Nat × Nat)

/-- Kind 9: the 64 entries of a node's route table (R101). -/
opaque Config.routeTable : List Byte → List Nat

/-- The counters that COUNTERS returns: register addresses, by block prefix code and role. The spec gives neither the codes nor
what is a tenant's own (Table 17-8). -/
opaque Config.counterBlock : Nat → Nat → List Nat

/-- Free bytes of the flash's model store, before any package (R558). -/
opaque Config.modelStore : Nat

/-- HMAC-SHA-256 of a message under a key: its 32 bytes (R502; the algorithm is named, not defined, by the spec). -/
opaque Config.hmacSha256 : List Byte → List Byte → List Byte

/-- SHA-384: the 48 bytes of a digest (22). -/
opaque Config.sha384 : List Byte → List Byte

/-- HKDF-SHA-384 of a secret, a label and a length (22). -/
opaque Config.hkdf : List Byte → List Byte → Nat → List Byte

/-- Whether an ECDSA P-384 signature of a digest verifies under a public key: key, digest, signature (22). -/
opaque Config.ecdsaOk : List Byte → List Byte → List Byte → Bool

/-- The ECDSA P-384 signature of a digest by the chip's derived key: the 96 bytes (22). -/
opaque Config.ecdsaSign : List Byte → List Byte → List Byte

/-- The public key that belongs to a private key (22). -/
opaque Config.ecdsaPublic : List Byte → List Byte

/-- The chip's certificate chain in DER (R644); the spec does not give its bytes. -/
opaque Config.certChain : List Byte

/-- The device public key of a certificate chain that verifies from the Kereifold root; none when it does not (R644). -/
opaque Config.chainKey : List Byte → Option (List Byte)

/-- AES-256-GCM decryption: key, nonce, sealed bytes; none when the tag fails (22). -/
opaque Config.gcmOpen : List Byte → List Byte → List Byte → Option (List Byte)

/-- AES-256-GCM encryption: key, nonce, plain bytes (22). -/
opaque Config.gcmSeal : List Byte → List Byte → List Byte → List Byte

/-- The nonce with which a chip seals the role keys, by SEQ of the record; R636 does not give it. -/
opaque Config.sealNonce : Nat → List Byte

/-- A random byte of a nonce or a constellation identity: the draw's count and the byte's place. -/
opaque Config.randomByte : Nat → Nat → Byte

/-- The fused bandgap codes at -40, +25, +85 and +125 °C (R665). -/
opaque Config.bgPoint : Nat → Nat

/-- The fused termination count N_T of a D-PHY port and lane (R664). -/
opaque Config.termCount : Nat → Nat → Nat

/-- The fused temperature edges of the read-assist bands, in 0.1 °C: edge k lies between bands k and k + 1 (R665). -/
opaque Config.raEdge : Nat → Int

/-- The fused read-assist level of a band (R665). -/
opaque Config.raLevel : Nat → BitVec 3

/-- The strap POLE_ELIG of another node (R39). -/
opaque Config.poleStrap : Nat → Bool

/-- The 1-4-4 fast read that the boot flash declares in SFDP: its opcode and its dummy cycles (R478). -/
opaque Config.flashFast : Option (Nat × Nat)
/-- The boot flash needs 4-byte addresses (R478). -/
opaque Config.flashWide : Bool

/-- The configuration record that is staged with a firmware image; where it stands in the image is not in the spec (R477). -/
opaque Config.stagedRecord : List Byte → List Byte

/-- A byte of the boot ROM, which the spec does not list (Table 25-1). -/
opaque Config.bootRom : Nat → Byte

/-- The error of the special-function unit's built-in exponential for an FP32 pattern d ≤ 0: modulo 5, 2 is none. The spec fixes the
result only to within 2 units in the last place (R290). -/
opaque Config.sfuExp : Nat → Nat

/-- A byte that the spec leaves open: the draw's count and the byte's place. -/
opaque Config.freeByte : Nat → Nat → Byte

/-- A value that the spec leaves open: the draw's count. -/
opaque Config.freeValue : Nat → Nat

/-- The box factor, as a power of 2 up to 4, of D code 3 of a vision output, which Table 14-4 leaves undefined (log entry 38). -/
opaque Config.visBox : Fin 3

end Sys2Proof
end

