-- ==== Sys2Proof/Machine/ConstState.lean ====
section
/-! DEFINITION. ConstState: what the firmware of a chip, and of the pole, holds for the constellation: the configuration
record, tenants, transfers, models, commits and services (17 to 20); and the control complex beside its registers (16). -/

namespace Sys2Proof.Machine

/-- A staged transfer (R513, R655): handle, package ID or 0, total length, CRC-32C, chunks in order of arrival, last chunk's
time, whether its handle has lapsed. -/
structure Transfer where
  handle : Nat
  pkg : Nat
  tenant : Nat
  total : Nat
  crc : Nat
  chunks : List (Nat × List Byte) := []
  at_ : Nat
  deriving DecidableEq, Repr

/-- A logical core placed on a physical core (R561): its wide and narrow runs, first pair and length. -/
structure Placed where
  node : Nat
  lcore : Nat
  core : Nat
  wide : Nat
  wlen : Nat
  narrow : Nat
  nlen : Nat
  compute : Bool
  windows : Nat
  deriving DecidableEq, Repr

/-- A model known to the pole (R551 to R572). -/
structure Model where
  pkg : Nat
  tenant : Nat
  tier : Nat
  bytes : List Byte
  handle : Nat
  /-- 0 staged, 1 admitted and reserved, 2 active, 3 degraded, 4 halted (Table 17-28). -/
  st : Nat := 0
  variant : Nat := 0
  plan : Nat := 0
  placed : List Placed := []
  /-- Admission's time (R564). -/
  reservedAt : Nat := 0
  /-- Commit phase: 0 none, 1 DISTRIBUTE and VERIFY, 2 ORDER, 3 GO (Table 19-6). -/
  phase : Nat := 0
  prepared : Nat := 0
  ordered : Nat := 0
  /-- S of GO, U of an unload, their operation. -/
  goAt : Nat := 0
  unloadAt : Option Nat := none
  drop : Bool := false
  op : Nat := 0
  /-- The node whose loss the running fallback plan answers, and since when it has not been re-admitted (R29, R30). -/
  fallback : Option Nat := none
  /-- Sections are being reloaded from flash (R593). -/
  reloading : Bool := false
  /-- A second VERIFY failure aborts the commit (Table 19-9). -/
  retried : Bool := false
  /-- Fallback plans that name a chip which was not live at admission, by the node whose loss they answer (R562). -/
  unusable : List Nat := []
  /-- The plan that runs on while the model is admitted again: its number, variant, cores, the loss it answers (R594, R604). -/
  prev : Option (Nat × Nat × List Placed × Option Nat) := none
  deriving DecidableEq, Repr

/-- This chip's commit state of a plan (R568): 0 NONE, 1 PREPARED, 2 ORDERED, 3 GO, with S. -/
structure Commit where
  st : Nat := 0
  s_ : Nat := 0
  retried : Bool := false
  deriving DecidableEq, Repr

/-- A counting window (R543): its cycle, OPEN_CT, CLOSE_CT, whether DOOR_MAX or a stop ended it, when it closed, sums of the
committed epochs, missing epochs, and the next epoch whose fate has not been counted. -/
structure Window where
  cycle : Nat := 0
  openCt : Nat := 0
  closeCt : Nat := 0
  fault : Bool := false
  stopped : Bool := false
  degraded : Bool := false
  end_ : Option Nat := none
  ins : Nat := 0
  outs : Nat := 0
  missing : Nat := 0
  next : Nat := 0
  deriving DecidableEq, Repr

/-- A door of a passenger-count instance (R542 to R544). -/
structure Door where
  /-- 0 CLOSED, 1 OPEN, 2 SETTLE. -/
  st : Nat := 0
  /-- Accepted level (true is open); equal samples of the other level, and the CT of the first of them. -/
  open_ : Bool := false
  run : Nat := 0
  runCt : Nat := 0
  /-- The window in progress, and closed windows that wait for their epochs' decisions. -/
  win : Window := {}
  due : List Window := []
  last : List Byte := []
  deriving DecidableEq, Repr

/-- A service instance (R531 to R550) as this chip's firmware knows it. -/
structure Service where
  id : Nat
  auto : Bool := false
  pkg : Nat := 0
  tenant : Nat := 7
  cfg : List Byte := []
  started : Bool := false
  /-- Active plan of its model, its composer and the composer's shadow (R533). -/
  plan : Nat := 0
  composer : Nat := 0xFF
  shadowNode : Option Nat := none
  /-- 0 AVAILABLE, 1 DEGRADED, 2 UNAVAILABLE (R532), and its cause. -/
  st : Nat := 2
  cause : Nat := 1
  /-- Conditions that hold until something clears them, by cause code: bit c makes it UNAVAILABLE, bit 16 + c DEGRADED. -/
  conds : Nat := 0
  /-- Next epoch whose message is due, and the first that may be VALID again. -/
  next : Nat := 0
  validFrom : Nat := 0
  /-- First epoch of the plan in force, the plan before it with its result bank, and the first epoch that this composer forms itself
  (R549). -/
  planFrom : Nat := 0
  oldPlan : Nat := 0
  oldResult : Option (Nat × Nat) := none
  composeFrom : Nat := 0
  /-- Committed epochs in a row without a condition. -/
  good : Nat := 0
  level : Nat := 0
  held : Nat := 0
  /-- Abandoned epochs in a row, and the last epochs whose record was malformed (R535). -/
  stale : Nat := 0
  bads : List Nat := []
  /-- Count messages so far; SEQ of the last warning; messages published, publisher discards, invalid records. -/
  seq : Nat := 0
  lastSeq : Nat := 0
  noTarget : Bool := false
  published : Nat := 0
  discards : Nat := 0
  invalid : Nat := 0
  /-- Sessions that receive its state events. -/
  subs : List Nat := []
  /-- The last message received as shadow (R537). -/
  shadow : List Byte := []
  doors : Table Door := []
  /-- Video: the sum of the watched counters and the last epoch in which it rose (R547). -/
  watch : Nat := 0
  badEpoch : Option Nat := none
  deriving DecidableEq, Repr

/-- The firmware's records. -/
structure ConstState where
  /-- Configuration record image by offset (Table 17-18); unlisted bytes are zero. -/
  cfg : Table Byte := []
  opKey : Option (List Byte) := none
  tenKeys : Table (List Byte) := []
  /-- The role keys as sealed in this chip's flash (R636). -/
  sealed : List Byte := []
  /-- Tenants being released: tenant, operation, epoch U, and whether the clears have been ordered (R654). -/
  releasing : List (Nat × Nat × Nat × Bool) := []
  transfers : List Transfer := []
  nextHandle : Nat := 1
  models : List Model := []
  nextPlan : Nat := 1
  commits : Table Commit := []
  /-- This chip's share of a plan: under plan * 128, and plan * 128 + 1 + x for the fallback that answers the loss of x. -/
  shares : Table Config.Share := []
  services : List Service := []
  /-- Payloads of the instances that start again by themselves, by service ID (AUTO, R548). -/
  autos : Table (List Byte) := []
  /-- Obscuration settings the pole keeps per camera, node * 4 + pipeline (R523). -/
  obscure : Table (List Byte) := []
  /-- Constellation identity of this formation (FORM_ID of Table 18-4). -/
  formId : Nat := 0
  /-- Events already sent of degraded groups; a frame rate change in progress: operation and boundary. -/
  rateOp : Option (Nat × Nat) := none
  deriving DecidableEq, Repr

/-- A line of the L2 directory (R462): service cores that hold it, the one that holds it in E or M, whether that one has still to do the
store for which it was granted the line, and the GetM and GetS requests that wait for it or replay (R464, R465). -/
structure CacheLine where
  /-- Service cores whose instruction cache holds the line (R462). -/
  code : List Nat := []
  holders : List Nat := []
  owner : Option Nat := none
  dirty : Bool := false
  storing : Bool := false
  waitM : List Nat := []
  waitS : List Nat := []
  deriving DecidableEq, Repr

/-- The requests that have reached a bank for one line in one cycle (R464): the line as it stood at the start of the cycle, the core last
granted then, the requests, and how many replays have been counted. -/
structure LineReqs where
  line : Nat
  at_ : Nat
  was : CacheLine
  last : Nat
  reqs : List (Nat × Nat) := []
  lost : Nat := 0
  deriving DecidableEq, Repr

/-- The control complex beside its registers (16). -/
structure ControlState where
  /-- Lines that the L2 holds, by line number. -/
  lines : Table (Option CacheLine) := []
  /-- The service core last granted ownership, per bank (R464). -/
  lastOwner : List Nat := [2, 2, 2, 2]
  /-- Requests of this cycle, by line (R464). -/
  reqs : List LineReqs := []
  /-- Flash slots tried in this stage 2 (R478). -/
  tried : Nat := 0
  /-- The port asked in link boot, and the time of its last progress (R479). -/
  askPort : Option Nat := none
  progressAt : Nat := 0
  /-- The request of BOOT_GO that waits for its answer (R480). -/
  bootGo : Option Req := none
  /-- The set header and images that the chip was booted with, and neighbours that asked for them (R480). -/
  header : List Byte := []
  image : List Byte := []
  pushTo : List Nat := []
  /-- The lockstep pair has stopped (R472). -/
  stopped : Bool := false
  deriving DecidableEq, Repr

end Sys2Proof.Machine
end

