-- ==== Sys2Proof/Machine/CoreState.lean ====
section
/-! DEFINITION. CoreState: what a core holds beside its registers and memories: DMA channels, the sequencer, tensor
operations, special functions and thread groups (06, 07, 09, 10). -/

namespace Sys2Proof.Machine

/-- A DMA descriptor in a channel: its 16 words, TEN and step index (Table 6-1, R183). -/
structure DmaDesc where
  words : List Nat
  ten : Nat
  step : Nat
  attempt : Nat := 1
  deriving DecidableEq, Repr

/-- A packet of a channel that a target refused with ERR 0x04: destination, address, data, resends so far, since (R210). -/
structure Resend where
  node : Nat
  addr : Nat
  data : List Byte
  tries : Nat
  since : Nat
  deriving DecidableEq, Repr

/-- A packet or local write that a channel reads into its write slot beat by beat (R194, R196): addresses of its first byte at the
source, in this core's palette, and at the destination, its length, and the bytes read so far. -/
structure DmaPart where
  src : Nat
  dst : Nat
  len : Nat
  data : List Byte := []
  deriving DecidableEq, Repr

/-- A DMA channel (R182 to R202). `pos` is the byte position of the next packet, `moved` the bytes completed, `epochAt` E of R198 in
ns. -/
structure DmaChan where
  queue : List DmaDesc := []
  cur : Option DmaDesc := none
  /-- The kept descriptor of a stream, issued again: it runs before the queue (R211, R229). -/
  again : Option DmaDesc := none
  pos : Nat := 0
  moved : Nat := 0
  epochAt : Nat := 0
  part : Option DmaPart := none
  /-- Units of the descriptor not yet requested (R200). -/
  remain : Nat := 0
  reads : Nat := 0
  writes : Nat := 0
  creqOut : Bool := false
  resends : List Resend := []
  /-- Bytes left of the unit used last: a packet may end inside a unit (R201). -/
  frac : Nat := 0
  /-- Bytes that a re-run writes again without new credit; a stream that waits for its re-run, with its REMAIN and those bytes
  (R211). -/
  paid : Nat := 0
  kept : Option (DmaDesc × Nat × Nat) := none
  fault : Bool := false
  /-- Steps of ACT descriptors that poison has aborted and that wait for their re-run (R203, R211). -/
  aborted : List Nat := []
  deriving DecidableEq, Repr

/-- A note between its GO and its beat: slot, the packet it sends, and whether it is a local write (R196, R204). -/
structure DmaNote where
  slot : Nat
  pk : Packet
  local_ : Bool
  deriving DecidableEq, Repr

/-- What stands in a slot for the write side (R194, R196): landed READ data, or a local write read whole. Its channel, whether its slot
is a read slot, the palette offset of its next byte, the bytes still to write, and the length of the whole. -/
structure DmaLand where
  ch : Nat
  read : Bool
  addr : Nat
  data : List Byte
  len : Nat
  deriving DecidableEq, Repr

/-- What the arbitration of a DMA engine holds (R196): the high-priority channel served last, the ordinary channel that keeps its rank
within a packet, the notes that wait for their beat, in the order of their GO writes, and the slots that the write side has to serve, in
the order in which they filled. -/
structure DmaEngine where
  lastHigh : Nat := 7
  keep : Option Nat := none
  notes : List DmaNote := []
  land : List DmaLand := []
  deriving DecidableEq, Repr

/-- A step in flight on the tensor unit: step index, words, arrays, attempt, issue time, tiles drained so far; TEST steps share the
form. -/
structure TensorRun where
  step : Nat
  words : List Nat
  arrays : Nat
  attempt : Nat := 1
  since : Nat := 0
  test : Bool := false
  tiles : Nat := 0
  /-- The weight buffers with WS = 1: which block of B they hold, counted over the batch loops, and its bytes (R244). -/
  buf : Option (Nat × List Byte) := none
  deriving DecidableEq, Repr

/-- A step that aborted and waits to be issued again (R229): step, attempt to come, what it waits for. -/
structure Rerun where
  step : Nat
  attempt : Nat
  /-- Waits for RERUN_GO after a re-fetch, of this palette line. -/
  refetch : Bool
  line : Option Nat := none
  deriving DecidableEq, Repr

/-- A local SIGNAL that waits until those issued before it are performed (R223): step, global address, data. -/
structure LocalSignal where
  step : Nat
  addr : Nat
  data : List Byte
  deriving DecidableEq, Repr

/-- The sequencer of a core beside its registers (R214 to R231). -/
structure SeqState where
  /-- Pass epoch P and the pass's start in CT ns. -/
  pass : Nat := 0
  passAt : Nat := 0
  /-- Bases of the 16 counters of R222. -/
  bases : List Nat := [0, 0, 0, 0, 0, 0, 0, 0, 0, 0, 0, 0, 0, 0, 0, 0]
  /-- Boundaries seen while the next step waited to issue (R226). -/
  waited : Nat := 0
  /-- The pass has reached EPOCH_END; a boundary fell since its start. -/
  atEnd : Bool := false
  boundary : Bool := false
  /-- Epoch of the armed plan switch (R228). -/
  switchAt : Option Nat := none
  /-- Tensor operations and TEST steps in flight. -/
  tensor : List TensorRun := []
  /-- SIGNAL steps in flight, oldest first: remote ones wait for their WRITE_ACK, local ones for those before them. -/
  signals : List Nat := []
  locals : List LocalSignal := []
  /-- Aborted steps that wait to be issued again, the first to abort first (R229). -/
  reruns : List Rerun := []
  /-- Attempts of this epoch, step and count (R167). -/
  attempts : List (Nat × Nat) := []
  deriving DecidableEq, Repr

/-- A loaded table of an SFU slot: header words 0 to 10, coefficients and bounds (R276). `badPar` lists the segments whose words have
wrong parity, 64 for the header (R294). -/
structure SfuSlot where
  ready : Bool := false
  badPar : List Nat := []
  head : List Nat := []
  coefs : List Nat := []
  bounds : List Nat := []
  deriving DecidableEq, Repr

/-- The special function unit beside its registers (R283, R291). -/
structure SfuState where
  slots : Table SfuSlot := []
  /-- Load in progress: the slot. -/
  loading : Option Nat := none
  /-- Self-test pass in progress: its start; start of the last pass; the pass is late. -/
  passAt : Option Nat := none
  lastPass : Nat := 0
  late : Bool := false
  deriving DecidableEq, Repr

/-- A launch in flight (R298): its step, words, first group not yet resident, groups ended. -/
structure Launch where
  step : Nat
  words : List Nat
  param : List Nat
  next : Nat := 0
  ended : Nat := 0
  shared : List Nat := []
  since : Nat := 0
  attempt : Nat := 1
  /-- Note slots that ended groups of the launch issued and that have not finished. -/
  notes : List Nat := []
  deriving DecidableEq, Repr

/-- One resident group (R297, R301). Registers: `v` holds register r of lane l under r * 32 + l. -/
structure Group where
  launch : Nat
  index : Nat
  /-- Physical v registers and private granules. -/
  vbase : List Nat := []
  grans : List Nat := []
  pc : Nat := 0
  exist : Nat := 0
  ended : Nat := 0
  active : Nat := 0
  u : List Nat := []
  p : List Nat := []
  /-- u and p registers whose stored parity is wrong (R320). -/
  uBad : List Nat := []
  pBad : List Nat := []
  /-- Divergence stack, top first: PC, mask, whether the entry is a reconvergence entry (R307, R347). -/
  stack : List (Nat × Nat × Bool) := []
  /-- Independent mode: resume address and WAITING flag per lane, the lowest lane of the set last served, instructions it
  has issued in a row, 0 when another set is to be served. `active` is then the set last served. -/
  resume : List Nat := []
  waiting : Nat := 0
  last : Nat := 31
  run : Nat := 0
  /-- Held by WAIT (1) or at LBAR (3); 0 is not held. -/
  hold : Nat := 0
  /-- Note slots that this group issued and that have not finished. -/
  notes : List Nat := []
  deriving DecidableEq, Repr

/-- The thread-group cluster beside its registers. -/
structure TgState where
  split : Nat := 0
  launches : List Launch := []
  groups : Table (Option Group) := []
  /-- Near-cache lines present in a set: line address and bytes, newest first, at most four (R313). -/
  cache : Table (List (Nat × List Byte)) := []
  /-- Near-cache lines whose parity is wrong (R321). -/
  ncBad : List Nat := []
  /-- Instruction-cache lines: palette address and 64 bytes, newest first, at most 256 (R296, R306). -/
  icache : List (Nat × List Byte) := []
  /-- Times of register-file and local-store parity errors, newest first (R322). -/
  perrs : List Nat := []
  deriving DecidableEq, Repr

/-- A core. -/
structure CoreState where
  chans : Table DmaChan := []
  dma : DmaEngine := {}
  seq : SeqState := {}
  sfu : SfuState := {}
  tg : TgState := {}
  deriving DecidableEq, Repr

end Sys2Proof.Machine
end

