-- ==== Sys2Proof/Machine/Emit.lean ====
section
/-! DEFINITION. Emit: what leaves the chip, and the orders its firmware gives to other chips. -/

namespace Sys2Proof.Machine

/-- One thing that left the chip. -/
inductive Emit where
  /-- A run of four NOTICE blocks (R64). -/
  | notice (port code : Nat)
  /-- A lane-level pair: 0x2D ALIGN with its MARKER_CNT, or 0x33 SKIP (R51). -/
  | lanePair (port kind marker : Nat)
  /-- A link frame, full or short. -/
  | frame (port : Nat) (f : Frame)
  /-- Blocks as they crossed the lanes, in order: the lane, and its 66 bits with the first in bit 0 (R46, R49). -/
  | blocks (port : Nat) (bs : List (Nat × BitVec 66))
  /-- A run of IDLE blocks of the port stream (R64). -/
  | idle (port n : Nat)
  /-- A run of TRAIN blocks on both lanes: how many on each, and the bodies of lane 0 for the eight VCs from the first in turn; lane 1
  sends them with LANE_ID 1 (R55). -/
  | train (port n : Nat) (bodies : List (BitVec 56))
  /-- A lane sends the PRBS31 sequence that follows these 31 bits (R82). -/
  | prbs (port lane : Nat) (from_ : BitVec 31)
  /-- The pads of a port send electrical idle (R82). -/
  | quiet (port : Nat)
  /-- An order of the pole's firmware to a node: a path-3 message with its code and payload. -/
  | order (node code : Nat) (data : List Byte)
  /-- An Ethernet frame sent by a port, without its FCS. -/
  | eth (port : Nat) (data : List Byte)
  /-- A CSI-2 packet of the transmitter: virtual channel, data type, payload or the two bytes of a frame number. -/
  | csi (vc dt : Nat) (data : List Byte)
  /-- Bytes that the SPI target shifts out (R490). -/
  | spi (data : List Byte)
  /-- The byte that the SPI target shifts out again and again while the clock runs (R490). -/
  | spiRepeat (b : Byte)
  /-- A level on an output pin, by signal name. -/
  | pin (name : String) (level : Bool)
  /-- A transfer on an I²C bus after a START: its bytes, and whether a STOP ends it or a repeated START (R367, R725). -/
  | i2c (bus : Nat) (data : List Byte) (stop : Bool)
  /-- A frame of the MDIO controller (R722). -/
  | mdio (cmd data : Nat)
  /-- A command of the QSPI controller: the address with its bytes (0 for none), the lane mode 1-4-4, the dummy cycles, and the data
  it writes (R724). -/
  | qspi (cmd addr addrBytes : Nat) (quad : Bool) (dummy : Nat) (data : List Byte)
  /-- A byte that a UART sends, and the bits of its frame on the line, first bit first (Table 25-10). -/
  | uart (u : Nat) (b : Byte) (line : List Bool)
  /-- What the test access port shifts out: a register's bits, bit 0 first. -/
  | tdo (bits : List Bool)
  /-- Interrupt of the epoch to the control complex and the sequencers (R133). -/
  | epochIrq (n : Nat)
  deriving DecidableEq, Repr

end Sys2Proof.Machine
end

