-- ==== Sys2Proof/Machine/KmpState.lean ====
section
/-! DEFINITION. KmpState: mailboxes, sessions, operations and relayed messages of the mailbox protocol (17). -/

namespace Sys2Proof.Machine

/-- A command of a session that was accepted: its SEQ and CRC, and its response once it was sent (R505, R506). -/
structure Accepted where
  seq : Nat
  crc : Nat
  resp : Option (List Byte) := none
  deriving DecidableEq, Repr

/-- A session at the pole (R500 to R505). -/
structure Session where
  sid : Nat
  role : Nat
  opened : Bool := false
  /-- When it became pending, and when its last message passed R498. -/
  since : Nat := 0
  seen : Nat := 0
  hostNonce : List Byte := []
  devNonce : List Byte := []
  key : List Byte := []
  /-- E of R505. -/
  expSeq : Nat := 1
  mask : Nat := 0
  evSeq : Nat := 0
  lost : Bool := false
  /-- Path, entry chip and UDP source of its last message. -/
  path : Nat := 0
  entry : Nat := 0
  peer : Nat := 0
  /-- The last 16 accepted commands, newest first. -/
  recent : List Accepted := []
  deriving DecidableEq, Repr

/-- A message that this chip relays to another node (R494, R495): mailbox, fragments not yet acknowledged, first
fragment's time, and the host path of a command. -/
structure Relay where
  id : Nat
  dst : Nat
  mb : Nat
  rest : List (List Byte)
  sent : Option Nat := none
  /-- A fragment was refused with ERR 0x04 at this time. -/
  refused : Option Nat := none
  path : Nat := 0
  head : List Byte := []
  isCmd : Bool := false
  deriving DecidableEq, Repr

/-- An operation that answered 0x0001 and runs on (R507): its ID, command, session and payload. -/
structure Operation where
  id : Nat
  cmd : Nat
  sid : Nat
  req : Req := {}
  since : Nat := 0
  /-- Final status and results, once it has ended. -/
  status : Option Nat := none
  result : List Byte := []
  /-- What it names: 0 tenant, 1 package, 2 firmware slot, 3 node, 4 the frame rate (R508). -/
  names : List (Nat × Nat) := []
  deriving DecidableEq, Repr

/-- The mailbox protocol on this chip. -/
structure KmpState where
  /-- Messages in mailbox slots, under path * 64 + mailbox * 16 + slot (R486). -/
  slots : Table (List Byte) := []
  /-- UDP source of the datagram in a slot; on path 3 the node it came from. -/
  peers : Table Nat := []
  /-- Path-3 fragments not yet a whole message: source node, mailbox, bytes. -/
  parts : List (Nat × Nat × List Byte) := []
  /-- Posted slots in the order in which their messages arrived; those that one write posted stand together (R496). -/
  arrivals : List (List Nat) := []
  /-- Responses that wait for a free slot of MB1: path, UDP address, message. -/
  outWait : List (Nat × Nat × List Byte) := []
  sessions : List Session := []
  lastSid : Nat := 0
  /-- Commands accepted and not yet executed, in order (R508); how many of the last were accepted in the cycle `acceptedAt`. -/
  accepted : List Req := []
  acceptedAt : Nat := 0
  acceptedNow : Nat := 0
  ops : List Operation := []
  nextOp : Nat := 1
  relays : List Relay := []
  /-- Host path and UDP source of commands relayed to the pole and not yet answered, by bytes 2 to 7 of their header, oldest first
  (R488). -/
  routes : List (Nat × Nat × List Byte) := []
  /-- Where the last command of a session that the pole took entered here: SID, host path and UDP source (R493). -/
  sidRoutes : List (Nat × Nat × Nat) := []
  nextRelay : Nat := 1
  deriving DecidableEq, Repr

end Sys2Proof.Machine
end

