-- ==== Sys2Proof/Machine/LinkState.lean ====
section
/-! DEFINITION. LinkState: what a Staol link port, the router and the transactions hold beside their registers. -/

namespace Sys2Proof.Machine

/-- A packet waiting at an output of the router (R103, R104, R110). `out` is 0 to 5 for a port and 7 for local delivery;
`inPort` is 6 for a packet of this chip's own injection stage, `vc` the VC it takes at the output. `entry` is the route entry that
its header was looked up with (R111, R114), `dlIn` the DL bit it came with, and `begun` says that another copy of this broadcast
flit has left the router (R84). -/
structure Waiting where
  pk : Packet := {}
  inPort : Nat := 6
  inVc : Nat := 0
  out : Nat := 7
  vc : Nat := 0
  at_ : Nat := 0
  entry : Nat := 0
  dlIn : Bool := false
  begun : Bool := false
  deriving DecidableEq, Repr

/-- A packet that holds an output VC, and its flits not yet bound to a slot (R104); no flits: the VC is free. -/
structure Sending where
  w : Waiting := {}
  flits : List Flit := []
  deriving DecidableEq, Repr

/-- No flit of the packet has left yet. -/
def Sending.whole (x : Sending) : Bool := !x.flits.isEmpty && decide (x.flits.length = x.w.pk.len)

/-- A full frame on its way out (R62): its header as formed, the slots bound so far, when its first block left, and the lane of
that block. A resent frame has all its slots. -/
structure Building where
  f : Frame := {}
  start : Nat := 0
  lane : Nat := 0
  /-- Slots that have started. -/
  next : Nat := 0
  /-- The frame is a resent one. -/
  again : Bool := false
  /-- The frame's CRC bit 0 is to be inverted (INJ_CRC). -/
  inj : Bool := false
  deriving DecidableEq, Repr

/-- The PRBS31 checker of a lane (R82): bits taken for the seed, the last 31 bits, the runs of bits predicted and of their
complements, SYNC, INV, which of the last 64 bits were wrong, and the wrong bits counted. -/
structure Checker where
  seeded : Nat := 0
  st : BitVec 31 := 0#31
  runEq : Nat := 0
  runNe : Nat := 0
  sync : Bool := false
  inv : Bool := false
  recent : List Bool := []
  errs : Nat := 0
  deriving DecidableEq, Repr

/-- One lane of a port: its transmit scrambler, the newest bit sent in bit 0, and its receive descrambler, the newest bit received in
bit 0 (R46); its PRBS31 generator, the newest bit in bit 0, with its checker (R82). -/
structure Lane where
  scr : BitVec 58 := 0#58
  rx : BitVec 58 := 0#58
  prbs : BitVec 31 := BitVec.allOnes 31
  check : Checker := {}
  deriving DecidableEq, Repr

/-- The state of a port beside its registers (R49 to R82). Times are root-clock cycles. Lists over the virtual channels
hold VC 0 first. -/
structure Port where
  /-- PHASE of the TRAIN blocks being sent: 1 DETECT, 2 ALIGN, 3 EQUALIZE, 4 READY (Table 2-4). -/
  phase : Nat := 1
  /-- Entry to the present state. -/
  since : Nat := 0
  /-- Entry to phase READY. -/
  readySince : Nat := 0
  /-- Bit l: a TRAIN block was received on lane l since entry to DETECT. -/
  trainSeen : Nat := 0
  /-- Bit l: lane l's polarity has been decided by a TRAIN block (R52). -/
  polSeen : Nat := 0
  /-- Consecutive matching ALIGN pairs (Table 2-5). -/
  alignRun : Nat := 0
  /-- LANE_IDs of an ALIGN pair have been seen (R53). -/
  laneIdSeen : Bool := false
  /-- The last MARKER_CNT received. -/
  marker : Nat := 0
  /-- ALIGN pairs sent, modulo 256, is this count modulo 256. -/
  alignSent : Nat := 0
  /-- ALIGN and SKIP pairs sent since entry to the present state. -/
  alignDone : Nat := 0
  skipDone : Nat := 0
  /-- This end's receiver has finished adaptation (EQ_DONE). -/
  eqDone : Bool := false
  peerEqDone : Bool := false
  /-- Preset that this end asks of its partner (PRESET_REQ). -/
  presetReq : Nat := 0
  /-- Blocks per lane with no block error since both ends showed EQ_DONE (Table 2-5). -/
  clean0 : Nat := 0
  clean1 : Nat := 0
  /-- CRED_ADV values received in this READY phase: bit v, and the values. -/
  credSeen : Nat := 0
  adv : List Nat := [0, 0, 0, 0, 0, 0, 0, 0]
  /-- READY blocks received: consecutive, and in all since the partner's first. -/
  readyRun : Nat := 0
  readyTotal : Nat := 0
  /-- The partner of the training: node and port numbers from its TRAIN blocks. -/
  peerNode : Nat := 0
  peerPort : Nat := 0
  /-- A port-stream block other than a TRAIN block was received since entry to ACTIVE (R58). -/
  streamOn : Bool := false
  /-- Entry to ACTIVE. -/
  activeSince : Nat := 0
  /-- Received and sent port-stream blocks, the counts k of R49. -/
  kRx : Nat := 0
  kTx : Nat := 0
  /-- The two lanes of the transmitter. -/
  lane0 : Lane := {}
  lane1 : Lane := {}
  /-- What the lanes carry is on record up to this time; TRAIN blocks sent on each lane since entry to DETECT. -/
  laneAt : Nat := 0
  trainSent : Nat := 0
  /-- The full frame on its way out (R62). -/
  building : Option Building := none
  /-- Fill of the elastic buffers against their centre, in blocks (R51). -/
  elastic : Int := 0
  expSeq : Nat := 0
  nextSeq : Nat := 0
  /-- SEQ of the last frame accepted, and whether one was since entry from EQUALIZE. -/
  accSeq : Nat := 255
  accV : Bool := false
  nakPending : Bool := false
  /-- A NAK, and an accepted frame, wait for a header (R68). -/
  nakDue : Bool := false
  reportDue : Bool := false
  /-- Held full frames, oldest first (R69). -/
  held : List Frame := []
  /-- SEQs of freed frames, newest first, at most 64 (R72). -/
  freed : List Nat := []
  /-- Replay in progress: held frames already resent (R71). -/
  replay : Option Nat := none
  /-- Replay start times, newest first, at most five (R73). -/
  replayTimes : List Nat := []
  /-- Last restart of the replay timer (R71). -/
  timerFrom : Nat := 0
  sent : List Nat := [0, 0, 0, 0, 0, 0, 0, 0]
  crTotal : List Nat := [0, 0, 0, 0, 0, 0, 0, 0]
  freedTotal : List Nat := [0, 0, 0, 0, 0, 0, 0, 0]
  reported : List Nat := [0, 0, 0, 0, 0, 0, 0, 0]
  /-- Flits of each VC taken into its receive buffer since entry from EQUALIZE, modulo 256 (R76). -/
  got : List Nat := [0, 0, 0, 0, 0, 0, 0, 0]
  /-- Per VC, when the last credit report was processed and the CR_TOTAL before it (R83). -/
  crBefore : List (Option (Nat × Nat)) := [none, none, none, none, none, none, none, none]
  /-- Next VC of the round-robin credit report (R78). -/
  reportNext : Nat := 0
  injCrc : Bool := false
  /-- Receive buffers per VC, oldest flit first (R76). -/
  vcBuf : List (List Flit) := [[], [], [], [], [], [], [], []]
  /-- Bulk packets of other nodes for this chip that stand in the receive buffers, by VC, oldest first, and whether each took an entry of
  the bulk landing pool when its header arrived (R439, R441). -/
  pool : List (Nat × Bool) := []
  /-- Arrival CT in ns of the HOP flits that stand in the buffers, oldest first (R128). -/
  hopAt : List Nat := []
  /-- The packet that holds each output VC (R104). -/
  sending : List Sending := [{}, {}, {}, {}, {}, {}, {}, {}]
  /-- Position in the cycle of seven slots (R104). -/
  slotPos : Nat := 0
  /-- Last TIME_REQ: SEQ, t1 in ns, sent and unanswered; whole ms of CT in which it was sent (R127). -/
  reqSeq : Nat := 0
  reqT1 : Nat := 0
  reqOpen : Bool := false
  reqMs : Option Nat := none
  /-- CT in ns of the last HOP packet sent (R91); a step of CT moves it, so that it may lie before 0. -/
  hopSent : Option Int := none
  /-- TIME_REQ received and unanswered: SEQ and t2 (R127). -/
  answer : Option (Nat × Nat) := none
  rspMs : Option Nat := none
  /-- The partner's last TIME_RSP: LOCKED, ROOT, DEPTH and when it came (R126). -/
  pLocked : Bool := false
  pRoot : Bool := false
  pDepth : Nat := 63
  pAt : Option Nat := none
  /-- Whole ms of CT of the last heartbeat sent; of the last one received, or of entry to ACTIVE; one was received since then
  (R579 to R581). -/
  hbMs : Option Nat := none
  missMs : Nat := 0
  hbIn : Bool := false
  /-- EN was cleared because the port went SILENT, at this time (R580). -/
  silentAt : Option Nat := none
  deriving DecidableEq, Repr

/-- What the answer to a transaction completes at its issuer (R96). -/
inductive TxnUse where
  | dmaRead (core ch : Nat) (dst : Nat) (len : Nat)
  | dmaWrite (core ch : Nat) (len tries : Nat)
  | note (core slot : Nat)
  | signal (core step : Nat)
  | credit (core ch : Nat)
  | ringCredit (w : Nat) (hdr : Bool)
  | feedRead (feed frame row off : Nat)
  | layerRead (feed frame layer row off : Nat)
  | relay (id : Nat)
  | parkRead
  | firmware
  | discard
  deriving DecidableEq, Repr

/-- A transaction in flight: its issuer and tag, the request and its issue time (R95, R96). -/
structure Txn where
  issuer : Nat
  tag : Nat
  pk : Packet
  since : Nat
  use : TxnUse
  deriving DecidableEq, Repr

/-- A transaction that waits for a tag or for bulk credit, and whether each wait has been counted (R96, R440). -/
structure TagWait where
  pk : Packet
  use : TxnUse
  tagged : Bool := false
  bulked : Bool := false
  deriving DecidableEq, Repr

/-- A tag kept unused after a timeout: until when, and the node whose bulk count returns then (R95, R440). -/
structure Quarantine where
  issuer : Nat
  tag : Nat
  until_ : Nat
  bulk : Option Nat
  /-- The transaction ended with its core's reset (R116, R460). -/
  reset : Bool := false
  deriving DecidableEq, Repr

/-- A packet that stands before the chip's injection stage (R199, R397): core, or 8 + writer for a packet of a stripe ring, channel, or
8 + slot for a note, deadline, and the use of its answer; none for a posted write. -/
structure Inject where
  core : Nat
  ch : Nat
  dl : Option Nat
  pk : Packet
  use : Option TxnUse
  deriving DecidableEq, Repr

/-- The router, the TC0 shaper and sink, and the transactions of the chip (R86 to R116, R438 to R441). -/
structure Fabric where
  waiting : List Waiting := []
  /-- HOP packets consumed by the router: port, payload, arrival CT in ns. -/
  hops : List (Nat × List Byte × Nat) := []
  /-- Packets of the DMA engines that wait at the injection stage, oldest first. -/
  inject : List Inject := []
  /-- Packets delivered to this chip and not yet executed. -/
  delivered : List Packet := []
  sink : List Packet := []
  /-- Beacons taken from the sink queue and not yet acted on. -/
  taken : List Packet := []
  /-- Routed beacons that wait for the shaper, oldest first, and its last release. -/
  beacons : List Packet := []
  released : Option Nat := none
  serviced : Nat := 0
  txns : List Txn := []
  quarantine : List Quarantine := []
  /-- Transactions that wait for a tag or for bulk credit, in order. -/
  tagWait : List TagWait := []
  /-- Next tag to try, per issuer. -/
  nextTag : Table Nat := []
  /-- WRITE_BULK and MSG in flight per destination node (R440). -/
  bulk : Table Nat := []
  deriving DecidableEq, Repr

end Sys2Proof.Machine
end

