-- ==== Sys2Proof/Machine/MemState.lean ====
section
/-! DEFINITION. MemState: the memories of the chip beside their registers (05, 07, 10, 16). -/

namespace Sys2Proof.Machine

/-- A tenant clear in progress on a core (Table 5-6); `all` is the clear of every bank at boot (R178). -/
structure ClearState where
  tenant : Nat
  phase : Nat := 1
  since : Nat := 0
  all : Bool := false
  /-- Tenants released since, whose clear follows this one on the core. -/
  also : List Nat := []
  deriving DecidableEq, Repr

/-- The memories. Palette bytes stand under core * 4194304 + bank * 98304 + row * 64 + byte, control SRAM bytes under their
offset, accumulator and register-file words under core * 65536 + index, near-memory bytes under core * 131072 + offset.
Every unlisted byte or word is zero: reset release clears every memory (R181, R469). -/
structure MemState where
  pal : Table Byte := []
  /-- Palette bytes whose stored parity is wrong (R164), and bytes that a read in this cycle would find flipped though what is stored
  is good: a transient error (R166). -/
  badPar : List Nat := []
  flips : List Nat := []
  /-- Bytes of `badPar` that no write makes good: a failed cell, which a clear finds at its verification (R177). -/
  stuck : List Nat := []
  /-- Words of a core that gave a parity error in this cycle and wait for their classification, newest first: whether the error is
  stored (R166). The newest is the one captured. -/
  reread : Table (List (Nat × Bool)) := []
  /-- Register-file words, by index, and near-memory bytes whose stored parity is wrong (R320). -/
  rfBad : List Nat := []
  nearBad : List Nat := []
  /-- Parity error times of a bank, newest first, under core * 32 + bank (R168). -/
  perrs : Table (List Nat) := []
  /-- Power-up start of a pair that is not ready, under core * 16 + pair (R169). -/
  pairUp : Table (Option Nat) := []
  clear : Table (Option ClearState) := []
  sram : Table Byte := []
  /-- Words of the control complex's memories that do not match their SECDED code (R469): the memory, 0 control SRAM, 1 L2, 2 to 4 the L1
  data caches, the word in 8-byte units of control SRAM, and whether two bits are wrong. -/
  ecc : List (Nat × Nat × Bool) := []
  acc : Table Word := []
  rf : Table Word := []
  near : Table Byte := []
  /-- A core whose local store was discarded by a change of split (R298): the draw of free values it reads as. -/
  nearFree : Table (Option Nat) := []
  deriving DecidableEq, Repr

/-- What an unlisted byte reads as: zero (R181, R469). -/
def byteZero : Nat → Byte := fun _ => 0#8

/-- What an unlisted word reads as: zero (R181). -/
def wordZero : Nat → Word := fun _ => 0#32

/-- What an unlisted byte of near memory reads as: zero, or a free value where a change of split has discarded it (R298). -/
def MemState.nearByte (m : MemState) (k : Nat) : Byte :=
  match tblGet (fun _ => none) m.nearFree (k / 131072) with
  | none => 0#8
  | some f => Config.freeByte f (k % 131072)

/-- A read of a palette byte gives a parity error now (R164). -/
def MemState.byteBad (m : MemState) (k : Nat) : Bool := m.badPar.contains k || m.flips.contains k

/-- No byte of the palettes gives a parity error. -/
def MemState.parityOk (m : MemState) : Bool := m.badPar.isEmpty && m.flips.isEmpty

/-- Bytes of a key range are written with good parity; a failed cell stays bad (R154, R164, R177). -/
def MemState.mended (m : MemState) (lo hi : Nat) : MemState :=
  { m with badPar := m.badPar.filter (fun k => k < lo || hi ≤ k || m.stuck.contains k), flips := m.flips.filter (fun k => k < lo || hi ≤ k) }

/-- The canonical form of every memory. -/
def MemState.wf (m : MemState) : Bool :=
  tblWf byteZero m.pal && tblWf byteZero m.sram && tblWf wordZero m.acc && tblWf wordZero m.rf && tblWf m.nearByte m.near

end Sys2Proof.Machine
end

