-- ==== Sys2Proof/Machine/RegMap.lean ====
section
/-! DEFINITION. RegMap: every register of the spec, its chip-local address, the access code of each of its bits and its
reset value (Tables 25-1 to 25-3 and the register tables they name). A read of a bit that no mask names gives zero (R11). -/

namespace Sys2Proof.Machine

/-- A register, or a family of registers at `base + s1 * i + s2 * j`, `i < n1`, `j < n2`. The masks name the bits of each
access code (Table 0-2); WO bits hold nothing and read as zero. -/
structure RegDesc where
  base : Nat
  s1 : Nat := 0
  n1 : Nat := 1
  s2 : Nat := 0
  n2 : Nat := 1
  ro : Nat := 0
  rw : Nat := 0
  w1c : Nat := 0
  wo : Nat := 0
  wo1 : Nat := 0
  rwl : Nat := 0
  reset : Nat := 0
  deriving DecidableEq, Repr

/-- Every bit of a register word. -/
def allBits : Nat := 0xFFFFFFFF

/-- Link ports 0 to 5 (Tables 2-13 to 2-16). -/
def regsLink : List RegDesc := [
  { base := 0x21000000, s1 := 0x1000, n1 := 6, rw := 0x31, wo := 0xE, reset := 1 },
  { base := 0x21000004, s1 := 0x1000, n1 := 6, ro := 0xFF7F01FF, reset := 1 },
  { base := 0x21000008, s1 := 0x1000, n1 := 6, ro := 0x81FF },
  { base := 0x2100000C, s1 := 0x1000, n1 := 6, w1c := 0x1F },
  { base := 0x21000010, s1 := 0x1000, n1 := 6, s2 := 4, n2 := 3, ro := allBits },
  { base := 0x21000020, s1 := 0x1000, n1 := 6, s2 := 4, n2 := 8, ro := 0x7F7F },
  { base := 0x21000040, s1 := 0x1000, n1 := 6, s2 := 4, n2 := 2, ro := 0xFFFF0003 },
  { base := 0x21000050, s1 := 0x1000, n1 := 6, s2 := 8, n2 := 2, ro := 3 },
  { base := 0x21000054, s1 := 0x1000, n1 := 6, s2 := 8, n2 := 2, ro := allBits }]

/-- Fabric and queue registers (Tables 3-8 to 3-10, 15-8, 25-5). The strap values of FAB_NODE stand in the state. -/
def regsFabric : List RegDesc := [
  { base := 0x21008000, ro := 0x7F },
  { base := 0x21008004, ro := 1, rw := 6, reset := 4 },
  { base := 0x21008008, s1 := 4, n1 := 2, rw := allBits },
  { base := 0x21008010, w1c := 0x7F },
  { base := 0x21008020, s1 := 4, n1 := 2, rw := 7, reset := 0 },
  { base := 0x21008028, s1 := 4, n1 := 2, rw := 7, reset := 2 },
  { base := 0x21008030, s1 := 4, n1 := 2, rw := 7, reset := 4 },
  { base := 0x21008040, s1 := 4, n1 := 6, ro := allBits },
  { base := 0x21008060, ro := 0xFF },
  { base := 0x21008064, ro := allBits },
  { base := 0x21008068, ro := 0x1FF01FF },
  { base := 0x2100806C, s1 := 4, n1 := 3, ro := allBits }]

/-- Route tables, banks 0 and 1 of 64 entries (Table 3-4). -/
def regsRoute : List RegDesc := [
  { base := 0x21009000, s1 := 0x100, n1 := 2, s2 := 4, n2 := 64, rw := 0xFF7F, reset := 0x36 }]

/-- Clocks and time (Tables 4-5, 4-6). -/
def regsClock : List RegDesc := [
  { base := 0x23000000, ro := 7 },
  { base := 0x23000004, rw := 0xFFFF, reset := 0xFFFF },
  { base := 0x23000008, ro := 0xFFFF, reset := 0xFFFF },
  { base := 0x23000010, s1 := 4, n1 := 2, ro := allBits },
  { base := 0x23000018, ro := allBits, reset := 0x80000000 },
  { base := 0x2300001C, ro := 0xF, reset := 2 },
  { base := 0x23000020, ro := 0xFFFF07FF, reset := 0x7FC },
  { base := 0x23000024, ro := allBits },
  { base := 0x23000028, rw := 3, reset := 2 },
  { base := 0x23000030, s1 := 4, n1 := 4, rw := allBits },
  { base := 0x23000040, ro := 2, rw := 1 },
  { base := 0x23000048, s1 := 4, n1 := 2, ro := allBits },
  { base := 0x23000050, s1 := 8, n1 := 4, ro := 0x80000000, rw := 0x3FFFF },
  { base := 0x23000054, s1 := 8, n1 := 4, rw := 0x1FFFFFF },
  { base := 0x23000080, w1c := 0x1FF },
  { base := 0x23000084, rwl := 0x1FF, reset := 0x1FF },
  { base := 0x23000090, s1 := 4, n1 := 2, rw := allBits }]

/-- Palettes of cores 0 to 7 (Tables 5-2, 5-5, 5-7, 5-8). -/
def regsPalette : List RegDesc := [
  { base := 0x10F00000, s1 := 0x1000000, n1 := 8, ro := allBits, reset := 0x300000 },
  { base := 0x10F00004, s1 := 0x1000000, n1 := 8, ro := allBits, reset := 0x600420 },
  { base := 0x10F00008, s1 := 0x1000000, n1 := 8, rw := 0xFFFF, reset := 0xFFFF },
  { base := 0x10F0000C, s1 := 0x1000000, n1 := 8, ro := 0xFFFF, reset := 0xFFFF },
  { base := 0x10F00010, s1 := 0x1000000, n1 := 8, ro := allBits },
  { base := 0x10F00014, s1 := 0x1000000, n1 := 8, w1c := 0x1FF },
  { base := 0x10F00018, s1 := 0x1000000, n1 := 8, ro := allBits },
  { base := 0x10F00020, s1 := 0x1000000, n1 := 8, s2 := 4, n2 := 8, ro := allBits },
  { base := 0x10F00100, s1 := 0x1000000, n1 := 8, s2 := 0x10, n2 := 8, rwl := 0x3FFFC0 },
  { base := 0x10F00104, s1 := 0x1000000, n1 := 8, s2 := 0x10, n2 := 8, rwl := 0x3FFFFF },
  { base := 0x10F00108, s1 := 0x1000000, n1 := 8, s2 := 0x10, n2 := 8, wo1 := 0x80000000, rwl := 0x7FF1FFF, reset := 0x700 },
  { base := 0x10F00200, s1 := 0x1000000, n1 := 8, s2 := 0x20, n2 := 16, rw := 0x3FFFFF },
  { base := 0x10F00204, s1 := 0x1000000, n1 := 8, s2 := 0x20, n2 := 16, rw := 0xFFF, reset := 0x10 },
  { base := 0x10F00208, s1 := 0x1000000, n1 := 8, s2 := 0x20, n2 := 16, ro := allBits },
  { base := 0x10F0020C, s1 := 0x1000000, n1 := 8, s2 := 0x20, n2 := 16, ro := allBits },
  { base := 0x10F00210, s1 := 0x1000000, n1 := 8, s2 := 0x20, n2 := 16, ro := allBits },
  { base := 0x10F00214, s1 := 0x1000000, n1 := 8, s2 := 0x20, n2 := 16, wo := allBits }]

/-- DMA engines of cores 0 to 7 (Table 6-5). -/
def regsDma : List RegDesc := [
  { base := 0x10F01000, s1 := 0x1000000, n1 := 8, s2 := 0x20, n2 := 8, wo := 1 },
  { base := 0x10F01004, s1 := 0x1000000, n1 := 8, s2 := 0x20, n2 := 6, ro := 0xFFFF007F },
  { base := 0x10F010C4, s1 := 0x1000000, n1 := 8, s2 := 0x20, n2 := 2, ro := 0xFFFF007F, reset := 0x40 },
  { base := 0x10F01008, s1 := 0x1000000, n1 := 8, s2 := 0x20, n2 := 8, ro := allBits },
  { base := 0x10F0100C, s1 := 0x1000000, n1 := 8, s2 := 0x20, n2 := 8, ro := allBits },
  { base := 0x10F01010, s1 := 0x1000000, n1 := 8, s2 := 0x20, n2 := 8, ro := allBits },
  { base := 0x10F01014, s1 := 0x1000000, n1 := 8, s2 := 0x20, n2 := 8, ro := allBits },
  { base := 0x10F01018, s1 := 0x1000000, n1 := 8, s2 := 0x20, n2 := 8, ro := allBits },
  { base := 0x10F01200, s1 := 0x1000000, n1 := 8, s2 := 0x80, n2 := 4, rw := allBits },
  { base := 0x10F01204, s1 := 0x1000000, n1 := 8, s2 := 0x80, n2 := 4, rw := allBits },
  { base := 0x10F01208, s1 := 0x1000000, n1 := 8, s2 := 0x80, n2 := 4, rw := 0x1FF, wo := 0x200, reset := 4 },
  { base := 0x10F0120C, s1 := 0x1000000, n1 := 8, s2 := 0x80, n2 := 4, ro := 0xFF03 },
  { base := 0x10F01240, s1 := 0x1000000, n1 := 8, s2 := 4, n2 := 16, rw := allBits },
  { base := 0x10F012C0, s1 := 0x1000000, n1 := 8, s2 := 4, n2 := 16, rw := allBits },
  { base := 0x10F01340, s1 := 0x1000000, n1 := 8, s2 := 4, n2 := 16, rw := allBits },
  { base := 0x10F013C0, s1 := 0x1000000, n1 := 8, s2 := 4, n2 := 16, rw := allBits },
  { base := 0x10F01400, s1 := 0x1000000, n1 := 8, w1c := 0x1FFFFF },
  { base := 0x10F01404, s1 := 0x1000000, n1 := 8, ro := 0xF0F },
  { base := 0x10F01408, s1 := 0x1000000, n1 := 8, ro := allBits, reset := 1 },
  { base := 0x10F0140C, s1 := 0x1000000, n1 := 8, ro := allBits }]

/-- Sequencers and tensor units of cores 0 to 7 (Table 7-9). -/
def regsSeq : List RegDesc := [
  { base := 0x10F02000, s1 := 0x1000000, n1 := 8, wo := 0xF },
  { base := 0x10F02004, s1 := 0x1000000, n1 := 8, ro := 0xFFFF0007 },
  { base := 0x10F02008, s1 := 0x1000000, n1 := 8, wo1 := 7, reset := 7 },
  { base := 0x10F0200C, s1 := 0x1000000, n1 := 8, rw := 0x3FFFFF },
  { base := 0x10F02010, s1 := 0x1000000, n1 := 8, rw := 0xFFFF },
  { base := 0x10F02014, s1 := 0x1000000, n1 := 8, rw := 0xFFFF },
  { base := 0x10F02018, s1 := 0x1000000, n1 := 8, rw := 0x3FFFFF },
  { base := 0x10F0201C, s1 := 0x1000000, n1 := 8, rw := 0xFFFF },
  { base := 0x10F02020, s1 := 0x1000000, n1 := 8, rw := 0xFFFF },
  { base := 0x10F02024, s1 := 0x1000000, n1 := 8, s2 := 4, n2 := 2, rw := allBits },
  { base := 0x10F0202C, s1 := 0x1000000, n1 := 8, rw := 1 },
  { base := 0x10F02030, s1 := 0x1000000, n1 := 8, s2 := 4, n2 := 8, ro := allBits },
  { base := 0x10F02050, s1 := 0x1000000, n1 := 8, ro := 0xFFFF07FF },
  { base := 0x10F02054, s1 := 0x1000000, n1 := 8, w1c := 0x1F },
  { base := 0x10F02058, s1 := 0x1000000, n1 := 8, s2 := 4, n2 := 2, ro := allBits },
  { base := 0x10F03000, s1 := 0x1000000, n1 := 8, ro := 0x7F },
  { base := 0x10F03004, s1 := 0x1000000, n1 := 8, ro := 0xFFFF00FF },
  { base := 0x10F03008, s1 := 0x1000000, n1 := 8, s2 := 4, n2 := 3, ro := allBits }]

/-- Special-function units of cores 0 to 7 (Table 9-5). -/
def regsSfu : List RegDesc := [
  { base := 0x10F04000, s1 := 0x1000000, n1 := 8, rw := 0x3FFFFF },
  { base := 0x10F04004, s1 := 0x1000000, n1 := 8, rw := 0xF, wo := 0x300 },
  { base := 0x10F04008, s1 := 0x1000000, n1 := 8, ro := 0xFFFFFFF7 },
  { base := 0x10F0400C, s1 := 0x1000000, n1 := 8, ro := 0xFFFF },
  { base := 0x10F04010, s1 := 0x1000000, n1 := 8, w1c := 0x7F },
  { base := 0x10F04014, s1 := 0x1000000, n1 := 8, ro := 0xFFFF1FFF },
  { base := 0x10F04018, s1 := 0x1000000, n1 := 8, ro := allBits },
  { base := 0x10F0401C, s1 := 0x1000000, n1 := 8, ro := 0x1F },
  { base := 0x10F04100, s1 := 0x1000000, n1 := 8, s2 := 0x20, n2 := 16, ro := 0x7FFFFF },
  { base := 0x10F04104, s1 := 0x1000000, n1 := 8, s2 := 0x20, n2 := 16, rw := allBits, reset := 0xFF800000 },
  { base := 0x10F04108, s1 := 0x1000000, n1 := 8, s2 := 0x20, n2 := 16, rw := allBits, reset := 0x7F800000 },
  { base := 0x10F0410C, s1 := 0x1000000, n1 := 8, s2 := 0x20, n2 := 16, ro := allBits },
  { base := 0x10F04110, s1 := 0x1000000, n1 := 8, s2 := 0x20, n2 := 16, ro := allBits },
  { base := 0x10F04400, s1 := 0x1000000, n1 := 8, s2 := 0x20, n2 := 32, ro := allBits, reset := 0xFF800000 },
  { base := 0x10F04404, s1 := 0x1000000, n1 := 8, s2 := 0x20, n2 := 32, ro := allBits },
  { base := 0x10F04408, s1 := 0x1000000, n1 := 8, s2 := 0x20, n2 := 32, ro := allBits },
  { base := 0x10F0440C, s1 := 0x1000000, n1 := 8, s2 := 0x20, n2 := 32, ro := allBits },
  { base := 0x10F04410, s1 := 0x1000000, n1 := 8, s2 := 0x20, n2 := 32, ro := allBits },
  { base := 0x10F04414, s1 := 0x1000000, n1 := 8, s2 := 0x20, n2 := 32, ro := allBits },
  { base := 0x10F04418, s1 := 0x1000000, n1 := 8, s2 := 0x20, n2 := 32, ro := 1 }]

/-- Thread groups of cores 0 to 7 (Table 10-6). -/
def regsTg : List RegDesc := [
  { base := 0x10F05000, s1 := 0x1000000, n1 := 8, ro := 0xFFFFFF },
  { base := 0x10F05004, s1 := 0x1000000, n1 := 8, ro := 0x3FFFF },
  { base := 0x10F05008, s1 := 0x1000000, n1 := 8, ro := 0x3FFFFF },
  { base := 0x10F0500C, s1 := 0x1000000, n1 := 8, ro := 0xFFFF03FF },
  { base := 0x10F05010, s1 := 0x1000000, n1 := 8, w1c := 0xF },
  { base := 0x10F05014, s1 := 0x1000000, n1 := 8, s2 := 4, n2 := 5, ro := allBits }]

/-- Camera ingress, pipelines 0 to 3 (Tables 12-4, 12-5, 12-7). -/
def regsCam : List RegDesc := [
  { base := 0x20000000, s1 := 0x1000, n1 := 4, rw := 0xFFF0007, w1c := 0x80000000, reset := 4 },
  { base := 0x20000004, s1 := 0x1000, n1 := 4, rw := 0x1FFF, reset := 0xE4 },
  { base := 0x20000008, s1 := 0x1000, n1 := 4, rw := 0x7FFF, reset := 0x2C0 },
  { base := 0x2000000C, s1 := 0x1000, n1 := 4, rw := 0x1FFF1FFF },
  { base := 0x20000010, s1 := 0x1000, n1 := 4, rw := 0xFF07FF, reset := 0x40000 },
  { base := 0x20000014, s1 := 0x1000, n1 := 4, rw := allBits },
  { base := 0x20000018, s1 := 0x1000, n1 := 4, wo1 := 7, reset := 7 },
  { base := 0x2000001C, s1 := 0x1000, n1 := 4, ro := 0xF },
  { base := 0x20000020, s1 := 0x1000, n1 := 4, w1c := 0x1FFF },
  { base := 0x20000040, s1 := 0x1000, n1 := 4, s2 := 4, n2 := 12, ro := allBits },
  { base := 0x20000080, s1 := 0x1000, n1 := 4, rw := 3 },
  { base := 0x20000084, s1 := 0x1000, n1 := 4, rw := allBits, reset := 0x3E80064 },
  { base := 0x20000088, s1 := 0x1000, n1 := 4, s2 := 4, n2 := 3, rw := allBits },
  { base := 0x20000094, s1 := 0x1000, n1 := 4, wo := 3 },
  { base := 0x20000098, s1 := 0x1000, n1 := 4, ro := 0xFFFF000F },
  { base := 0x200000A0, s1 := 0x1000, n1 := 4, s2 := 4, n2 := 8, rw := 0x7FFF },
  { base := 0x20000100, s1 := 0x1000, n1 := 4, s2 := 4, n2 := 7, ro := allBits },
  { base := 0x20000800, s1 := 0x1000, n1 := 4, s2 := 8, n2 := 256, rw := 0xFFFF3FFF },
  { base := 0x20000804, s1 := 0x1000, n1 := 4, s2 := 8, n2 := 256, rw := allBits }]

/-- Ground stages 0 to 3 and their parameter-set registers (Tables 13-7, 14-6). -/
def regsGround : List RegDesc := [
  { base := 0x20100000, s1 := 0x10000, n1 := 4, rw := 0xFFF0FFF, reset := 0x80 },
  { base := 0x20100004, s1 := 0x10000, n1 := 4, rw := 0xFF1FFF },
  { base := 0x20100008, s1 := 0x10000, n1 := 4, rw := 0xFFFF },
  { base := 0x20100010, s1 := 0x10000, n1 := 4, rw := allBits },
  { base := 0x20100014, s1 := 0x10000, n1 := 4, rw := 0x73F },
  { base := 0x20100018, s1 := 0x10000, n1 := 4, rw := 0x3F3, reset := 0x81 },
  { base := 0x2010001C, s1 := 0x10000, n1 := 4, rw := 0x3FFFFF },
  { base := 0x20100040, s1 := 0x10000, n1 := 4, s2 := 0x20, n2 := 4, rw := 0xFFFF01 },
  { base := 0x20100044, s1 := 0x10000, n1 := 4, s2 := 0x20, n2 := 4, rw := 0xF1F0F1F },
  { base := 0x20100048, s1 := 0x10000, n1 := 4, s2 := 0x20, n2 := 4, rw := allBits },
  { base := 0x2010004C, s1 := 0x10000, n1 := 4, s2 := 0x20, n2 := 4, rw := allBits },
  { base := 0x20100050, s1 := 0x10000, n1 := 4, s2 := 0x20, n2 := 4, rw := allBits },
  { base := 0x20100054, s1 := 0x10000, n1 := 4, s2 := 0x20, n2 := 4, rw := allBits },
  { base := 0x20100058, s1 := 0x10000, n1 := 4, s2 := 0x20, n2 := 4, rw := 0xFFF, reset := 1 },
  { base := 0x2010005C, s1 := 0x10000, n1 := 4, s2 := 0x20, n2 := 4, ro := 0x8000FFFF },
  { base := 0x201000C0, s1 := 0x10000, n1 := 4, w1c := 0x3F },
  { base := 0x201000C4, s1 := 0x10000, n1 := 4, ro := 0xF0F },
  { base := 0x201000C8, s1 := 0x10000, n1 := 4, s2 := 4, n2 := 5, ro := allBits },
  { base := 0x201000E0, s1 := 0x10000, n1 := 4, s2 := 4, n2 := 2, ro := allBits },
  { base := 0x201000E8, s1 := 0x10000, n1 := 4, ro := 1 },
  { base := 0x201000EC, s1 := 0x10000, n1 := 4, rw := 0xFFFF },
  { base := 0x20100100, s1 := 0x10000, n1 := 4, s2 := 4, n2 := 2, rw := allBits },
  { base := 0x20100108, s1 := 0x10000, n1 := 4, rw := 0xFFFF0000, wo := 3 },
  { base := 0x2010010C, s1 := 0x10000, n1 := 4, ro := 0xFFFF0003 },
  { base := 0x20100110, s1 := 0x10000, n1 := 4, s2 := 4, n2 := 3, ro := allBits },
  { base := 0x20101000, s1 := 0x10000, n1 := 4, s2 := 4, n2 := 256, ro := allBits },
  { base := 0x20102000, s1 := 0x10000, n1 := 4, s2 := 4, n2 := 64, rw := allBits },
  { base := 0x20104000, s1 := 0x10000, n1 := 4, s2 := 4, n2 := 2178, rw := allBits },
  { base := 0x20108000, s1 := 0x10000, n1 := 4, s2 := 4, n2 := 4096, rw := allBits }]

/-- The output formatter's feeds 0 to 7 and the CSI-2 transmitter (Tables 14-4, 14-6). -/
def regsOut : List RegDesc := [
  { base := 0x20201000, s1 := 0x800, n1 := 8, rw := 0xFFFFFFF },
  { base := 0x20201004, s1 := 0x800, n1 := 8, rw := 0x1F },
  { base := 0x20201008, s1 := 0x800, n1 := 8, rw := 0x3FFFFF },
  { base := 0x20201010, s1 := 0x800, n1 := 8, s2 := 4, n2 := 8, rw := allBits },
  { base := 0x20201030, s1 := 0x800, n1 := 8, rw := 0x7FFFFFF },
  { base := 0x20201034, s1 := 0x800, n1 := 8, ro := 3 },
  { base := 0x20201038, s1 := 0x800, n1 := 8, s2 := 4, n2 := 2, ro := allBits },
  { base := 0x20201040, s1 := 0x800, n1 := 8, w1c := 0x3FF },
  { base := 0x20201044, s1 := 0x800, n1 := 8, ro := 0xF },
  { base := 0x20201048, s1 := 0x800, n1 := 8, s2 := 4, n2 := 6, ro := allBits },
  { base := 0x20201080, s1 := 0x800, n1 := 8, s2 := 4, n2 := 20, rw := allBits },
  { base := 0x202010D0, s1 := 0x800, n1 := 8, rw := allBits, reset := 0x3F800000 },
  { base := 0x202010D4, s1 := 0x800, n1 := 8, rw := 0xF },
  { base := 0x202010D8, s1 := 0x800, n1 := 8, rw := 0xFFFFFF },
  { base := 0x202010E0, s1 := 0x800, n1 := 8, s2 := 4, n2 := 2, rw := allBits },
  { base := 0x202010E8, s1 := 0x800, n1 := 8, rw := 0xFFFF0000, wo := 3 },
  { base := 0x202010EC, s1 := 0x800, n1 := 8, ro := 0xFFFF0003 },
  { base := 0x202010F0, s1 := 0x800, n1 := 8, s2 := 4, n2 := 3, ro := allBits },
  { base := 0x20201100, s1 := 0x800, n1 := 8, s2 := 0x40, n2 := 2, rw := 0x7FFFFFFF },
  { base := 0x20201104, s1 := 0x800, n1 := 8, s2 := 0x40, n2 := 2, rw := allBits },
  { base := 0x20201108, s1 := 0x800, n1 := 8, s2 := 0x40, n2 := 2, rw := allBits },
  { base := 0x2020110C, s1 := 0x800, n1 := 8, s2 := 0x40, n2 := 2, rw := allBits },
  { base := 0x20201110, s1 := 0x800, n1 := 8, s2 := 0x40, n2 := 2, rw := 0xFFFF },
  { base := 0x20201114, s1 := 0x800, n1 := 8, s2 := 0x40, n2 := 2, rw := allBits },
  { base := 0x20201118, s1 := 0x800, n1 := 8, s2 := 0x40, n2 := 2, rw := 0x3FFF, reset := 1500 },
  { base := 0x2020111C, s1 := 0x800, n1 := 8, rw := 0xFFFFFFF },
  { base := 0x20201200, s1 := 0x800, n1 := 8, s2 := 0x80, n2 := 4, rw := 1 },
  { base := 0x20201204, s1 := 0x800, n1 := 8, s2 := 0x80, n2 := 4, rw := 0x1FFF1FFF },
  { base := 0x20201208, s1 := 0x800, n1 := 8, s2 := 0x80, n2 := 4, rw := 0x1FFF1FFF },
  { base := 0x2020120C, s1 := 0x800, n1 := 8, s2 := 0x80, n2 := 4, rw := allBits },
  { base := 0x20201210, s1 := 0x800, n1 := 8, s2 := 0x80, n2 := 4, rw := allBits },
  { base := 0x20201214, s1 := 0x800, n1 := 8, s2 := 0x80, n2 := 4, rw := 0x3FFFFF },
  { base := 0x20201218, s1 := 0x800, n1 := 8, s2 := 0x80, n2 := 4, rw := 0xFFFF },
  { base := 0x2020121C, s1 := 0x800, n1 := 8, s2 := 0x80, n2 := 4, rw := allBits },
  { base := 0x20201220, s1 := 0x800, n1 := 8, s2 := 0x80, n2 := 4, rw := allBits },
  { base := 0x20201224, s1 := 0x800, n1 := 8, s2 := 0x80, n2 := 4, rw := 3, reset := 3 },
  { base := 0x20201228, s1 := 0x800, n1 := 8, s2 := 0x80, n2 := 4, rw := allBits },
  { base := 0x2020122C, s1 := 0x800, n1 := 8, s2 := 0x80, n2 := 4, rw := 0x1FFF1FFF },
  { base := 0x20201230, s1 := 0x800, n1 := 8, s2 := 0x80, n2 := 4, ro := allBits },
  { base := 0x20201240, s1 := 0x800, n1 := 8, s2 := 4, n2 := 16, rw := allBits },
  { base := 0x202012C0, s1 := 0x800, n1 := 8, s2 := 4, n2 := 16, rw := allBits },
  { base := 0x20201340, s1 := 0x800, n1 := 8, s2 := 4, n2 := 16, rw := allBits },
  { base := 0x202013C0, s1 := 0x800, n1 := 8, s2 := 4, n2 := 16, rw := allBits },
  { base := 0x20201400, s1 := 0x800, n1 := 8, rw := 0x7FFF },
  { base := 0x20201404, s1 := 0x800, n1 := 8, rw := 0x1FFF1FFF },
  { base := 0x20201408, s1 := 0x800, n1 := 8, rw := 0x3FFFFF },
  { base := 0x20201410, s1 := 0x800, n1 := 8, rw := 0xF1F0F1F },
  { base := 0x20201414, s1 := 0x800, n1 := 8, s2 := 4, n2 := 4, rw := allBits },
  { base := 0x20201424, s1 := 0x800, n1 := 8, rw := 0xFFF, reset := 1 },
  { base := 0x20201428, s1 := 0x800, n1 := 8, ro := 0x8000FFFF },
  { base := 0x20300000, rw := 0x1F },
  { base := 0x20300004, rw := 0xFF },
  { base := 0x20300008, rw := allBits },
  { base := 0x2030000C, ro := allBits }]

/-- Ethernet ports E0 and E1 and the MDIO controller (Tables 25-6, 25-7). -/
def regsEth : List RegDesc := [
  { base := 0x22000000, s1 := 0x1000, n1 := 2, rw := 0x3FFF000F, w1c := 0x80000000, reset := 0x5DC0000 },
  { base := 0x22000004, s1 := 0x1000, n1 := 2, ro := 7 },
  { base := 0x22000008, s1 := 0x1000, n1 := 2, rw := allBits },
  { base := 0x2200000C, s1 := 0x1000, n1 := 2, rw := 0xFFFF },
  { base := 0x22000010, s1 := 0x1000, n1 := 2, s2 := 4, n2 := 3, rw := allBits },
  { base := 0x2200001C, s1 := 0x1000, n1 := 2, rw := 0x7FFF },
  { base := 0x22000020, s1 := 0x1000, n1 := 2, w1c := 7 },
  { base := 0x22000040, s1 := 0x1000, n1 := 2, s2 := 4, n2 := 6, ro := allBits },
  { base := 0x22000080, s1 := 0x1000, n1 := 2, s2 := 4, n2 := 5, ro := allBits },
  { base := 0x22002000, rw := 0x1FFF, wo := 0x80000000 },
  { base := 0x22002004, ro := 0x10000, rw := 0xFFFF }]

/-- Calibration (Table 23-6). The fuse values and the boot choice stand at 0 (log entry 8). -/
def regsCal : List RegDesc := [
  { base := 0x23001000, rw := 0x1F02, wo := 1, reset := 0x802 },
  { base := 0x23001004, ro := 0xFF07 },
  { base := 0x23001008, w1c := 7 },
  { base := 0x2300100C, s1 := 4, n1 := 2, ro := allBits },
  { base := 0x23001020, s1 := 4, n1 := 8, ro := 0xFFFF },
  { base := 0x23001100, rw := 0x3F },
  { base := 0x23001104, rw := 7 },
  { base := 0x23001108, ro := 0xFF },
  { base := 0x23001140, s1 := 0x20, n1 := 4, s2 := 4, n2 := 4, rw := 0x1F3F },
  { base := 0x23001150, s1 := 0x20, n1 := 4, rw := 0x3F },
  { base := 0x23001200, s1 := 0x10, n1 := 6, s2 := 4, n2 := 2, rw := 0x1F0F1F },
  { base := 0x23001260, s1 := 4, n1 := 6, ro := 0xFFF0FFF },
  { base := 0x23001280, s1 := 4, n1 := 2, rw := 0xFFF0FFF }]

/-- Power (Table 24-7). -/
def regsPower : List RegDesc := [
  { base := 0x23002000, ro := 0xFFFF07 },
  { base := 0x23002004, ro := 0xFFFFFF },
  { base := 0x23002008, ro := allBits, reset := 1 },
  { base := 0x2300200C, ro := 1 },
  { base := 0x23002010, wo := 0xFF },
  { base := 0x23002014, ro := 0xFF },
  { base := 0x23002018, ro := 3 },
  { base := 0x23002020, ro := 0xFFFF },
  { base := 0x23002024, rw := 0xFFFFFF, reset := 0x732710 },
  { base := 0x23002028, ro := 0x307 },
  { base := 0x2300202C, w1c := 0xF },
  { base := 0x23002030, ro := allBits }]

/-- Safety monitors, control complex and heartbeats (Tables 21-7, 16-3, 20-4). -/
def regsSafety : List RegDesc := [
  { base := 0x24000000, w1c := 0x7FFFFF },
  { base := 0x24000004, ro := 0xFF01 },
  { base := 0x24000010, wo := 2, rwl := 0xFFFF0001 },
  { base := 0x24000014, wo := 0xFFFF },
  { base := 0x24000018, ro := 0xF },
  { base := 0x24000020, wo := 0xFFFF },
  { base := 0x24000024, ro := 0xFFFFFF },
  { base := 0x24000030, rwl := 0x3FF, reset := 0x3FF },
  { base := 0x24000040, s1 := 4, n1 := 7, ro := 0x8000FFFF },
  { base := 0x24000060, s1 := 4, n1 := 8, ro := 0x8000FFFF },
  { base := 0x24000080, s1 := 4, n1 := 8, ro := 0x30F0F },
  { base := 0x240000A0, wo1 := 1 },
  { base := 0x240000A4, ro := allBits },
  { base := 0x24001000, ro := allBits },
  { base := 0x24001004, ro := 0x1FFFFFF, w1c := 0x80000000 },
  { base := 0x24001008, ro := 1 },
  { base := 0x2400100C, ro := allBits },
  { base := 0x24001010, wo1 := 1 },
  { base := 0x24001014, rw := 0x13F },
  { base := 0x24002000, rwl := 1, reset := 1 },
  { base := 0x24002004, s1 := 4, n1 := 4, rw := allBits },
  { base := 0x24002014, w1c := 0x3F },
  { base := 0x24002020, s1 := 0x20, n1 := 6, ro := 0x3FF07 },
  { base := 0x24002024, s1 := 0x20, n1 := 6, s2 := 4, n2 := 4, ro := allBits }]

/-- Security (Table 22-13). The lifecycle fuses stand at 0, MANUFACTURE (log entry 8). -/
def regsSecurity : List RegDesc := [
  { base := 0x25000000, ro := 3 },
  { base := 0x25000004, ro := 7 },
  { base := 0x25000008, w1c := 3 },
  { base := 0x25000010, ro := 1 },
  { base := 0x25000014, s1 := 4, n1 := 2, ro := allBits },
  { base := 0x2500001C, ro := 0x3F07 },
  { base := 0x25000020, ro := allBits },
  { base := 0x25000030, rw := 0x77777777, reset := 0x77777777 },
  { base := 0x25000100, s1 := 0x40, n1 := 8, s2 := 4, n2 := 12, ro := allBits },
  { base := 0x25000300, s1 := 4, n1 := 12, rw := allBits },
  { base := 0x25000330, ro := 0x400, rw := 7, wo := 0x100, wo1 := 0x200 },
  { base := 0x25000400, s1 := 0x40, n1 := 4, wo1 := 7 },
  { base := 0x25000404, s1 := 0x40, n1 := 4, s2 := 4, n2 := 2, wo1 := allBits },
  { base := 0x25000410, s1 := 0x40, n1 := 4, s2 := 4, n2 := 8, wo1 := allBits }]

/-- Mailboxes (Table 17-15). -/
def regsMailbox : List RegDesc := [
  { base := 0x26000000, s1 := 0x100, n1 := 4, wo := 0xFF00FF },
  { base := 0x26000004, s1 := 0x100, n1 := 4, ro := 0xFF00FF },
  { base := 0x26000008, s1 := 0x100, n1 := 4, w1c := 0xFF00FF },
  { base := 0x2600000C, s1 := 0x100, n1 := 4, rw := 3 },
  { base := 0x26000010, s1 := 0x100, n1 := 4, s2 := 4, n2 := 6, ro := allBits },
  { base := 0x26000400, ro := allBits }]

/-- Peripherals (Tables 25-9, 25-10). The straps of PER_STRAP stand in the state. -/
def regsPeri : List RegDesc := [
  { base := 0x27000000, rw := 0xFFFF, reset := 0x302 },
  { base := 0x27000004, rw := 0x7FFFF, wo := 0x80000000 },
  { base := 0x27000008, rw := allBits },
  { base := 0x2700000C, ro := 1, w1c := 2 },
  { base := 0x27000100, s1 := 4, n1 := 64, rw := allBits },
  { base := 0x27001000, rw := 7 },
  { base := 0x27001004, rw := 0x7FFF, wo := 0x80000000 },
  { base := 0x27001008, ro := 1, w1c := 0xE },
  { base := 0x27001020, s1 := 4, n1 := 8, rw := allBits },
  { base := 0x27002000, s1 := 0x100, n1 := 2, rw := 0xFFFFF, reset := 0x360 },
  { base := 0x27002004, s1 := 0x100, n1 := 2, wo := 0xFF },
  { base := 0x27002008, s1 := 0x100, n1 := 2, ro := 0x1FF },
  { base := 0x2700200C, s1 := 0x100, n1 := 2, ro := 0x7F7F, w1c := 0xF0000 },
  { base := 0x27003000, s1 := 4, n1 := 2, rw := 0xFFFF },
  { base := 0x27003008, ro := 0xFFFF },
  { base := 0x2700300C, rw := allBits },
  { base := 0x27003010, w1c := allBits },
  { base := 0x27004000, ro := 0xFF },
  { base := 0x27004004, w1c := 0xFFFF },
  { base := 0x2700F000, ro := 0xFFFFFF, reset := 0xA17240 },
  { base := 0x2700F004, ro := 0x1FF }]

/-- The register blocks of Table 25-3 with the first and last address of the window that holds each (Table 25-1). -/
def regBlocks : List (Nat × Nat × List RegDesc) := [
  (0x20000000, 0x20003FFF, regsCam), (0x20100000, 0x2013FFFF, regsGround), (0x20200000, 0x20300FFF, regsOut),
  (0x21000000, 0x21005FFF, regsLink), (0x21008000, 0x21008FFF, regsFabric), (0x21009000, 0x21009FFF, regsRoute),
  (0x22000000, 0x22002FFF, regsEth), (0x23000000, 0x23000FFF, regsClock), (0x23001000, 0x23001FFF, regsCal),
  (0x23002000, 0x23002FFF, regsPower), (0x24000000, 0x24002FFF, regsSafety), (0x25000000, 0x25000FFF, regsSecurity),
  (0x26000000, 0x26000FFF, regsMailbox), (0x27000000, 0x2700FFFF, regsPeri)]

/-- The register blocks of a core window by their offset (Table 25-2). -/
def coreRegBlocks : List (Nat × List RegDesc) := [
  (0xF00000, regsPalette), (0xF01000, regsDma), (0xF02000, regsSeq), (0xF03000, regsSeq), (0xF04000, regsSfu),
  (0xF05000, regsTg)]

/-- Whether `a` is an instance of a descriptor: some `i < n1` and `j < n2` with `a = base + s1 * i + s2 * j`. The second
index runs fastest, and `s2 * n2` never passes `s1` where both are used. -/
def regMatches (a : Nat) (r : RegDesc) : Bool :=
  if a < r.base then false
  else
    let o := a - r.base
    let i := if r.s1 = 0 then 0 else min (o / r.s1) (r.n1 - 1)
    let p := o - r.s1 * i
    let j := if r.s2 = 0 then 0 else min (p / r.s2) (r.n2 - 1)
    p == r.s2 * j

/-- The descriptor list in whose window an address lies. -/
def regBlockOf (a : Nat) : List RegDesc :=
  if 0x10000000 ≤ a ∧ a < 0x18000000 then
    ((coreRegBlocks.find? (fun b => b.1 == (a % 0x1000000) / 0x1000 * 0x1000)).map (fun b => b.2)).getD []
  else ((regBlocks.find? (fun b => b.1 ≤ a && a ≤ b.2.1)).map (fun b => b.2.2)).getD []

/-- The register at an address, if any (R11: no register means a reserved address). -/
def regFind (a : Nat) : Option RegDesc := (regBlockOf a).find? (regMatches a)

/-- The value a register takes at a power-on reset (R12), zero at a reserved address. -/
def regReset (a : Nat) : Word := BitVec.ofNat 32 (((regFind a).map (fun r => r.reset)).getD 0)

end Sys2Proof.Machine
end

