-- ==== Sys2Proof/Machine/TimeState.lean ====
section
/-! DEFINITION. TimeState: constellation time, the servo, FSYNC and vehicle time beside their registers (04). -/

namespace Sys2Proof.Machine

/-- One FSYNC output: the configuration in force, and the pulse in progress (R136 to R138). -/
structure Fsync where
  cfg : Nat := 0
  ofs : Nat := 0
  err : Bool := false
  /-- Pin level. -/
  pin : Bool := false
  /-- The pulse's start CT in ns. -/
  pulse : Option Nat := none
  /-- The pulse's width in us. -/
  width : Nat := 0
  /-- Next edge number j. -/
  edge : Nat := 0
  deriving DecidableEq, Repr

/-- A PTP master known from its Announce messages: the data set compared and when last heard (R139). -/
structure Master where
  dataset : List Nat := []
  port : Nat := 0
  id : List Byte := []
  interval : Nat := 0
  heard : Nat := 0
  deriving DecidableEq, Repr

/-- IEEE 1588 state of the pole (R139 to R142). Times are ns. -/
structure Ptp where
  masters : List Master := []
  /-- Sync that waits for its Follow_Up: sequence ID and arrival. -/
  sync : Option (Nat × Nat) := none
  /-- Origin and arrival of the last complete Sync. -/
  t1 : Int := 0
  t2 : Int := 0
  /-- Delay_Req in flight: sequence ID and departure. -/
  delayReq : Option (Nat × Nat) := none
  delaySeq : Nat := 0
  meanDelay : Option Int := none
  /-- VT = PTP time - CT in ns, the last one measured (R140). -/
  vt : Int := 0
  lastSync : Option Nat := none
  locked : Bool := false
  /-- When the steering of the pole's INC last changed. -/
  steerAt : Nat := 0
  /-- PTP_CONFIG (R521): enabled, port, domain, VLAN. -/
  enabled : Bool := false
  port : Nat := 0
  domain : Nat := 0
  deriving DecidableEq, Repr

/-- Constellation time and what hangs on it. `ct` counts 2^-32 ns (R122). -/
structure TimeState where
  ct : Nat := 0
  /-- FREQ in 1/128 ppm (R130). -/
  freq : Int := 0
  /-- CT_HI latched by a read of CT_LO (R123). -/
  ctHi : Nat := 0
  /-- The base and rate in force; the registers hold staged values until the next boundary (R719). -/
  baseCt : Nat := 0
  baseN : Nat := 0
  rate25 : Bool := false
  /-- Last epoch boundary taken. -/
  epoch : Nat := 0
  epochOn : Bool := false
  /-- CT in ns of the last boundary taken. -/
  boundaryAt : Nat := 0
  /-- T_F in ns once FORMATION is known (R125). -/
  formAt : Option Nat := none
  /-- Least RT history, newest first, at most 16 (R129). -/
  rts : List Int := []
  good : Nat := 0
  far : Nat := 0
  lastSample : Nat := 0
  /-- A sample was accepted since the last parent choice. -/
  sampled : Bool := false
  choiceMs : Option Nat := none
  fsync : Table Fsync := []
  vtValid : Bool := false
  vtEpoch : Option Nat := none
  vtSentEpoch : Option Nat := none
  ptp : Ptp := {}
  /-- RATE_CHANGE staged: boundary B and the new rate. -/
  rateAt : Option (Nat × Bool) := none
  /-- Gate closings requested and not yet done are the bits where GATE and GATE_STAT differ. -/
  xtalLost : Bool := false
  rootLost : Bool := false
  /-- A clock loss, lockstep mismatch or class A reaction waits for its reset: when, with its origin (R144, R472, R617). -/
  resetDue : Option (Nat × Nat) := none
  deriving DecidableEq, Repr

end Sys2Proof.Machine
end

