-- ==== Sys2Proof/Machine/VideoState.lean ====
section
/-! DEFINITION. VideoState: camera pipelines, ground stages, stripe rings, feeds and parameter sets beside their registers
(12, 13, 14). Times are constellation time in ns. -/

namespace Sys2Proof.Machine

/-- A settings set in the queue: the descriptor that COMMIT copied (R368). -/
structure SetDesc where
  first : Nat
  count : Nat
  id : Nat
  tgt : Nat
  deriving DecidableEq, Repr

/-- The set being written: next entry, one NACK seen, the frame whose blanking it is and that blanking's close; none while
EN = 0 (R369, R370). -/
structure SetRun where
  desc : SetDesc
  at_ : Nat := 0
  retried : Bool := false
  win : Option (Nat × Nat) := none
  deriving DecidableEq, Repr

/-- The open frame (R356, R360 to R366). `sig` is the CRC state, `void` the cause once it is void while open. -/
structure CamFrame where
  id : Nat
  /-- Records latched before it (F of R396). -/
  count : Nat := 0
  fsT : Nat
  rows : Nat := 0
  bad : Nat := 0
  badRows : List Nat := []
  sig : Word := 0xFFFFFFFF#32
  void : Option Nat := none
  drop : Bool := false
  /-- CT of its FSYNC edge with SYNCED = 1 (R360). -/
  edge : Option Nat := none
  deriving DecidableEq, Repr

/-- A row after steps 2 and 3 of the ground stage, with its counts of static, dynamic and impossible replacements (R387 to R390). -/
structure CorrRow where
  out : List Int := []
  shaded : List Int := []
  st : Nat := 0
  dy : Nat := 0
  none_ : Nat := 0
  deriving DecidableEq, Repr

/-- What a stripe header carries of its frame: ID, FS time, tag, gain step, MOS, frame count, bad rows, and whether the frame
is void (Table 13-3). -/
structure StripeInfo where
  id : Nat
  fsT : Nat
  tag : Nat
  gstep : Nat
  mos : Nat
  count : Nat
  badRows : List Nat
  void : Bool
  deriving DecidableEq, Repr

/-- The obscuration diagnostic of a camera (R394). Baselines are in 1/256 of a sum. -/
structure Obscure where
  /-- Frames taken into the baselines while LEARNING, and how many are wanted. -/
  learnt : Nat := 0
  learn : Nat := 64
  /-- Baselines of E1 and E2 by zone, in units of 1/256; while LEARNING, the sums of the frames taken. -/
  b1 : List Nat := []
  b2 : List Nat := []
  /-- 0 clear, 1 learning, 2 soiled, 3 blinded. -/
  st : Nat := 1
  /-- Consecutive deciding frames, and consecutive clearing frames. -/
  bad : Nat := 0
  good : Nat := 0
  /-- Dull zones of the last non-void frame. -/
  dull : Nat := 0
  /-- The thresholds of Table 17-26. -/
  divDull : Nat := 4
  divLow : Nat := 4
  zonesOn : Nat := 16
  zonesOff : Nat := 8
  frames30 : Nat := 15
  frames25 : Nat := 12
  /-- A non-void frame's sums wait to be evaluated. -/
  fresh : Bool := false
  deriving DecidableEq, Repr

/-- A camera pipeline with its ground stage. -/
structure CamPipe where
  cur : Option CamFrame := none
  /-- Packets are discarded up to the next FS. -/
  skip : Bool := true
  /-- Edges of the FSYNC output that have neither a frame nor a record yet: ID and CT, each as it stood when its epoch began (R360, R361,
  R375). -/
  edges : List (Nat × Nat) := []
  /-- CT of the edge in whose window the newest frame opened (R360). -/
  lastEdge : Option Nat := none
  /-- Frames void with cause 1 while another frame was open, whose ring entries follow that frame's: what they carry, FLAGS and SIG
  (R399, R401). -/
  late : List (StripeInfo × Nat × Nat) := []
  /-- Frames opened since EN with SYNCED = 0 (R362), and records latched since EN (R396). -/
  count : Nat := 0
  latched : Nat := 0
  /-- The last eight void frames, newest first (R543). -/
  voids : List Nat := []
  /-- The last four delivered lines, newest first (R357). -/
  lines : List (List Nat) := []
  emb : List Byte := []
  lastSig : Option Nat := none
  lastNum : Nat := 0
  /-- The newest frame record: words 0 to 6 of Table 12-4; the registers show the last snapshot (R364). -/
  record : List Nat := [0, 0, 0, 0, 0, 0, 0]
  queue : List SetDesc := []
  run : Option SetRun := none
  /-- The open blanking window: its frame and its close (R369). -/
  blank : Option (Nat × Nat) := none
  /-- Sets in order of writing, newest first: effective frame, ID; none is a failure (R369, R370). -/
  marks : List (Nat × Option Nat) := []
  /-- Expected value of each embedded field, and the retained images, newest first (R371). -/
  image : List (Option Nat) := [none, none, none, none, none, none, none, none]
  images : List (Nat × List (Option Nat)) := []
  /-- The active ground set: words by register offset; unlisted as the shadow resets (R407). -/
  active : Table Word := []
  /-- The last four rows of the frame as corrected, newest first (R387, R409). -/
  corr : List CorrRow := []
  /-- Zone sums E1 and E2 of the open frame, under 2 * z and 2 * z + 1 (R391). -/
  zones : Table Nat := []
  obs : Obscure := {}
  deriving DecidableEq, Repr

/-- A row that waits in the output buffer, or a dropped row's place (R396 to R398): bytes of ROW_STRIDE already written or
consumed. -/
structure RingRow where
  frame : Nat
  y : Nat
  data : List Byte
  dropped : Bool
  done : Nat := 0
  deriving DecidableEq, Repr

/-- An entry that waits for the header ring (R399): frame count, entry number, last row it waits for, its words. -/
structure RingHead where
  frame : Nat
  entry : Nat
  last : Nat
  words : List Nat
  deriving DecidableEq, Repr

/-- A destination's writer: ground destination 4 * p + d, or 16 + f for the vision output of feed f (R396 to R402, R423). -/
structure RingDest where
  rows : List RingRow := []
  heads : List RingHead := []
  /-- Data credit pending and units of the frame not yet requested; header credit held and pending. -/
  pend : Nat := 0
  remain : Nat := 0
  heldH : Nat := 0
  pendH : Nat := 0
  /-- Epoch boundaries passed while waiting for a grant. -/
  waited : Nat := 0
  failed : Bool := false
  /-- Rows dropped in the open frame; frame counts with a void stripe sent. -/
  lost : List Nat := []
  voidSent : List Nat := []
  /-- Next stripe of the open frame whose header is not yet queued. -/
  stripe : Nat := 0
  deriving DecidableEq, Repr

/-- A shadowed parameter set: 0 to 3 ground set of a pipeline, 4 + f feed set (R430). -/
structure ParamSet where
  tgt : Nat := 0
  id : Nat := 0
  checked : Option Bool := none
  /-- The boundary that found the set armed and checked: its frame. -/
  due : Option Nat := none
  deriving DecidableEq, Repr

/-- A glaze layer latched for the frame in progress (R425 to R427). -/
structure LayerRun where
  buf : Nat := 3
  shown : Bool := false
  /-- First display row from which it is dropped. -/
  dropFrom : Option Nat := none
  /-- Bytes that have landed: row, offset, bytes; bytes requested. -/
  chunks : List (Nat × Nat × List Byte) := []
  asked : Nat := 0
  deriving DecidableEq, Repr

/-- A display or coding stream (R420, R421). -/
structure StreamRun where
  seq : Nat := 0
  /-- Next line pair and next packet of the pair. -/
  pair : Nat := 0
  part : Nat := 0
  held : Option (List Byte) := none
  drop : Bool := false
  /-- Enabled in the course of the frame: it starts with the next one (R415). -/
  idle : Bool := false
  deriving DecidableEq, Repr

/-- The CSI-2 output of a feed (R422). -/
structure CsiRun where
  /-- Lines sent of the frame; FS has been sent; lines are dropped to the frame's end; FE has been sent. -/
  sent : Nat := 0
  started : Bool := false
  dropped : Bool := false
  finished : Bool := false
  /-- The transmitter sent the feed when the frame started. -/
  live : Bool := false
  deriving DecidableEq, Repr

/-- A feed of the output formatter. -/
structure FeedRun where
  /-- The frame in progress or just ended, or the next one before the first has started (R413). -/
  frame : Nat := 0
  open_ : Bool := false
  /-- The boundary of the frame, CT in ns. -/
  startAt : Nat := 0
  /-- Source bytes of the frame requested, READs in flight, rows consumed. -/
  asked : Nat := 0
  reads : Nat := 0
  consumed : Nat := 0
  /-- Landed bytes of rows that are not whole: row, offset, bytes; and the whole rows. -/
  chunks : List (Nat × Nat × List Byte) := []
  rows : Table (List Byte) := []
  /-- Verdict once final: void or not (R414). -/
  verdict : Option Bool := none
  layers : Table LayerRun := []
  streams : Table StreamRun := []
  csi : CsiRun := {}
  /-- Frames started or skipped since EN, the frame in progress not counted (R423). -/
  count : Nat := 0
  /-- Vision rows formed. -/
  vrows : Nat := 0
  /-- The frame's outputs are formed; it may still wait for its verdict (R414). -/
  ended : Bool := false
  /-- The vision entries of the frame have been closed. -/
  vdone : Bool := false
  /-- The vision output was enabled in the course of the frame: it starts with the next one (R415, R423). -/
  visIdle : Bool := false
  /-- Layers published since EN: bit l. -/
  readied : Nat := 0
  /-- First draw of the frame's free values. -/
  free : Nat := 0
  active : Table Word := []
  deriving DecidableEq, Repr

/-- Void and good verdicts in a row of a member of an aligned group at the pole: group, node, pipeline (R433). -/
structure GroupMember where
  group : Nat
  node : Nat
  pipe : Nat
  voids : Nat := 0
  goods : Nat := 0
  deriving DecidableEq, Repr

/-- Cameras, rings and feeds of the chip. -/
structure VideoState where
  cams : Table CamPipe := []
  dests : Table RingDest := []
  sets : Table ParamSet := []
  feeds : Table FeedRun := []
  /-- Feeds of the lines that wait for the CSI-2 transmitter, in the order in which they became ready (R422). -/
  csiOrder : List Nat := []
  /-- Groups the pole knows: members, and the groups that are DEGRADED. -/
  members : List GroupMember := []
  degraded : List Nat := []
  deriving DecidableEq, Repr

end Sys2Proof.Machine
end

