-- ==== Sys2Proof/Machine/State.lean ====
section
/-! DEFINITION. State: one P7240 chip as plain data, its state right after reset, and the reasons a step can stop. -/

namespace Sys2Proof.Machine

/-- Why a step stops. -/
inductive Fault where
  /-- Raised by DEBUG_INSTRUCTION under an open debug unlock: the spec gives the Kereifold debug instructions no effect
  (R759). Safe: the model stops where the chip would go on. -/
  | debugInstruction
  deriving DecidableEq, Repr

/-- Why a command has no meaning. -/
inductive Refusal where
  /-- The command has no meaning in this model yet. Safe. -/
  | notModelled (mnemonic : String)
  deriving DecidableEq, Repr

/-- The chip. Registers of Table 25-3 stand in `regs`; everything else the spec gives the chip stands in the other fields. -/
structure State where
  /-- Commands that wait, first in first out. -/
  pending : List Instr := []
  /-- Root-clock cycles since reset release (R117): the model's own count of time. -/
  now : Nat := 0
  /-- The model's own counter of free values taken. -/
  free : Nat := 0
  /-- What left the chip, newest first: the model's own record. -/
  out : List Emit := []
  /-- Registers, unlisted at their reset value. -/
  regs : Table Word := []
  /-- Bits of WO1 fields written since reset or release, by address (R652). -/
  written : Table Word := []
  /-- Bits of event registers that hardware set in the cycle `raisedAt`, by address (R14). -/
  raised : Table Word := []
  /-- The cycle that `raised` stands for. -/
  raisedAt : Nat := 0
  /-- HI words latched by a read of their LO word and not yet read, by HI address (R718). -/
  latch : Table (Option Word) := []
  /-- Strap levels sampled at reset release, as PER_STRAP shows them (R757). -/
  straps : Nat := 0
  ports : Table Port := []
  fab : Fabric := {}
  mem : MemState := {}
  cores : Table CoreState := []
  vid : VideoState := {}
  kmp : KmpState := {}
  tim : TimeState := {}
  plans : Table PlanEpoch := []
  loss : LossState := {}
  saf : SafetyState := {}
  sec : SecurityState := {}
  cal : CalState := {}
  pwr : PowerState := {}
  per : PeriState := {}
  con : ConstState := {}
  ctl : ControlState := {}
  deriving DecidableEq, Repr

/-- The chip right after a cold power-on reset: every field at its reset value, nothing queued (R12, R684). -/
def State.reset : State := {}

end Sys2Proof.Machine
end

