-- ==== Sys2Proof/Machine/Ops.lean ====
section
/-! DEFINITION. Ops: the named operations that every family uses: registers and their fields, ports, time, what leaves
the chip, safety events. -/

namespace Sys2Proof.Machine

/-- The outcome of a meaning. -/
abbrev Out := Host.Outcome State Fault Refusal

/-- During a chip reset nothing on the chip acts and no access is performed (R720): a command is lost. -/
def State.run (s : State) (f : State → Out) : Out := if s.pwr.inReset.isSome then .next s else f s

/-- A field of a register: its address, its lowest bit and its width. -/
structure Fld where
  a : Nat
  lo : Nat
  w : Nat
  deriving DecidableEq, Repr

/-- Two fields that share no bit. -/
def Fld.apart (f g : Fld) : Bool := f.a ≠ g.a || f.lo + f.w ≤ g.lo || g.lo + g.w ≤ f.lo

/-- A register's word. -/
def State.reg (s : State) (a : Nat) : Word := tblGet regReset s.regs a

/-- An access to the registers of a block, by its bit in `CLK_GATE` (Table 4-6): while the gate is closed it is an address fault and
changes nothing, and so it is for a core in PARK (R121, R701, R720). -/
def State.runGate (s : State) (g : Nat) (f : State → Out) : Out :=
  s.run (fun s => if bit (s.reg 0x23000008).toNat g && !(decide (g < 8) && decide ((s.reg 0x23002018).toNat % 4 = 2)) then f s else .next s)

/-- The state with a register's word replaced. -/
def State.setReg (s : State) (a : Nat) (v : Word) : State := { s with regs := tblSet regReset s.regs a v }

/-- The bits of a field within a word. -/
def maskOf (f : Fld) : Word := (BitVec.allOnes f.w).setWidth 32 <<< f.lo

/-- A field's value. -/
def State.get (s : State) (f : Fld) : Nat := ((s.reg f.a).extractLsb' f.lo f.w).toNat

/-- STAGE of the boot record (Table 16-8). -/
def fStage : Fld := ⟨0x26000400, 0, 3⟩

/-- Firmware runs (Table 16-8): the ROM has released SC_1, SC_2 and the safety core pair (R475). -/
def State.firmwareUp (s : State) : Bool := s.get fStage = 7

/-- The safety core pair runs: released by the ROM (R475), and not stopped by a lockstep mismatch (R472). -/
def State.pairOn (s : State) : Bool := s.firmwareUp && !s.ctl.stopped

/-- The safety core pair acts. -/
def State.runPair (s : State) (f : State → Out) : Out := s.run (fun s => if s.pairOn then f s else .next s)

/-- The state with a field set; the value is cut to the field's width. -/
def State.set (s : State) (f : Fld) (v : Nat) : State :=
  s.setReg f.a ((s.reg f.a &&& ~~~ maskOf f) ||| (((BitVec.ofNat f.w v).setWidth 32 <<< f.lo) &&& maskOf f))

/-- Bits of a W1C event register that hardware has set in this very cycle (R14). -/
def State.justRaised (s : State) (a : Nat) : Word := if s.raisedAt = s.now then tblGet wordZero s.raised a else 0#32

/-- Set bits of a W1C event register, and keep in mind that this cycle set them (R14). -/
def State.event (s : State) (a bits : Nat) : State :=
  { (s.setReg a (s.reg a ||| BitVec.ofNat 32 bits)) with
    raised := tblSet wordZero (if s.raisedAt = s.now then s.raised else []) a (s.justRaised a ||| BitVec.ofNat 32 bits), raisedAt := s.now }

/-- Count up, saturating at 0xFFFF_FFFF. -/
def State.bump (s : State) (a : Nat) : State :=
  if s.reg a = 0xFFFFFFFF#32 then s else s.setReg a (s.reg a + 1#32)

/-- Count up by `n`, saturating at 0xFFFF_FFFF. -/
def State.bumpBy (s : State) (a n : Nat) : State :=
  s.setReg a (BitVec.ofNat 32 (min 0xFFFFFFFF ((s.reg a).toNat + n)))

/-- A 64-bit register pair, low word first. -/
def State.reg64 (s : State) (a : Nat) : Nat := (s.reg a).toNat + 4294967296 * (s.reg (a + 4)).toNat

/-- The state with a 64-bit register pair set. -/
def State.setReg64 (s : State) (a v : Nat) : State :=
  (s.setReg a (BitVec.ofNat 32 v)).setReg (a + 4) (BitVec.ofNat 32 (v / 4294967296))

/-- WO1 fields of a register that became writable again in this very cycle (R653). -/
def State.retaken (s : State) (a : Nat) : Word := if s.sec.reopenedAt = s.now then tblGet wordZero s.sec.reopened a else 0#32

/-- WO1 fields of a register become writable again, from the next cycle on (R653). -/
def State.retake (s : State) (a : Nat) (w : Word) : State :=
  { s with
    written := tblSet wordZero s.written a (tblGet wordZero s.written a &&& ~~~ w)
    sec := { s.sec with
      reopened := tblSet wordZero (if s.sec.reopenedAt = s.now then s.sec.reopened else []) a (s.retaken a ||| w), reopenedAt := s.now } }

/-- Registers of an address range back at their reset values; their WO1 fields become writable (R653). -/
def State.resetRegs (s : State) (lo hi : Nat) : State :=
  let s := (s.written.filter (fun e => decide (lo ≤ e.1) && decide (e.1 < hi))).foldl (fun s e => s.retake e.1 e.2) s
  { s with regs := tblClear s.regs lo hi }

/-- Record something that leaves the chip. -/
def State.emit (s : State) (e : Emit) : State := { s with out := e :: s.out }

/-- Root-clock cycles in one microsecond (R117). -/
def us : Nat := 9600

/-- Root-clock cycles in one millisecond (R117). -/
def ms : Nat := 9600000

/-- Constellation time in whole nanoseconds (R122, R128). -/
def State.ctNs (s : State) : Nat := s.tim.ct / 4294967296

/-- The increment in force, in 2^-32 ns (R122). -/
def State.inc (s : State) : Nat := s.reg64 0x23000018 % 68719476736

/-- Whole milliseconds of constellation time (R91). -/
def State.ctMs (s : State) : Nat := s.ctNs / 1000000

/-- This chip's node ID (R87). -/
def State.node (s : State) : Nat := s.straps % 64

/-- BOOT_SRC_1, BOOT_SRC_0 (R474, R757). -/
def State.bootSrc (s : State) : Nat := bits s.straps 7 2

/-- The chip may become pole: strapped POLE_ELIGIBLE (Table 3-9) without the strap conflict of R474. -/
def State.poleElig (s : State) : Bool := bit s.straps 6 && (s.bootSrc = 0 || s.bootSrc = 3)

/-- This chip is a member of the constellation: one that has left it publishes nothing and keeps its safety and frame-sync outputs low
(R38, R578). -/
def State.isMember (s : State) : Bool := bit s.loss.members s.node

/-- This chip is the pole. -/
def State.isPole (s : State) : Bool := s.loss.pole == some s.node

/-- A port's state beside its registers. -/
def State.port (s : State) (p : Nat) : Port := tblGet (fun _ => {}) s.ports p

/-- The state with a port's state replaced. -/
def State.setPort (s : State) (p : Nat) (q : Port) : State := { s with ports := tblSet (fun _ => {}) s.ports p q }

/-- Base of a port's registers (R81). -/
def lnkBase (p : Nat) : Nat := 0x21000000 + 0x1000 * p

/-- STATE of `LNK_P_n_STAT` (Table 2-15). -/
def fLnkState (p : Nat) : Fld := ⟨lnkBase p + 4, 0, 3⟩
/-- EN of `LNK_P_n_CTL`. -/
def fLnkEn (p : Nat) : Fld := ⟨lnkBase p, 0, 1⟩
/-- TEST of `LNK_P_n_CTL`. -/
def fLnkTest (p : Nat) : Fld := ⟨lnkBase p, 4, 2⟩
/-- DOWN_CAUSE of `LNK_P_n_STAT`. -/
def fLnkCause (p : Nat) : Fld := ⟨lnkBase p + 4, 24, 8⟩
/-- PEER.NODE, PEER.PORT and PEER.VALID (Table 2-16). -/
def fPeerNode (p : Nat) : Fld := ⟨lnkBase p + 8, 0, 6⟩
/-- PEER.PORT. -/
def fPeerPort (p : Nat) : Fld := ⟨lnkBase p + 8, 6, 3⟩
/-- PEER.VALID. -/
def fPeerValid (p : Nat) : Fld := ⟨lnkBase p + 8, 15, 1⟩

/-- Transmission has stopped until the reset to come: a clock loss, a lockstep mismatch or a class A reaction (R144, R472, R617). -/
def State.linkOff (s : State) : Bool := s.tim.resetDue.isSome

/-- A port is ACTIVE. -/
def State.active (s : State) (p : Nat) : Bool := s.get (fLnkState p) == 4

/-- The ports that are ACTIVE. -/
def State.activePorts (s : State) : List Nat := (List.range 6).filter s.active

/-- Raise a safety event: its bit of SAF_EVT, and the event for the safety core pair to take (R617, R618). -/
def State.safety (s : State) (code detail : Nat) : State :=
  let s := s.event 0x24000000 (2 ^ (code - 1))
  { s with saf := { s.saf with events := s.saf.events ++ [(code, detail)] } }

/-- The stamp of constellation time bits 29 to 6 (Table 3-1). -/
def State.stamp (s : State) : Nat := s.ctNs / 64 % 16777216

/-- Queue a routed beacon for the TC0 shaper (R90, R107): type and the 15 bytes after it; no destination is a broadcast. -/
def State.beacon (s : State) (dst : Option Nat) (data : List Byte) : State :=
  let pk : Packet :=
    { dst := dst.getD 0, src := s.node, tc := 0, kind := 9, bcast := dst.isNone, len := 1, nbytes := 16, ten := 7, data := fit 16 data }
  { s with fab := { s.fab with beacons := s.fab.beacons ++ [pk] } }

/-- The 16 bytes of a beacon: TYPE, a zero byte or the bytes 1 to 7, and the 64-bit word of bytes 8 to 15. -/
def beaconBytes (ty : Nat) (b1to7 : List Byte) (w : Nat) : List Byte :=
  leBytes 1 ty ++ slice b1to7 0 7 ++ leBytes 8 w

/-- Send a beacon to the pole, or hand it to this chip's own sink when it is the pole. -/
def State.toPole (s : State) (data : List Byte) : State :=
  match s.loss.pole with
  | none => s
  | some q =>
    if q = s.node then
      { s with fab := { s.fab with taken := s.fab.taken ++ [{ dst := q, src := q, kind := 9, nbytes := 16, data := fit 16 data }] } }
    else s.beacon (some q) data

/-- Broadcast a beacon from the pole; the pole acts on its own copy. -/
def State.broadcast (s : State) (data : List Byte) : State :=
  let s := s.beacon none data
  { s with fab := { s.fab with taken := s.fab.taken ++ [{ src := s.node, kind := 9, bcast := true, nbytes := 16, data := fit 16 data }] } }

end Sys2Proof.Machine
end

