-- ==== Sys2Proof/Machine/Slots.lean ====
section
/-! DEFINITION. Slots: the slots of the mailboxes, their bits in the mailbox registers, and what becomes of a message that leaves
its slot (17). -/

namespace Sys2Proof.Machine

/-- Base of the mailbox registers of a path (R528). -/
def mbxReg (p off : Nat) : Nat := 0x26000000 + 0x100 * (p % 4) + off

/-- Slots of a mailbox of a path (Table 17-1). -/
def mbSlots (path mb : Nat) : Nat :=
  if path = 0 then [2, 2, 4, 6].getD mb 0 else if path = 3 then [16, 16, 16, 8].getD mb 0 else 8

/-- Key of a mailbox slot. -/
def slotKey (path mb sl : Nat) : Nat := path * 64 + mb * 16 + sl

/-- A mailbox slot's message; empty when it is free. -/
def State.slot (s : State) (path mb sl : Nat) : List Byte := tblGet (fun _ => []) s.kmp.slots (slotKey path mb sl)

/-- The state with a slot's message replaced. -/
def State.setSlot (s : State) (path mb sl : Nat) (m : List Byte) : State :=
  { s with kmp := { s.kmp with slots := tblSet (fun _ => []) s.kmp.slots (slotKey path mb sl) m } }

/-- The first free slot of a mailbox. -/
def State.freeSlot (s : State) (path mb : Nat) : Option Nat :=
  (List.range (mbSlots path mb)).find? (fun i => (s.slot path mb i).isEmpty)

/-- The chip that executes commands: the pole, or a lone chip (R488). -/
def State.executes (s : State) : Bool := s.isPole || s.loss.lone

/-- Bit of a slot in `MBX_P_p_IN_STAT` or `MBX_P_p_OUT`; Table 17-15 has bits for eight slots of a mailbox. -/
def fSlot (p mb sl : Nat) : Fld :=
  ⟨mbxReg p (if mb = 1 || mb = 2 then 8 else 4), sl + if mb = 2 || mb = 3 then 16 else 0, 1⟩

/-- A slot's bit clears. -/
def State.slotUnflag (s : State) (p mb sl : Nat) : State := if sl < 8 then s.set (fSlot p mb sl) 0 else s

/-- A slot's bit is set by the device. -/
def State.slotFlag (s : State) (p mb sl : Nat) : State :=
  if sl < 8 then
    (if mb = 1 || mb = 2 then s.event (fSlot p mb sl).a (2 ^ (fSlot p mb sl).lo) else s.set (fSlot p mb sl) 1)
  else s

/-- A message takes a response or event slot, and its bit shows it (R492, Table 17-15). -/
def State.fillOut (s : State) (p mb sl : Nat) (m : List Byte) : State := (s.setSlot p mb sl m).slotFlag p mb sl

/-- An event is dropped: the drop is counted, and the next event of its session carries LOST. The session is at the chip that
executes commands; another chip reports the header of the event to the pole, under a code that the spec does not give (R527, log entry
39). -/
def State.eventLost (s : State) (path : Nat) (m : List Byte) : State :=
  let s := s.bump (mbxReg path 0x20)
  let s := { s with kmp := { s.kmp with sessions := s.kmp.sessions.map (fun (x : Session) =>
    if x.sid = fieldAt m 4 2 % 4096 then { x with lost := true } else x) } }
  if s.executes then s
  else match s.loss.pole with
    | some q => s.emit (.order q 0 (m.take 16))
    | none => s

/-- The frames that carry the message of a slot of path 1 or 2, among those of an Ethernet port. -/
def frameKey (p mb sl : Nat) : Nat := 1000 + slotKey p mb sl

/-- Frames of a message that has been given up, but for those already queued, keep no slot. -/
def EthPort.unkey (q : EthPort) (key : Nat) : EthPort :=
  { q with txq := q.txq.map (fun f => if f.1 = key then (16, f.2) else f),
           waits := q.waits.map (fun (w : ArpWait) => if w.key = key then { w with key := 16 } else w) }

/-- The message of a slot of an Ethernet path has been sent, or its datagram dropped: the slot is free, and a dropped event counts (R489,
R527). -/
def State.slotLeaves (s : State) (p mb sl : Nat) (sent : Bool) : State :=
  let q := (tblGet (fun _ => {}) s.per.eth (p - 1) : EthPort)
  let t := (s.setSlot p mb sl []).slotUnflag p mb sl
  let t := { t with per := { t.per with eth := tblSet (fun _ => {}) t.per.eth (p - 1) (q.unkey (frameKey p mb sl)) } }
  if sent || mb ≠ 2 || (s.slot p mb sl).isEmpty then t else t.eventLost p (s.slot p mb sl)

/-- The frames of a key have left the port, or were dropped. -/
def State.slotDone (s : State) (key : Nat) (sent : Bool) : State :=
  if key < 1000 then s else s.slotLeaves ((key - 1000) / 64) ((key - 1000) / 16 % 4) ((key - 1000) % 16) sent

end Sys2Proof.Machine
end

