-- ==== Sys2Proof/Machine/Eth.lean ====
section
/-! DEFINITION. Eth: the Ethernet ports as IPv4 hosts (R721, R763, Table 27-8). The layouts of Ethernet, ARP, IPv4, UDP, ICMP
and IGMP are those of their standards (PRESUMED, log entry 37). -/

namespace Sys2Proof.Machine

/-- Registers of a port (Table 25-6). -/
def ethReg (e off : Nat) : Nat := 0x22000000 + 0x1000 * e + off
/-- EN of `PER_ETH_e_CTL`. -/
def fEthEn (e : Nat) : Fld := ⟨ethReg e 0, 0, 1⟩
/-- KMP_EN. -/
def fKmpEn (e : Nat) : Fld := ⟨ethReg e 0, 1, 1⟩
/-- PTP_EN. -/
def fPtpEn (e : Nat) : Fld := ⟨ethReg e 0, 2, 1⟩
/-- VLAN_EN. -/
def fVlanEn (e : Nat) : Fld := ⟨ethReg e 0, 3, 1⟩
/-- MTU. -/
def fMtu (e : Nat) : Fld := ⟨ethReg e 0, 16, 14⟩
/-- LINK of `PER_ETH_e_STAT`. -/
def fEthLink (e : Nat) : Fld := ⟨ethReg e 4, 0, 1⟩

/-- A port beside its registers. -/
def State.eth (s : State) (e : Nat) : EthPort := tblGet (fun _ => {}) s.per.eth e
/-- The state with a port replaced. -/
def State.setEth (s : State) (e : Nat) (p : EthPort) : State := { s with per := { s.per with eth := tblSet (fun _ => {}) s.per.eth e p } }
/-- Change a port. -/
def State.onEth (s : State) (e : Nat) (f : EthPort → EthPort) : State := s.setEth e (f (s.eth e))

/-- The low `n` bytes of a number, most significant first. -/
def beBytes (n v : Nat) : List Byte := (leBytes n v).reverse
/-- The big-endian field of `n` bytes at an offset. -/
def beAt (bs : List Byte) (off n : Nat) : Nat := leNat (slice bs off n).reverse

/-- Station address, IPv4 address, mask and gateway of a port. -/
def State.mac (s : State) (e : Nat) : Nat := s.reg64 (ethReg e 8) % 281474976710656
/-- IPv4 address. -/
def State.ip (s : State) (e : Nat) : Nat := (s.reg (ethReg e 0x10)).toNat
/-- An address lies in the port's subnet. -/
def State.inSubnet (s : State) (e ip : Nat) : Bool := (s.reg (ethReg e 0x10) ^^^ BitVec.ofNat 32 ip) &&& s.reg (ethReg e 0x14) == 0#32

/-- Sum of the 16-bit big-endian words of a string. -/
def sum16 : List Byte → Nat
  | [] => 0
  | [a] => 256 * a.toNat
  | a :: b :: rest => 256 * a.toNat + b.toNat + sum16 rest

/-- The Internet checksum of a string. -/
def inetSum (bs : List Byte) : Nat :=
  let t := sum16 bs
  let t := t % 65536 + t / 65536
  let t := t % 65536 + t / 65536
  65535 - t % 65536

/-- An Ethernet frame without its FCS; `tag` is the control word of an IEEE 802.1Q tag. -/
def ethFrame (dst src : Nat) (tag : Option Nat) (type : Nat) (payload : List Byte) : List Byte :=
  beBytes 6 dst ++ beBytes 6 src ++ (match tag with | some t => beBytes 2 0x8100 ++ beBytes 2 t | none => []) ++ beBytes 2 type ++ payload

/-- An IPv4 packet (Table 27-8: IHL 5): `frag` is the flags and fragment-offset field. -/
def ipPacket (src dst proto ttl dscp ident frag : Nat) (payload : List Byte) : List Byte :=
  let head (c : Nat) : List Byte :=
    beBytes 1 0x45 ++ beBytes 1 (4 * dscp) ++ beBytes 2 (20 + payload.length) ++ beBytes 2 ident ++ beBytes 2 frag ++ beBytes 1 ttl ++
      beBytes 1 proto ++ beBytes 2 c ++ beBytes 4 src ++ beBytes 4 dst
  head (inetSum (head 0)) ++ payload

/-- A UDP datagram with its checksum. -/
def udpDatagram (src dst sport dport : Nat) (data : List Byte) : List Byte :=
  let len := 8 + data.length
  let head (c : Nat) : List Byte := beBytes 2 sport ++ beBytes 2 dport ++ beBytes 2 len ++ beBytes 2 c
  let c := inetSum (beBytes 4 src ++ beBytes 4 dst ++ beBytes 2 17 ++ beBytes 2 len ++ head 0 ++ data)
  head (if c = 0 then 65535 else c) ++ data

/-- A multicast IPv4 address, and its MAC address (R534). -/
def isMulticast (ip : Nat) : Bool := ip / 2 ^ 28 = 14
/-- MAC address of a multicast address. -/
def multicastMac (ip : Nat) : Nat := 0x01005E000000 + ip % 2 ^ 23

/-- The tag of KMP, PTP, ARP, ICMP and IGMP frames (Table 27-8). -/
def State.portTag (s : State) (e : Nat) : Option Nat :=
  let v := (s.reg (ethReg e 0x1C)).toNat
  if s.get (fVlanEn e) = 1 then some (v % 4096 + 8192 * bits v 12 3) else none

/-- A packet is dropped at a transmit queue or for want of a next hop; a mailbox message that it carries is lost. -/
def State.ethTxDrop (s : State) (e key : Nat) : State := ((s.bump (ethReg e 0x54)).event (ethReg e 0x20) 4).slotDone key false

/-- Queue a frame on a port; a port that is off drops it. -/
def State.ethQueue (s : State) (e key : Nat) (frame : List Byte) : State :=
  if s.get (fEthEn e) = 1 then s.onEth e (fun p => { p with txq := p.txq ++ [(key, frame)] }) else s.ethTxDrop e key

/-- An ARP packet: operation 1 request, 2 reply. -/
def arpPacket (op smac sip tmac tip : Nat) : List Byte :=
  beBytes 2 1 ++ beBytes 2 0x0800 ++ beBytes 1 6 ++ beBytes 1 4 ++ beBytes 2 op ++ beBytes 6 smac ++ beBytes 4 sip ++ beBytes 6 tmac ++ beBytes 4 tip

/-- Broadcast MAC address. -/
def macAll : Nat := 0xFFFFFFFFFFFF

/-- Send an ARP request for an address. -/
def State.arpAsk (s : State) (e ip : Nat) : State :=
  s.ethQueue e 16 (ethFrame macAll (s.mac e) (s.portTag e) 0x0806 (arpPacket 1 (s.mac e) (s.ip e) 0 ip))

/-- Root-clock cycles in one second. -/
def sec : Nat := 9600000000

/-- Send an IPv4 packet by next hop; an entry of the cache serves for 300 s (Table 27-8). -/
def State.ipSend (s : State) (e key dst : Nat) (tag : Option Nat) (pkt : List Byte) : State :=
  if isMulticast dst then s.ethQueue e key (ethFrame (multicastMac dst) (s.mac e) tag 0x0800 pkt)
  else
    let gw := (s.reg (ethReg e 0x18)).toNat
    let hop := if s.inSubnet e dst then dst else gw
    if hop = 0 then s.ethTxDrop e key
    else
      let p := s.eth e
      match p.arp.find? (fun a => a.1 = hop && decide (s.now < a.2.2 + 300000 * ms)) with
      | some a => s.ethQueue e key (ethFrame a.2.1 (s.mac e) tag 0x0800 pkt)
      | none =>
        if p.waits.any (fun w => w.ip = hop) then s.ethTxDrop e key
        else (s.setEth e { p with waits := p.waits ++ [({ ip := hop, tries := 1, at_ := s.now, pkt := ethFrame 0 (s.mac e) tag 0x0800 pkt, key := key } : ArpWait)] }).arpAsk e hop

/-- Take the next identification of a port. -/
def State.ipIdent (s : State) (e : Nat) : State × Nat :=
  let p := s.eth e
  (s.setEth e { p with ident := (p.ident + 1) % 65536 }, p.ident)

/-- Split an IP payload into fragments of the MTU: offset in units of 8 bytes, whether more follow, bytes. -/
def ipFragments (mtu : Nat) (bs : List Byte) : List (Nat × Bool × List Byte) :=
  let n := (mtu - 20) / 8 * 8
  if n = 0 then []
  else (List.range ((bs.length + n - 1) / n)).map (fun i =>
    (i * n / 8, decide ((i + 1) * n < bs.length), (bs.drop (i * n)).take n))

/-- Send a KMP datagram to a peer, address * 65536 + port, from port 47110: DF = 0, in fragments where it passes the MTU
(R493, Table 27-8). `key` names its mailbox slot. -/
def State.kmpUdp (s : State) (e key peer : Nat) (data : List Byte) : State :=
  let dst := peer / 65536
  let udp := udpDatagram (s.ip e) dst 47110 (peer % 65536) data
  let (s, id) := s.ipIdent e
  (ipFragments (s.get (fMtu e)) udp).foldl (fun s f =>
    s.ipSend e key dst (s.portTag e) (ipPacket (s.ip e) dst 17 64 0 id (f.1 + if f.2.1 then 8192 else 0) f.2.2)) s

/-- An Ethernet port that serves KMP: path 1 or 2 (R493). -/
def State.kmpPort (s : State) (path : Nat) : Bool :=
  let c := (s.reg (0x22000000 + 0x1000 * (path - 1))).toNat
  (path = 1 || path = 2) && bit c 0 && bit c 1 && bit (s.reg (0x22000004 + 0x1000 * (path - 1))).toNat 0

/-- Put a response (mailbox 1) or an event (mailbox 2) out on a path of this chip: whether it could be placed (R489, R492, R493,
R527). `peer` is the UDP address on paths 1 and 2, where the message holds its slot until its datagram is sent. A response that finds
no free slot waits for one (log entry 39). -/
def State.placeOut (s : State) (path mb peer : Nat) (m : List Byte) : State × Bool :=
  if path ≠ 0 && !s.kmpPort path then (s, false)
  else match s.freeSlot path mb with
    | none => if mb = 1 then ({ s with kmp := { s.kmp with outWait := s.kmp.outWait ++ [(path, peer, m)] } }, true) else (s, false)
    | some i =>
      let t := s.fillOut path mb i m
      (if path = 0 then t else t.kmpUdp (path - 1) (frameKey path mb i) peer m, true)

/-- The first response that waits on a path takes a slot of MB1 that has become free. -/
def State.outNext (s : State) (p : Nat) : State :=
  match s.kmp.outWait.find? (fun w => w.1 = p), s.freeSlot p 1 with
  | some w, some _ => ({ s with kmp := { s.kmp with outWait := s.kmp.outWait.erase w } }.placeOut p 1 w.2.1 w.2.2).1
  | _, _ => s

/-- The responses that wait on a path take the free slots of MB1. -/
def State.outDrain (s : State) (p : Nat) : State := (List.range 8).foldl (fun s _ => s.outNext p) s

/-- Send any other UDP datagram, DF = 1. -/
def State.udpSend (s : State) (e key dst sport dport ttl dscp : Nat) (tag : Option Nat) (data : List Byte) : State :=
  let (s, id) := s.ipIdent e
  s.ipSend e key dst tag (ipPacket (s.ip e) dst 17 ttl dscp id 16384 (udpDatagram (s.ip e) dst sport dport data))

/-- An IGMPv2 message for 224.0.1.129: 0x16 report, 0x17 leave (to 224.0.0.2). -/
def State.igmpSend (s : State) (e type : Nat) : State :=
  let body (c : Nat) : List Byte := beBytes 1 type ++ beBytes 1 0 ++ beBytes 2 c ++ beBytes 4 0xE0000181
  let dst := if type = 0x17 then 0xE0000002 else 0xE0000181
  let (s, id) := s.ipIdent e
  s.ipSend e 16 dst (s.portTag e) (ipPacket (s.ip e) dst 2 1 0 id 16384 (body (inetSum (body 0))))

/-- A gratuitous ARP (Table 27-8). -/
def State.arpAnnounce (s : State) (e : Nat) : State := if s.get (fEthEn e) = 1 then s.arpAsk e (s.ip e) else s

/-- CFG_ERR of `PER_ETH_e_CTL`. -/
def State.ethCfgErr (s : State) (e : Nat) : State := s.event (ethReg e 0) 0x80000000

/-- A write of `PER_ETH_e_CTL` (R721, R726). -/
def State.ethCtlWrite (s : State) (e : Nat) (v : Word) : State :=
  let s := if v.getLsbD 31 && !(s.justRaised (ethReg e 0)).getLsbD 31 then s.set ⟨ethReg e 0, 31, 1⟩ 0 else s
  let cfg := v &&& 0x3FFF000E#32
  let old := s.reg (ethReg e 0)
  if s.get (fEthEn e) = 1 then
    let s := if cfg = old &&& 0x3FFF000E#32 then s else s.ethCfgErr e
    if v.getLsbD 0 then s
    else
      let s := if s.get (fPtpEn e) = 1 then s.igmpSend e 0x17 else s
      let lost := (s.eth e).waits.map (fun w => w.key)
      lost.foldl (fun s k => s.slotDone k false)
        ((s.set (fEthEn e) 0).setEth e { ident := (s.eth e).ident, txq := (s.eth e).txq, conflict := (s.eth e).conflict })
  else
    let s := s.setReg (ethReg e 0) ((old &&& 0x80000000#32) ||| cfg)
    let mac := s.mac e
    let mtu := s.get (fMtu e)
    if v.getLsbD 0 = false then s
    else if mac = 0 || bit mac 40 || s.ip e = 0 || decide (mtu < 576) || decide (9000 < mtu) then s.ethCfgErr e
    else
      let s := (s.set (fEthEn e) 1).arpAnnounce e
      if s.get (fPtpEn e) = 1 then s.igmpSend e 0x16 else s

/-- PTP_EN of a port changes: firmware clears EN, writes the field and sets EN again (R721). -/
def State.ptpEnWrite (s : State) (e : Nat) (on : Bool) : State :=
  if s.get (fPtpEn e) = b2n on then s
  else
    let old := s.reg (ethReg e 0) &&& 0x3FFF000B#32
    let was := s.get (fEthEn e)
    let s := if was = 1 then s.ethCtlWrite e ((s.reg (ethReg e 0)) &&& 0x3FFF000E#32) else s
    s.ethCtlWrite e ((old &&& 0x3FFF000A#32) ||| BitVec.ofNat 32 (was + 4 * b2n on))

/-- `PER_ETH_e_CTL` is written. -/
def execEthEn (e : Fin 2) (v : Word) (s : State) : Out := s.runGate (14 + e) (fun s => .next (s.ethCtlWrite e v))

/-- The link of a port rises or falls. -/
def execEthLinkChange (e : Fin 2) (up : Bool) (s : State) : Out := s.runGate (14 + e) (fun s =>
  let was := s.get (fEthLink e)
  let s := (s.set (fEthLink e) (b2n up)).set ⟨ethReg e 4, 1 + e.val, 1⟩ (b2n up)
  .next (
    if was = b2n up then s
    else
      let s := s.event (ethReg e 0x20) 1
      if up then s.arpAnnounce e else s))

/-- Learn an address, and send what waits for it (Table 27-8): the cache keeps 32 entries, the oldest goes. -/
def State.arpLearn (s : State) (e ip mac : Nat) : State :=
  let p := s.eth e
  let cache := ((ip, mac, s.now) :: p.arp.filter (fun a => a.1 ≠ ip)).take 32
  let s := s.setEth e { p with arp := cache, waits := p.waits.filter (fun w => w.ip ≠ ip) }
  (p.waits.filter (fun w => w.ip = ip)).foldl (fun s w => s.ethQueue e w.key (beBytes 6 mac ++ w.pkt.drop 6)) s

/-- The PHY latency trims of a port, TX and RX, in quarter ns (R140, R667). -/
def fTrimTx (e : Nat) : Fld := ⟨0x23001280 + 4 * e, 0, 12⟩
/-- RX. -/
def fTrimRx (e : Nat) : Fld := ⟨0x23001280 + 4 * e, 16, 12⟩

/-- CT of an event message on the wire, in whole ns with the fraction dropped: it leaves the PHY TX later than it passed the MAC, and
it reached the PHY RX earlier (R128, R140, R667). Which way a trim counts is not in the spec (DEDUCED, log entry 33). -/
def State.wireTime (s : State) (e : Nat) (sent : Bool) : Nat :=
  let quarter := s.tim.ct / 1073741824
  (if sent then quarter + s.get (fTrimTx e) else quarter - s.get (fTrimRx e)) / 4

/-- Put something accepted into the inbox of a port. -/
def State.ethInbox (s : State) (e kind src : Nat) (data : List Byte) : State :=
  s.onEth e (fun p => { p with inbox := p.inbox ++ [(kind, src, data, if kind = 5 then s.wireTime e false else s.ctNs)] })

/-- Take it out again: its arrival CT in ns; what is not on record came now. -/
def State.ethTake (s : State) (e kind : Nat) (data : List Byte) : State × Nat :=
  match (s.eth e).inbox.find? (fun m => m.1 = kind && m.2.2.1 = data) with
  | some m => (s.onEth e (fun p => { p with inbox := p.inbox.erase m }), m.2.2.2)
  | none => (s, s.ctNs)

/-- An unsupported frame (Table 25-6). -/
def State.ethUnsupported (s : State) (e : Nat) : State := s.bump (ethReg e 0x50)

/-- A whole UDP datagram arrives from `sip`, sent to `dip` (Table 27-8, R493, R139). -/
def State.udpReceive (s : State) (e sip dip : Nat) (d : List Byte) : State :=
  let len := beAt d 4 2
  let body := d.take len
  let c := beAt d 6 2
  let ok := decide (8 ≤ len) && decide (len ≤ d.length) &&
    (c = 0 || decide (inetSum (beBytes 4 sip ++ beBytes 4 dip ++ beBytes 2 17 ++ beBytes 2 len ++ body) = 0))
  let port := beAt d 2 2
  let data := body.drop 8
  let src := sip * 65536 + beAt d 0 2
  if !ok then s
  else if port = 47110 && s.get (fKmpEn e) = 1 then s.ethInbox e 4 src data
  else if port = 319 && s.get (fPtpEn e) = 1 then
    let seq := beAt data 30 2
    let s := (s.setReg64 (ethReg e 0x88) (s.wireTime e false)).set ⟨ethReg e 0x90, 16, 16⟩ seq
    s.ethInbox e 5 src data
  else if port = 320 && s.get (fPtpEn e) = 1 then s.ethInbox e 6 src data
  else s.ethUnsupported e

/-- Bytes that fragments cover from offset `n` on without a gap, trying `k` fragments. -/
def joinParts (parts : List (Nat × List Byte)) (n : Nat) : Nat → List Byte
  | 0 => []
  | k + 1 => match parts.find? (fun p => p.1 = n && !p.2.isEmpty) with
    | some p => p.2 ++ joinParts parts (n + p.2.length) k
    | none => []

/-- A fragment of a datagram (Table 27-8): at most 4 in progress per port, each for 100 ms; only port 47110 is reassembled. -/
def State.fragReceive (s : State) (e sip dip id frag : Nat) (d : List Byte) : State :=
  let p : EthPort := { s.eth e with reasm := (s.eth e).reasm.filter (fun r => decide (s.now < r.at_ + 100 * ms)) }
  let old := p.reasm.find? (fun r => r.id = id && r.src = sip)
  if old.isNone && decide (4 ≤ p.reasm.length) then s.setEth e p
  else
    let r : Reasm := old.getD { id := id, src := sip, parts := [], total := none, at_ := s.now }
    let off := 8 * (frag % 8192)
    let r : Reasm := { r with parts := r.parts ++ [(off, d)], total := if bit frag 13 then r.total else some (off + d.length) }
    let all : List Byte := joinParts r.parts 0 (r.parts.length + 1)
    let rest := p.reasm.filter (fun x => !(x.id = id && x.src = sip))
    if r.total = some all.length then
      let s := s.setEth e { p with reasm := rest }
      if beAt all 2 2 = 47110 then s.udpReceive e sip dip all else s.ethUnsupported e
    else s.setEth e { p with reasm := rest ++ [r] }

/-- An IPv4 packet of an accepted frame from a MAC address (Table 27-8). -/
def State.ipReceive (s : State) (e smac : Nat) (b : List Byte) : State :=
  let ihl := 4 * (byteAt b 0 % 16)
  let total := beAt b 2 2
  let sip := beAt b 12 4
  let dip := beAt b 16 4
  let frag := beAt b 6 2
  let body := (b.take total).drop ihl
  if byteAt b 0 / 16 ≠ 4 || decide (ihl < 20) || decide (total < ihl) || decide (b.length < total) ||
      decide (inetSum (slice b 0 ihl) ≠ 0) then s
  else if dip ≠ s.ip e && !(dip = 0xE0000181 && s.get (fPtpEn e) = 1) then s.ethUnsupported e
  else
    let s := if s.inSubnet e sip then s.arpLearn e sip smac else s
    let proto := byteAt b 9
    if frag % 16384 ≠ 0 then (if proto = 17 then s.fragReceive e sip dip (beAt b 4 2) frag body else s.ethUnsupported e)
    else if proto = 17 then s.udpReceive e sip dip body
    else if proto = 1 && byteAt body 0 = 8 && decide (inetSum body = 0) then s.ethInbox e 2 sip (b.take total)
    else if proto = 2 && byteAt body 0 = 0x11 && s.get (fPtpEn e) = 1 then s.ethInbox e 3 sip body
    else s.ethUnsupported e

/-- A frame arrives (Table 27-8). `data` is the frame without its FCS. -/
def execEthFrameReceive (e : Fin 2) (data : List Byte) (fcsOk : Bool) (s : State) : Out := s.runGate (14 + e) (fun s =>
  .next (
    if s.get (fEthEn e) = 0 then s
    else if !fcsOk then (s.bump (ethReg e 0x48)).event (ethReg e 0x20) 2
    else
      let s := s.bump (ethReg e 0x44)
      let dst := beAt data 0 6
      let src := beAt data 6 6
      let tagged := decide (beAt data 12 2 = 0x8100)
      let vid := beAt data 14 2 % 4096
      let h := if tagged then 18 else 14
      let type := beAt data (h - 2) 2
      let own := (s.reg (ethReg e 0x1C)).toNat % 4096
      let okMac := decide (dst = s.mac e) || decide (dst = macAll) || (decide (dst = 0x01005E000181) && s.get (fPtpEn e) = 1)
      let okTag := !tagged || decide (vid = if s.get (fVlanEn e) = 1 then own else 0)
      let okLen := decide (data.length + 4 ≤ s.get (fMtu e) + if tagged then 22 else 18)
      let body := data.drop h
      if !okMac || !okTag || !okLen then s.ethUnsupported e
      else if type = 0x0806 then s.ethInbox e 1 0 body
      else if type = 0x0800 then s.ipReceive e src body
      else s.ethUnsupported e))

/-- The frame in front of a port's queue has been sent; a PTP event message is timestamped (R140). In the hardware safe state nothing is
sent (R617). -/
def execEthFrameTransmitted (e : Fin 2) (s : State) : Out := s.runGate (14 + e) (fun s =>
  let p := s.eth e
  .next (
    if (s.reg 0x24000004).getLsbD 0 then s
    else match p.txq with
    | [] => s
    | (key, f) :: rest =>
      let s := ((s.setEth e { p with txq := rest }).emit (.eth e f)).bump (ethReg e 0x40)
      let more := rest.any (fun x => x.1 = key) || p.waits.any (fun w => w.key = key)
      let s := if key < 1000 || more then s else (s.slotDone key true).outDrain (e + 1)
      let h := if beAt f 12 2 = 0x8100 then 18 else 14
      if beAt f (h - 2) 2 = 0x0800 && byteAt f (h + 9) = 17 && beAt f (h + 22) 2 = 319 then
        let seq := beAt f (h + 28 + 30) 2
        let s := (s.setReg64 (ethReg e 0x80) (s.wireTime e true)).set ⟨ethReg e 0x90, 0, 16⟩ seq
        match s.tim.ptp.delayReq with
        | some (n, _) => if n = seq then { s with tim := { s.tim with ptp := { s.tim.ptp with delayReq := some (n, s.wireTime e true) } } } else s
        | none => s
      else s))

/-- An ARP packet is acted on (Table 27-8, R765): requests for the port's address are answered, and the cache learns from
every packet that does not claim the port's own address. -/
def execArpRequest (e : Fin 2) (data : List Byte) (s : State) : Out := s.runGate (14 + e) (fun s =>
  let (s, _) := s.ethTake e 1 data
  let op := beAt data 6 2
  let smac := beAt data 8 6
  let sip := beAt data 14 4
  let tip := beAt data 24 4
  .next (
    if s.get (fEthEn e) = 0 then s
    else if sip = s.ip e then (if smac = s.mac e then s else s.onEth e (fun p => { p with conflict := true }))
    else
      let s := if s.inSubnet e sip && decide (sip ≠ 0) then s.arpLearn e sip smac else s
      if op = 1 && tip = s.ip e then
        s.ethQueue e 16 (ethFrame smac (s.mac e) (s.portTag e) 0x0806 (arpPacket 2 (s.mac e) (s.ip e) smac sip))
      else s))

/-- 1 s after its last request a resolution is tried again, or fails after the third (Table 27-8). -/
def execArpRetry (e : Fin 2) (ip : Nat) (s : State) : Out := s.runGate (14 + e) (fun s =>
  let p := s.eth e
  .next (
    match p.waits.find? (fun w => w.ip = ip && decide (w.at_ + sec ≤ s.now)) with
    | none => s
    | some w =>
      if w.tries < 3 then
        (s.setEth e { p with waits := p.waits.map (fun (x : ArpWait) => if x.ip = ip then { x with tries := x.tries + 1, at_ := s.now } else x) }).arpAsk e ip
      else ((s.setEth e { p with waits := p.waits.filter (fun x => x.ip ≠ ip) }).ethTxDrop e w.key).outDrain (e + 1)))

/-- An entry of the cache ends after 300 s (Table 27-8). -/
def execArpEntryExpiry (e : Fin 2) (ip : Nat) (s : State) : Out := s.runGate (14 + e) (fun s =>
  .next (s.onEth e (fun p => { p with arp := p.arp.filter (fun a => !(a.1 = ip && decide (a.2.2 + 300 * sec ≤ s.now))) })))

/-- An ICMP echo request is answered, at most 10 per second per port and of at most 1,500 bytes (Table 27-8). -/
def execIcmpEcho (e : Fin 2) (data : List Byte) (s : State) : Out := s.runGate (14 + e) (fun s =>
  let (s, _) := s.ethTake e 2 data
  let recent := ((s.eth e).echoes.filter (fun t => decide (s.now < t + sec)))
  let body := data.drop (4 * (byteAt data 0 % 16))
  let sip := beAt data 12 4
  let reply (c : Nat) : List Byte := beBytes 1 0 ++ beBytes 1 0 ++ beBytes 2 c ++ body.drop 4
  .next (
    if s.get (fEthEn e) = 0 || decide (1500 < data.length) || decide (10 ≤ recent.length) then s
    else
      let (s, id) := (s.onEth e (fun p => { p with echoes := s.now :: recent })).ipIdent e
      s.ipSend e 16 sip (s.portTag e) (ipPacket (s.ip e) sip 1 64 0 id 16384 (reply (inetSum (reply 0))))))

/-- An IGMP query is answered while PTP_EN = 1 (Table 27-8). -/
def execIgmpQuery (e : Fin 2) (s : State) : Out := s.runGate (14 + e) (fun s =>
  let q := (s.eth e).inbox.find? (fun m => m.1 = 3)
  let s := match q with | some m => s.onEth e (fun p => { p with inbox := p.inbox.erase m }) | none => s
  .next (if s.get (fEthEn e) = 1 && s.get (fPtpEn e) = 1 then s.igmpSend e 0x16 else s))

/-- A datagram not whole within 100 ms is given up (Table 27-8). -/
def execReassemblyTimeout (e : Fin 2) (id : Nat) (s : State) : Out := s.runGate (14 + e) (fun s =>
  .next (s.onEth e (fun p => { p with reasm := p.reasm.filter (fun r => !(r.id = id && decide (r.at_ + 100 * ms ≤ s.now))) })))

end Sys2Proof.Machine
end

