-- ==== Sys2Proof/Machine/Router.lean ====
section
/-! DEFINITION. Router: route lookup, the injection stage, local delivery, discards and the loss of a port (03, 15). -/

namespace Sys2Proof.Machine

/-- BANK of `FAB_CTL`. -/
def fBank : Fld := ⟨0x21008004, 0, 1⟩
/-- ARM of `FAB_CTL`. -/
def fArm : Fld := ⟨0x21008004, 1, 1⟩
/-- STALL_BRK_EN of `FAB_CTL`. -/
def fStallEn : Fld := ⟨0x21008004, 2, 1⟩
/-- `FAB_EVT`. -/
def aFabEvt : Nat := 0x21008010
/-- DATELINE of `FAB_PORT_n_CFG`. -/
def fDateline (p : Nat) : Fld := ⟨0x21008020 + 4 * p, 0, 1⟩
/-- DIM of `FAB_PORT_n_CFG`. -/
def fDim (p : Nat) : Fld := ⟨0x21008020 + 4 * p, 1, 2⟩
/-- LEVEL of `FAB_TC0_SINK_STAT`. -/
def fSinkLevel : Fld := ⟨0x21008060, 0, 8⟩
/-- LEVEL of `FAB_BULK_POOL_STAT`. -/
def fPool : Fld := ⟨0x21008068, 0, 9⟩
/-- HIGH of `FAB_BULK_POOL_STAT`. -/
def fPoolHigh : Fld := ⟨0x21008068, 16, 9⟩

/-- Entry `d` of the active route bank (R98). -/
def State.route (s : State) (d : Nat) : Nat := (s.reg (0x21009000 + 0x100 * s.get fBank + 4 * (d % 64))).toNat

/-- A port in RETRAIN. -/
def State.retraining (s : State) (p : Nat) : Bool := s.get (fLnkState p) == 5

/-- The port of a parallel pair that a class uses: the other one of the pair when its own is not ACTIVE, its own while
it is in RETRAIN and the other is not ACTIVE, none otherwise (R99, R110). -/
def State.pairPort (s : State) (own other : Nat) (pair : Bool) : Option Nat :=
  if s.active own then some own
  else if pair && s.active other then some other
  else if s.retraining own then some own
  else none

/-- The output that a route entry gives a class: 0 to 5 a port, 7 local delivery; none is unreachable (R98, R99, R110). -/
def State.outOf (s : State) (e tc : Nat) : Option Nat :=
  let port := e % 8
  let alt := bits e 3 3
  let pair := bit e 6 && decide (alt < 6)
  if bit e 15 = false then none
  else if port = 7 then some 7
  else if port = 6 then none
  else if pair && decide (2 ≤ tc) then s.pairPort alt port true else s.pairPort port alt pair

/-- The output of a unicast under the active bank (R98). -/
def State.lookup (s : State) (pk : Packet) : Option Nat := s.outOf (s.route pk.dst) pk.tc

/-- The other port of the parallel pair that an entry names beside a port, when it is ACTIVE (R99, R110). -/
def State.otherPort (s : State) (e p : Nat) : Option Nat :=
  let port := e % 8
  let alt := bits e 3 3
  let other := if port = p then alt else port
  if bit e 15 && bit e 6 && decide (alt < 6) && decide (port < 6) && decide (port = p ∨ alt = p) && decide (other ≠ p) && s.active other then
    some other
  else none

/-- The header as it leaves on a port, with DL updated (R102), and its VC there. -/
def State.dateline (s : State) (pk : Packet) (inPort out : Nat) : Packet × Nat :=
  if 6 ≤ out then (pk, 2 * pk.tc + b2n pk.dl)
  else
    let kept := pk.dl && decide (inPort < 6) && decide (s.get (fDim out) = s.get (fDim inPort))
    let dl := kept || decide (s.get (fDateline out) = 1)
    ({ pk with dl := dl }, 2 * pk.tc + b2n dl)

/-- A packet for this chip's own agents, put in the list of delivered packets (R92 to R97). -/
def State.handOver (s : State) (pk : Packet) : State :=
  { s with fab := { s.fab with delivered := s.fab.delivered ++ [pk] } }

/-- Put a packet in line at an output, with the route entry that its header was looked up with (R111, R114). -/
def State.line (s : State) (pk : Packet) (inPort inVc out entry : Nat) : State :=
  let (h, v) := s.dateline pk inPort out
  { s with fab := { s.fab with
      waiting := s.fab.waiting ++ [{ pk := h, inPort := inPort, inVc := inVc, out := out, vc := v, at_ := s.now, entry := entry, dlIn := pk.dl }] } }

/-- Put a packet that waits at an output in line at another one (R99). -/
def State.reline (s : State) (w : Waiting) (out : Nat) : State := s.line { w.pk with dl := w.dlIn } w.inPort w.inVc out w.entry

/-- The ERR that answers a request (Table 3-2). -/
def errFor (node code : Nat) (pk : Packet) : Packet :=
  { dst := pk.src, src := node, tc := 3, kind := 8, len := 1, nbytes := 2, tag := pk.tag, ten := pk.ten,
    issuer := pk.issuer, data := leBytes 1 code ++ leBytes 1 pk.kind }

/-- Put a packet of this chip in line; one with no live output is discarded, and an answer to this chip itself is handed
over at once. An ERR that finds no output is discarded without another ERR. -/
def State.sendFrom (s : State) (pk : Packet) : State :=
  let pk := { pk with src := s.node, stamp := s.stamp, len := lenOf pk.nbytes, dl := false }
  if pk.dst = s.node then s.handOver pk
  else
    match s.lookup pk with
    | some out => s.line pk 6 0 out (s.route pk.dst)
    | none =>
      let s := (s.bump 0x21008040).event aFabEvt 2
      if isRequest pk.kind then s.handOver (errFor s.node 1 pk) else s

/-- Discard an unreachable packet: count it, and answer a request with ERR 0x01 (R110, R115). -/
def State.unreachable (s : State) (pk : Packet) : State :=
  let s := (s.bump 0x21008040).event aFabEvt 2
  if isRequest pk.kind then s.sendFrom (errFor s.node 1 pk) else s

/-- Copies of a broadcast: the ports of BMASK, then this chip (R98). -/
def State.copies (s : State) (pk : Packet) : List Nat :=
  let e := s.route pk.src
  if bit e 15 then (List.range 6).filter (fun n => bit e (8 + n)) ++ (if bit e 14 then [7] else []) else []

/-- Look a packet up and put it in line, or discard it. A broadcast copy whose port is neither ACTIVE nor in RETRAIN is discarded:
R99 moves a packet by PORT and ALT, which a copy does not have (DESIGN CHOICE, log entry 31). -/
def State.forward (s : State) (pk : Packet) (inPort inVc : Nat) : State :=
  if pk.bcast then
    (s.copies pk).foldl (fun s out =>
      if out = 7 || s.active out || s.retraining out then s.line pk inPort inVc out (s.route pk.src) else s.unreachable pk) s
  else
    match s.lookup pk with
    | some out => s.line pk inPort inVc out (s.route pk.dst)
    | none => s.unreachable pk

/-- Flits of a VC buffer of a port that left it: the total of R78 rises. Input port 6 is the injection stage, which has none. -/
def State.freeFlits (s : State) (p v n : Nat) : State :=
  if 6 ≤ p then s
  else
    let q := s.port p
    s.setPort p { q with freedTotal := q.freedTotal.set v ((q.freedTotal.getD v 0 + n) % 256) }

/-- Two copies of one broadcast flit that stand in one input buffer. -/
def sameCopy (w x : Waiting) : Bool :=
  x.inPort = w.inPort && x.inVc = w.inVc && x.pk.stamp = w.pk.stamp && x.pk.src = w.pk.src && x.pk.bcast && w.pk.bcast && x.pk.data = w.pk.data

/-- Another copy of a broadcast flit still stands in its input buffer. -/
def State.copyLeft (s : State) (w : Waiting) : Bool :=
  s.fab.waiting.any (sameCopy w) ||
  (List.range 6).any (fun p => (s.port p).sending.any (fun x => !x.flits.isEmpty && sameCopy w x.w))

/-- `n` flits of a packet left their input buffer; a broadcast flit leaves with its last copy (R78). -/
def State.leftFlits (s : State) (w : Waiting) (n : Nat) : State :=
  if w.pk.bcast && s.copyLeft w then s else s.freeFlits w.inPort w.inVc n

/-- A packet left its input buffer whole. -/
def State.leftBuffer (s : State) (w : Waiting) : State := s.leftFlits w w.pk.len

/-- One copy of a broadcast flit has been forwarded: the others are begun (R84). -/
def State.markBegun (s : State) (w : Waiting) : State :=
  let mark (x : Waiting) : Waiting := if sameCopy w x then { x with begun := true } else x
  if w.pk.bcast then
    let s := { s with fab := { s.fab with waiting := s.fab.waiting.map mark } }
    (List.range 6).foldl (fun s o =>
      let q := s.port o
      s.setPort o { q with sending := q.sending.map (fun x => { x with w := mark x.w }) }) s
  else s

/-- A packet enters the TC0 sink queue, or is dropped when that is full (R106). -/
def State.intoSink (s : State) (pk : Packet) : State :=
  if s.fab.sink.length < 128 then
    ({ s with fab := { s.fab with sink := s.fab.sink ++ [pk] } }).set fSinkLevel (s.fab.sink.length + 1)
  else ((s.bump 0x21008050).event aFabEvt 0x20).safety 0x11 0

/-- A WRITE_BULK or a MSG (R439). -/
def takesPool (k : Nat) : Bool := k = 1 || k = 3

/-- Entries of the bulk landing pool in use: the bulk packets from other nodes whose header has arrived, that wait for local delivery or
are not yet performed (R439). -/
def State.poolLevel (s : State) : Nat :=
  (List.range 6).foldl (fun n p => n + ((s.port p).pool.filter (fun x => x.2)).length) 0 +
  (s.fab.delivered.filter (fun p => takesPool p.kind && decide (p.src ≠ s.node))).length +
  (s.fab.waiting.filter (fun w => w.out = 7 && takesPool w.pk.kind && decide (w.pk.src ≠ s.node))).length

/-- Show the pool level. -/
def State.showPool (s : State) : State :=
  let n := s.poolLevel
  (s.set fPool n).set fPoolHigh (max n (s.get fPoolHigh))

/-- A packet of a receive buffer that needs an entry of the pool (R439). -/
def State.poolFor (s : State) (v : Nat) (pk : Packet) : Bool := 2 ≤ v && takesPool pk.kind && decide (pk.dst = s.node) && decide (pk.src ≠ s.node)

/-- The header of a packet arrives in a VC of a port: a bulk packet for this chip takes an entry, unless the pool is full (R439, R441). -/
def State.poolHead (s : State) (p v : Nat) (x : Flit) : State :=
  if s.poolFor v (flitsPacket [x]) then
    let q := s.port p
    (s.setPort p { q with pool := q.pool ++ [(v, decide (s.poolLevel < 256))] }).showPool
  else s

/-- Local delivery: a BEACON enters the sink, every other packet goes to the agent it names (R106). -/
def State.deliver (s : State) (pk : Packet) : State := if pk.kind = 9 then s.intoSink pk else s.handOver pk

/-- The age of a STAMP in units of 64 ns, modulo 2^24 (R105). -/
def State.age (s : State) (stamp : Nat) : Nat := (s.stamp + 16777216 - stamp % 16777216) % 16777216

/-- Whether the first packet goes before the second: the older STAMP modulo 2^24, then the lower SRC (R104, R105). -/
def Packet.before (a b : Packet) : Bool :=
  let d := (b.stamp + 16777216 - a.stamp) % 16777216
  decide (0 < d && d < 8388608) || (decide (d = 0) && decide (a.src < b.src))

/-- The first waiting packet that none of the others precedes. -/
def oldest : List Waiting → Option Waiting
  | [] => none
  | w :: ws =>
    match oldest ws with
    | none => some w
    | some x => if x.pk.before w.pk then some x else some w

/-- A waiting packet is discarded and its input buffer freed. -/
def State.dropWaiting (s : State) (w : Waiting) : State :=
  ({ s with fab := { s.fab with waiting := s.fab.waiting.erase w } }).leftBuffer w

/-- LINK_REPORT to the pole: 1 DOWN, 2 SILENT, 3 RESTORED (Table 20-2). -/
def State.linkReport (s : State) (p cause : Nat) : State :=
  s.toPole (beaconBytes 0x31 ([0#8] ++ leBytes 1 p ++ leBytes 1 cause ++ leBytes 1 (s.get (fPeerNode p))) s.ctNs)

/-- EPOCH_FAIL to the pole for epoch `n` of a plan (Table 20-2, R596). -/
def State.epochFail (s : State) (plan n : Nat) : State :=
  s.toPole (beaconBytes 0x30 ([0#8] ++ leBytes 2 plan) n)

/-- One packet whose output went DOWN: the other port of its pair when that is ACTIVE, by the entry it was looked up with, or
discard (R110, R114). A HOP packet has no other port (R91); a broadcast copy has none either (DESIGN CHOICE, log entry 31). -/
def State.portLost (s : State) (p : Nat) (w : Waiting) : State :=
  let s := { s with fab := { s.fab with waiting := s.fab.waiting.erase w } }
  if w.pk.kind = 10 then s.leftBuffer w else
  match (if w.pk.bcast then none else s.otherPort w.entry p) with
  | some out => s.reline w out
  | none => (s.leftBuffer w).unreachable w.pk

/-- What a port that left ACTIVE held for its output: a packet with no flit sent yet is as one that waits; the rest of one that was
being sent is discarded (R110). -/
def State.sendingLost (s : State) (p : Nat) (x : Sending) : State :=
  if x.flits.isEmpty then s
  else if x.whole then s.portLost p x.w
  else (s.leftFlits x.w x.flits.length).unreachable x.w.pk

/-- What stood in the VC buffers of a port that went DOWN and is still on an output (R84): a packet that has begun to leave is
completed, one that has not is discarded. -/
def State.inputLost (s : State) (p : Nat) : State :=
  let own (w : Waiting) : Waiting := if w.inPort = p then { w with inPort := 6 } else w
  let s := { s with fab := { s.fab with waiting := (s.fab.waiting.filter (fun w => w.inPort ≠ p || w.begun)).map own } }
  (List.range 6).foldl (fun s o =>
    let q := s.port o
    s.setPort o { q with sending := q.sending.map (fun x =>
      if x.w.inPort = p && x.whole && !x.w.begun then {} else { x with w := own x.w }) }) s

/-- The router's reaction to the DOWN of a port (R84, R110): what waits in its buffers is discarded, what names it takes
the other port of its pair or is discarded, what it was sending is cut. -/
def State.routerDown (s : State) (p : Nat) (cut : List Sending) : State :=
  let s := s.inputLost p
  let s := (s.fab.waiting.filter (fun w => w.out = p)).foldl (fun s w => s.portLost p w) s
  (cut.foldl (fun s x => if x.w.inPort = p then s else s.sendingLost p x) s).showPool

end Sys2Proof.Machine
end

