-- ==== Sys2Proof/Machine/Txn.lean ====
section
/-! DEFINITION. Txn: tags, bulk credit and transactions in flight (R93 to R97, R440), and free values. -/

namespace Sys2Proof.Machine

/-- A tag of an issuer is in use: in flight or in quarantine (R96). -/
def State.tagUsed (s : State) (issuer tag : Nat) : Bool :=
  s.fab.txns.any (fun t => t.issuer = issuer && t.tag = tag) || s.fab.quarantine.any (fun q => q.issuer = issuer && q.tag = tag)

/-- The first free tag from `t`, trying `n` tags in rising order modulo 1,024. Table 3-1 says only that the issuer chooses its tags: it
takes the next free one above the last (DESIGN CHOICE, log entry 31). -/
def State.freeTag (s : State) (issuer t : Nat) : Nat → Option Nat
  | 0 => none
  | n + 1 => if s.tagUsed issuer (t % 1024) then s.freeTag issuer (t + 1) n else some (t % 1024)

/-- WRITE_BULK and MSG in flight to a node (R440). -/
def State.bulkCount (s : State) (node : Nat) : Nat := tblGet (fun _ => 0) s.fab.bulk node

/-- The state with the bulk count of a node replaced. -/
def State.setBulk (s : State) (node n : Nat) : State :=
  { s with fab := { s.fab with bulk := tblSet (fun _ => 0) s.fab.bulk node n } }

/-- A request that holds bulk credit: WRITE_BULK or MSG to another node (R440). -/
def State.needsBulk (s : State) (pk : Packet) : Bool := takesPool pk.kind && decide (pk.dst ≠ s.node)

/-- Issue a request at once, if a tag and the bulk credit it needs are free (R96, R440). -/
def State.tryIssue (s : State) (pk : Packet) (use : TxnUse) : Option State :=
  match s.freeTag pk.issuer (tblGet (fun _ => 0) s.fab.nextTag pk.issuer) 1024 with
  | none => none
  | some tag =>
    if s.needsBulk pk && decide (4 ≤ s.bulkCount pk.dst) then none
    else
      let pk := { pk with tag := tag, src := s.node, tc := 2, len := lenOf pk.nbytes }
      let s := if s.needsBulk pk then s.setBulk pk.dst (s.bulkCount pk.dst + 1) else s
      let s := { s with fab := { s.fab with
        txns := s.fab.txns ++ [({ issuer := pk.issuer, tag := tag, pk := pk, since := s.now, use := use } : Txn)],
        nextTag := tblSet (fun _ => 0) s.fab.nextTag pk.issuer ((tag + 1) % 1024) } }
      some (s.sendFrom pk)

/-- Writes that leave in the order of their issue wherever they go: the notes of a core (R204), and its SIGNALs (R223). -/
def inOrder : TxnUse → TxnUse → Bool
  | .note c _, .note d _ => c = d
  | .signal c _, .signal d _ => c = d
  | _, _ => false

/-- A waiting transaction that a later one of the same issuer may not pass: one to the same node, or one of the same ordered
writes. -/
def TagWait.holds (w x : TagWait) : Bool := w.pk.issuer = x.pk.issuer && (w.pk.dst = x.pk.dst || inOrder w.use x.use)

/-- A transaction may not leave yet: behind a waiting one, or, a SIGNAL, before those that its core issued earlier are performed (R223). -/
def State.mustWait (s : State) (w : TagWait) : Bool :=
  s.fab.tagWait.any (fun x => x.holds w) ||
    (match w.use with
    | .signal _ _ => s.fab.txns.any (fun x => inOrder x.use w.use)
    | _ => false)

/-- A waiting transaction counts each of its waits once: for a tag (R96), and for bulk credit (R440). -/
def State.countWait (s : State) (w : TagWait) : State × TagWait :=
  if (s.freeTag w.pk.issuer (tblGet (fun _ => 0) s.fab.nextTag w.pk.issuer) 1024).isNone then
    (if w.tagged then s else s.bump 0x21008074, { w with tagged := true })
  else if s.needsBulk w.pk && decide (4 ≤ s.bulkCount w.pk.dst) then
    (if w.bulked then s else s.bump 0x21008064, { w with bulked := true })
  else (s, w)

/-- A transaction joins the waiting ones. -/
def State.waits (s : State) (w : TagWait) : State :=
  let r := s.countWait w
  { r.1 with fab := { r.1.fab with tagWait := r.1.fab.tagWait ++ [r.2] } }

/-- Issue a request, or let it wait for a tag or for bulk credit behind the waiting ones of its issuer (R96, R440). -/
def State.issue (s : State) (pk : Packet) (use : TxnUse) : State :=
  let w : TagWait := { pk := pk, use := use }
  if s.mustWait w then s.waits w
  else
    match s.tryIssue pk use with
    | some t => t
    | none => s.waits w

/-- Issue what waits and now can be issued, in order. -/
def State.pump (s : State) : State :=
  s.fab.tagWait.foldl (fun s w =>
    if s.mustWait w then s.waits w
    else
      match s.tryIssue w.pk w.use with
      | some t => t
      | none => s.waits w) { s with fab := { s.fab with tagWait := [] } }

/-- End a transaction with its response: the tag is free and the bulk credit returns (R96, R440). -/
def State.endTxn (s : State) (t : Txn) : State :=
  let s := { s with fab := { s.fab with txns := s.fab.txns.erase t } }
  let s := if s.needsBulk t.pk then s.setBulk t.pk.dst (s.bulkCount t.pk.dst - 1) else s
  s.pump

/-- End a transaction locally: its tag stays unused for 1 ms, and its bulk credit returns with the tag (R95, R440). -/
def State.quarantineTxn (s : State) (t : Txn) : State :=
  let q : Quarantine :=
    { issuer := t.issuer, tag := t.tag, until_ := s.now + ms, bulk := if s.needsBulk t.pk then some t.pk.dst else none }
  { s with fab := { s.fab with txns := s.fab.txns.erase t, quarantine := s.fab.quarantine ++ [q] } }

/-- Take `n` random bytes (22). -/
def State.random (s : State) (n : Nat) : State × List Byte :=
  ({ s with free := s.free + 1 }, (List.range n).map (Config.randomByte s.free))

/-- Take a value that the spec leaves open. -/
def State.freeNat (s : State) : State × Nat := ({ s with free := s.free + 1 }, Config.freeValue s.free)

end Sys2Proof.Machine
end

