-- ==== Sys2Proof/Machine/Events.lean ====
section
/-! DEFINITION. Events: messages that leave through the mailboxes of this chip or of an entry chip, and the events of the
pole (17). -/

namespace Sys2Proof.Machine

/-- HMAC-SHA-256, cut to its 32 bytes. -/
def hmac (key msg : List Byte) : List Byte := fit 32 (Config.hmacSha256 key msg)

/-- A KMP message: header, payload and, under a session key, its tag (Table 17-5, R497, R502). -/
def kmpMessage (flags code sidRole seq : Nat) (payload : List Byte) (key : Option (List Byte)) : List Byte :=
  let flags := if key.isSome then flags ||| 8 else flags
  let head := leBytes 1 1 ++ leBytes 1 flags ++ leBytes 2 code ++ leBytes 2 sidRole ++ leBytes 2 seq ++ leBytes 4 payload.length
  let tag := match key with
    | some k => (hmac k (head ++ payload)).take 16
    | none => []
  head ++ leBytes 4 (crc32c (head ++ payload ++ tag)).toNat ++ payload ++ tag

/-- Fragments of a relayed message: at most 512 bytes each (R494). -/
def fragments (m : List Byte) : List (List Byte) :=
  (List.range ((m.length + 511) / 512)).map (fun i => (m.drop (512 * i)).take 512)

/-- Send the next fragment of a relay as an MSG to the path-3 mailbox of its destination (R494). -/
def State.relaySend (s : State) (r : Relay) : State :=
  match r.rest with
  | [] => s
  | f :: _ =>
    s.issue { dst := r.dst, kind := 3, nbytes := f.length, issuer := 13, ten := 7, addr := 0x26001000 + 0x100 * r.mb, data := f }
      (.relay r.id)

/-- Start the first waiting relay of a destination that has none in progress (R495). -/
def State.relayNext (s : State) (dst : Nat) : State :=
  if s.kmp.relays.any (fun r => r.dst = dst && r.sent.isSome) then s
  else
    match s.kmp.relays.find? (fun r => r.dst = dst) with
    | none => s
    | some r =>
      let r' := { r with sent := some s.now }
      ({ s with kmp := { s.kmp with relays := s.kmp.relays.map (fun (x : Relay) => if x.id = r.id then r' else x) } }).relaySend r'

/-- Relay a message to a mailbox of another node's path 3 (R494, R495). -/
def State.relay (s : State) (dst mb : Nat) (m : List Byte) (path : Nat) (isCmd : Bool) : State :=
  let r : Relay := { id := s.kmp.nextRelay, dst := dst, mb := mb, rest := fragments m, path := path, head := m.take 16, isCmd := isCmd }
  ({ s with kmp := { s.kmp with relays := s.kmp.relays ++ [r], nextRelay := s.kmp.nextRelay + 1 } }).relayNext dst

/-- Send a response or an event to the host path and entry chip it belongs to (R488, R494): false when it is dropped. -/
def State.sendOut (s : State) (path entry mb peer : Nat) (m : List Byte) : State × Bool :=
  if entry = s.node then s.placeOut path mb peer m
  else (s.relay entry mb m path false, true)

/-- A session takes events that concern tenant `ten` (R526): operators all, tenants their own and those of groups 1 and 2. -/
def Session.takes (x : Session) (code : Nat) (ten : Option Nat) : Bool :=
  let g := code / 256 % 16
  x.opened && bit x.mask g && (x.role = 4 || ten == some x.role || (ten.isNone && (g = 1 || g = 2)))

/-- The event message of a session, with the CT and the node of the event (R526, Table 17-6): its flag bit 5 says that an event before it was lost (R527). -/
def State.eventMsg (x : Session) (ct code at_ : Nat) (data : List Byte) : List Byte :=
  kmpMessage (2 + if x.lost then 32 else 0) code (x.sid + 4096 * x.role) ((x.evSeq + 1) % 65536)
    (leBytes 8 ct ++ leBytes 1 at_ ++ leBytes 3 0 ++ data) (some x.key)

/-- The event counts of a session when an event leaves (R527). -/
def State.eventSent (s : State) (x : Session) : State :=
  { s with kmp := { s.kmp with sessions := s.kmp.sessions.map (fun (y : Session) =>
      if y.sid = x.sid then { y with evSeq := (x.evSeq + 1) % 65536, lost := false } else y) } }

/-- Deliver an event to one session: one that finds no place is dropped (R527). -/
def State.deliverOne (s : State) (x : Session) (ct code at_ : Nat) (data : List Byte) : State :=
  let m := State.eventMsg x ct code at_ data
  let r := (s.eventSent x).sendOut x.path x.entry 2 x.peer m
  if r.2 then r.1 else r.1.eventLost x.path m

/-- Deliver an event of an instant `ct` to the sessions that take it and that `f` selects, at the pole (R526, R527). -/
def State.deliverAt (s : State) (f : Nat → Bool) (ct code at_ : Nat) (data : List Byte) (ten : Option Nat) : State :=
  s.kmp.sessions.foldl (fun s x => if x.takes code ten && f x.sid then s.deliverOne x ct code at_ data else s) s

/-- Deliver an event that arises now. -/
def State.deliverTo (s : State) (f : Nat → Bool) (code at_ : Nat) (data : List Byte) (ten : Option Nat) : State :=
  s.deliverAt f s.ctNs code at_ data ten

/-- Deliver an event to the sessions that take it, at the pole (R526, R527). -/
def State.deliverEvent (s : State) (code at_ : Nat) (data : List Byte) (ten : Option Nat) : State :=
  s.deliverTo (fun _ => true) code at_ data ten

/-- A chip other than the pole reports an event: 1 more than the tenant that it concerns, the prefix of Table 17-6, its data (log entry
48). -/
def State.reportEvent (s : State) (code : Nat) (data : List Byte) (ten : Option Nat) : State :=
  match s.loss.pole with
  | some q => s.emit (.order q code (leBytes 1 (match ten with | some t => t + 1 | none => 0) ++ leBytes 8 s.ctNs ++ leBytes 1 s.node ++ leBytes 3 0 ++ data))
  | none => s

/-- An event arises on this chip: the pole delivers it, any other chip reports it to the pole (R526, R527). -/
def State.kmpEvent (s : State) (code : Nat) (data : List Byte) (ten : Option Nat) : State :=
  if s.executes then s.deliverEvent code s.node data ten
  else s.reportEvent code data ten

end Sys2Proof.Machine
end

