-- ==== Sys2Proof/Machine/Palette.lean ====
section
/-! DEFINITION. Palette: regions, fences, palette accesses and their faults, parity, bank power, write windows and the
tenant clear (05), with the lock rules of R652 and R775. -/

namespace Sys2Proof.Machine

/-- Who makes an access: its TEN and its source node (R650). -/
structure Who where
  ten : Nat
  src : Nat
  deriving DecidableEq, Repr

/-- This chip's firmware as the source of an access. -/
def State.firmware (s : State) : Who := { ten := 7, src := s.node }

/-- Palette registers of a core (R179). -/
def palReg (c off : Nat) : Nat := 0x10F00000 + 0x1000000 * c + off
/-- `PAL_EVT`. -/
def aPalEvt (c : Nat) : Nat := palReg c 0x14
/-- Registers of a region: 0 BASE, 1 SIZE, 2 CFG. -/
def aRgn (c r w : Nat) : Nat := palReg c (0x100 + 0x10 * r + 4 * w)
/-- Registers of a window: 0 BASE, 1 CFG, 2 GRANTED, 3 RELEASED, 4 WANT, 5 REL. -/
def aWin (c w k : Nat) : Nat := palReg c (0x200 + 0x20 * w + 4 * k)

/-- The decoded registers of a region (Table 5-2). -/
structure Rgn where
  base : Nat
  size : Nat
  en : Bool
  group : Nat
  first : Nat
  plog : Nat
  hash : Bool
  tenant : Nat
  retain : Bool
  weights : Bool
  rowBase : Nat
  lock : Bool
  deriving DecidableEq, Repr

/-- Fields of a region from its three words. -/
def rgnOf (base size cfg : Nat) : Rgn :=
  { base := base % 4194304, size := size % 4194304, en := bit cfg 0, group := bits cfg 1 1, first := bits cfg 2 3,
    plog := bits cfg 5 2, hash := bit cfg 7, tenant := bits cfg 8 3, retain := bit cfg 11, weights := bit cfg 12,
    rowBase := bits cfg 16 11, lock := bit cfg 31 }

/-- A region of a core. -/
def State.rgn (s : State) (c r : Nat) : Rgn :=
  rgnOf (s.reg (aRgn c r 0)).toNat (s.reg (aRgn c r 1)).toNat (s.reg (aRgn c r 2)).toNat

/-- Banks of a region. -/
def Rgn.nb (r : Rgn) : Nat := 2 * 2 ^ r.plog
/-- Rows that a region uses in each bank. -/
def Rgn.rows (r : Rgn) : Nat := r.size / (64 * r.nb)
/-- First bank pair, 0 to 15. -/
def Rgn.pair0 (r : Rgn) : Nat := 8 * r.group + r.first
/-- Bank pairs used. -/
def Rgn.pairs (r : Rgn) : Nat := 2 ^ r.plog

/-- An address lies in an enabled region (R156). -/
def Rgn.holds (r : Rgn) (a : Nat) : Bool := r.en && decide (r.base ≤ a) && decide (a < r.base + r.size)

/-- Bank, row and byte within the row that a region maps an address to (R156). -/
def Rgn.map (r : Rgn) (a : Nat) : Nat × Nat × Nat :=
  let x := a - r.base
  let l := x / 64
  let q := l / r.nb
  let i := l % r.nb
  let i := if r.hash then i ^^^ (q % r.nb) ^^^ (q / r.nb % r.nb) else i
  (16 * r.group + 2 * r.first + i, r.rowBase + q, x % 64)

/-- The key of a palette byte. -/
def palKey (c bank row b : Nat) : Nat := c * 4194304 + bank * 98304 + row * 64 + b

/-- The enabled region that holds an address: its number. -/
def State.rgnAt (s : State) (c a : Nat) : Option Nat := (List.range 8).find? (fun r => (s.rgn c r).holds a)

/-- The key of the byte that an address names, if a region holds it. -/
def State.palKeyOf (s : State) (c a : Nat) : Option Nat :=
  (s.rgnAt c a).map (fun r => let (b, row, x) := (s.rgn c r).map a; palKey c b row x)

/-- Registers of a tenant's fence (Table 22-13). -/
def aFence (t off : Nat) : Nat := 0x25000400 + 0x40 * t + off

/-- A fence register as packets meet it: in the cycle of a write, as it was before the write (R659). -/
def State.fenceWord (s : State) (a : Nat) : Word :=
  if s.sec.fenceAt = s.now then
    match tblGet (fun _ => none) (s.sec.fenceOld.map (fun e => (e.1, some e.2))) a with
    | some w => w
    | none => s.reg a
  else s.reg a

/-- Fence `t` is ACTIVE and lets a node carry the tenant's traffic (R648, R650). -/
def State.fenceOpen (s : State) (t src : Nat) : Bool :=
  bit (s.fenceWord (aFence t 0)).toNat 0 &&
    (src = s.node || bit ((s.fenceWord (aFence t 4)).toNat + 4294967296 * (s.fenceWord (aFence t 8)).toNat) src)

/-- A chip-local span lies in a RES span of fence `t` (R650). -/
def State.inRes (s : State) (t a n : Nat) : Bool :=
  (List.range 4).any (fun k =>
    let b := (s.fenceWord (aFence t (0x10 + 8 * k))).toNat
    decide (b ≤ a) && decide (a + n ≤ b + (s.fenceWord (aFence t (0x14 + 8 * k))).toNat))

/-- The core's clear engine is busy with a tenant (R176). -/
def State.clearing (s : State) (c t : Nat) : Bool :=
  match tblGet (fun _ => none) s.mem.clear c with
  | some k => k.tenant = t || k.all || k.also.contains t
  | none => false

/-- Whether a region lets an access through (Table 22-10); `a` and `n` are the palette span, for the RES spans. -/
def State.mayReach (s : State) (who : Who) (c : Nat) (r : Rgn) (write : Bool) (a n : Nat) : Bool :=
  !(s.clearing c r.tenant) &&
  (if who.ten = 7 then
    write || decide (3 < r.tenant) || bit (s.fenceWord (aFence r.tenant 0)).toNat 1 || r.weights ||
      s.inRes r.tenant (0x10000000 + 0x1000000 * c + a) n
  else decide (who.ten = r.tenant) && s.fenceOpen r.tenant who.src)

/-- The pair of a bank is powered, ready and has no bad bank (R159, R168). -/
def State.pairReady (s : State) (c bank : Nat) : Bool := bit (s.reg (palReg c 0xC)).toNat (bank / 2)

/-- Neither bank of the pair is bad (R168). -/
def State.pairGood (s : State) (c bank : Nat) : Bool := bits (s.reg (palReg c 0x10)).toNat (bank / 2 * 2) 2 == 0

/-- The fault of one line's access: 0 none, 2 address, 3 fence, 9 address by a pair that is not ready (R159, R650). -/
def State.palLine (s : State) (who : Who) (wide write : Bool) (c a n : Nat) : Nat :=
  match s.rgnAt c a with
  | none => 2
  | some i =>
    let r := s.rgn c i
    let (bank, _, _) := r.map a
    if s.mayReach who c r write a n = false then 3
    else if wide && decide (r.group = 1) then 2
    else if s.pairReady c bank = false then 9
    else if s.pairGood c bank = false then 2
    else 0

/-- The first address of each line that a span touches. -/
def lines (a n : Nat) : List Nat := (List.range ((a % 64 + n + 63) / 64)).map (fun i => if i = 0 then a else (a / 64 + i) * 64)

/-- Check a palette span: 0 performs, 2 is an address fault, 3 a fence fault (R159); an access to a pair that is not ready
sets PWR_FAULT. -/
def State.palCheck (s : State) (who : Who) (wide write : Bool) (c a n : Nat) : State × Nat :=
  let n := max n 1
  match (lines a n).findSome? (fun l => let f := s.palLine who wide write c l (min n (64 - l % 64)); if f = 0 then none else some f) with
  | none => (s, 0)
  | some 9 => (s.event (aPalEvt c) 0x100, 2)
  | some f => (s, f)

/-- The bytes of a palette span, zero outside every region. -/
def State.palBytes (s : State) (c a n : Nat) : List Byte :=
  (List.range n).map (fun i => match s.palKeyOf c (a + i) with | some k => tblGet byteZero s.mem.pal k | none => 0#8)

/-- Write bytes to a palette span with good parity (R154, R164). -/
def State.palPut (s : State) (c a : Nat) : List Byte → State
  | [] => s
  | b :: bs =>
    let s := match s.palKeyOf c a with
      | some k => { s with mem := { s.mem.mended k (k + 1) with pal := tblSet byteZero s.mem.pal k b } }
      | none => s
    s.palPut c (a + 1) bs

/-- A byte of a palette span gives a parity error now: its address is in an enabled region. -/
def State.palBad (s : State) (c a : Nat) : Bool :=
  match s.palKeyOf c a with | some k => s.mem.byteBad k | none => false

/-- The parity error of a word is stored: its re-read fails too (R166). -/
def State.palStored (s : State) (c w : Nat) : Bool :=
  (List.range 4).any (fun i => match s.palKeyOf c (w + i) with | some k => s.mem.badPar.contains k | none => false)

/-- Mark a bank bad (R168): class B of mechanism 0x0B, so that the chip reports itself lost. -/
def State.bankBad (s : State) (c bank : Nat) : State :=
  let a := palReg c 0x10
  ((s.setReg a (s.reg a ||| BitVec.ofNat 32 (2 ^ bank))).event (aPalEvt c) 8).safety 0x0B (0x100 + bank)

/-- Words of a core that wait for their classification (R166). -/
def State.rereads (s : State) (c : Nat) : List (Nat × Bool) := tblGet (fun _ => []) s.mem.reread c

/-- Record one parity error of a bank (R165, R166, R168): it is captured with STORED = 0, and the re-read of the next cycle tells whether
it is stored. `addr` is what `PAL_PERR_ADDR` shows; `agent`, `step` and `attempt` are those of Table 5-7. -/
def State.perrRecord (s : State) (c bank addr agent step attempt : Nat) (stored : Bool) : State :=
  let s := (s.event (aPalEvt c) 4).bump (palReg c 0x2C)
  let s := s.setReg (palReg c 0x30) (BitVec.ofNat 32 addr)
  let s := s.setReg (palReg c 0x34) (BitVec.ofNat 32 (bank + 32 * agent + 512 * attempt + 65536 * (step % 65536)))
  let times := (s.now :: tblGet (fun _ => []) s.mem.perrs (32 * c + bank)).take 4
  let s := { s with mem := { s.mem with
    perrs := tblSet (fun _ => []) s.mem.perrs (32 * c + bank) times
    reread := tblSet (fun _ => []) s.mem.reread c ((addr, stored) :: s.rereads c) } }
  let s := s.safety 0x0B bank
  if times.length = 4 && decide (s.now - times.getD 3 0 < 1000 * ms) then s.bankBad c bank else s

/-- One parity error of a read (R165). A word that another agent has read in the same cycle is served by the one re-read and counted
once (R180). -/
def State.parityError (s : State) (c a agent step attempt : Nat) : State :=
  let w := a / 4 * 4
  match s.rgnAt c a with
  | none => s
  | some i =>
    if (s.rereads c).any (fun r => r.1 = w) then s
    else s.perrRecord c ((s.rgn c i).map a).1 w agent step attempt (s.palStored c w)

/-- The re-reads of the next cycle (R166): STORED is set where the captured word fails again, and a transient error is gone. -/
def State.rereadAll (s : State) : State :=
  let s := (List.range 8).foldl (fun s c => match s.rereads c with
    | (_, true) :: _ => s.setReg (palReg c 0x34) (s.reg (palReg c 0x34) ||| 0x100#32)
    | _ => s) s
  { s with mem := { s.mem with reread := [], flips := [] } }

/-- Read a palette span: the bytes, and whether a word of it has a parity error (R164, R165). One error is counted per word; an error
that will prove stored is captured last. -/
def State.palRead (s : State) (c a n agent step attempt : Nat) : State × List Byte × Bool :=
  let bad := (((List.range n).filter (fun i => s.palBad c (a + i))).map (fun i => (a + i) / 4 * 4)).eraseDups
  let ordered := bad.filter (fun w => !s.palStored c w) ++ bad.filter (s.palStored c)
  (ordered.foldl (fun s w => s.parityError c w agent step attempt) s, s.palBytes c a n, !bad.isEmpty)

/-- The control complex writes through the fabric ingress: an access that faults is discarded (R152, R159). -/
def State.ingressPut (s : State) (c a : Nat) (bs : List Byte) : State :=
  match s.palCheck s.firmware false true c a bs.length with
  | (t, 0) => t.palPut c a bs
  | (t, _) => t

/-- The control complex reads through the fabric ingress: the bytes, or none where the access faults or the data is poisoned (R152,
R164). The rules name no step or attempt for the ingress: index 0xFFFF, as R161 gives it, and attempt 1 (DEDUCED, log entry 34). -/
def State.ingressGet (s : State) (c a n : Nat) : State × Option (List Byte) :=
  match s.palCheck s.firmware false false c a n with
  | (t, 0) => let r := t.palRead c a n 2 0xFFFF 1; (r.1, if r.2.2 then none else some r.2.1)
  | (t, _) => (t, none)

/-! ## Locked and write-once registers -/

/-- The safety set of a chip (R624). -/
def safetySet : List Nat := [0x24000010, 0x24000030, 0x23000084, 0x24002000, 0x240000A0]

/-- Record a violation of R652; one of the safety set raises code 0x17 (R624). -/
def State.violation (s : State) (who : Who) (a : Nat) (v : Word) : State :=
  let s := s.bump 0x25000020
  let s := if safetySet.contains a then s.safety 0x17 (a % 65536) else s
  if s.reg 0x25000010 = 0#32 then
    (((s.setReg 0x25000010 1#32).setReg 0x25000014 (BitVec.ofNat 32 a)).setReg 0x25000018 v).setReg 0x2500001C
      (BitVec.ofNat 32 (who.ten + 256 * who.src))
  else s

/-- WO1 bits of a register that have been written since reset or release; those that this very cycle makes writable count (R653). -/
def State.wrote (s : State) (a : Nat) : Word := tblGet wordZero s.written a ||| s.retaken a

/-- Write a register by the access codes of its fields (Table 0-2, R10, R652, R775). `lock` says that its RWL fields are
locked. A W1C bit that hardware set in this very cycle stays set (R14). A reserved address ignores the write (R11). -/
def State.putReg (s : State) (who : Who) (lock : Bool) (a : Nat) (v : Word) : State :=
  match regFind a with
  | none => s
  | some d =>
    let m (x : Nat) : Word := BitVec.ofNat 32 x
    let old := s.reg a
    let alone := d.ro = 0 && d.rw = 0 && d.w1c = 0 && d.wo = 0
    let only1 := alone && d.rwl = 0 && decide (d.wo1 ≠ 0)
    let onlyL := alone && d.wo1 = 0 && decide (d.rwl ≠ 0)
    let set1 := if only1 then m d.wo1 else if v &&& m d.wo1 = m d.reset &&& m d.wo1 then 0#32 else m d.wo1
    let bad1 := decide (set1 &&& s.wrote a ≠ 0#32)
    let badL := lock && (onlyL || decide (v &&& m d.rwl ≠ old &&& m d.rwl))
    let plain := m d.rw ||| (if lock then 0#32 else m d.rwl)
    let put1 := if bad1 then 0#32 else set1
    let new := (old &&& ~~~ (plain ||| put1 ||| (m d.w1c &&& v &&& ~~~ s.justRaised a))) ||| (v &&& (plain ||| put1))
    let s := { (s.setReg a new) with written := tblSet wordZero s.written a (tblGet wordZero s.written a ||| put1) }
    if bad1 || badL then s.violation who a v else s

/-- A fence register is written: packets of this cycle meet it as it was (R659). -/
def State.fencePut (s : State) (who : Who) (a : Nat) (v : Word) : State :=
  if (regFind a).isNone then s
  else
  let olds := if s.sec.fenceAt = s.now then s.sec.fenceOld else []
  let olds := if olds.any (fun e => e.1 = a) then olds else olds ++ [(a, s.reg a)]
  let t := s.putReg who false a v
  { t with sec := { t.sec with fenceOld := olds, fenceAt := s.now } }

/-! ## Regions -/

/-- Two enabled regions share a bank pair. -/
def Rgn.sharesPair (r q : Rgn) : Bool := decide (r.pair0 < q.pair0 + q.pairs) && decide (q.pair0 < r.pair0 + r.pairs)

/-- The first failing check of Table 5-3, causes 1 to 6; 0 when all hold. `others` are the other enabled regions. -/
def rgnCause (r : Rgn) (others : List Rgn) : Nat :=
  if r.size = 0 || decide (r.size % (64 * r.nb) ≠ 0) || decide (0x400000 < r.base + r.size) then 1
  else if decide (8 < r.first + r.pairs) || (decide (4 ≤ r.tenant) && decide (r.tenant ≤ 6)) then 2
  else if decide (1536 < r.rowBase + r.rows) then 3
  else if others.any (fun q => decide (r.base < q.base + q.size) && decide (q.base < r.base + r.size)) then 4
  else if others.any (fun q => r.sharesPair q && decide (r.rowBase < q.rowBase + q.rows) && decide (q.rowBase < r.rowBase + r.rows)) then 5
  else if others.any (fun q => r.sharesPair q && decide (r.tenant ≠ q.tenant)) then 6
  else 0

/-- Raise a region error (R157). -/
def State.rgnErr (s : State) (c r cause : Nat) : State :=
  (s.event (aPalEvt c) 0x10).setReg (palReg c 0x18) (BitVec.ofNat 32 (r + 16 * cause))

/-- A write of one of a region's registers (R157, R158, R652, R775): 0 BASE, 1 SIZE, 2 CFG. -/
def State.rgnWrite (s : State) (who : Who) (c r w : Nat) (v : Word) : State :=
  let a := aRgn c r w
  let old := s.reg a
  let g := s.rgn c r
  if w < 2 then
    let m : Word := if w = 0 then 0x3FFFC0#32 else 0x3FFFFF#32
    let s := if g.en && decide (v &&& m ≠ old) then s.rgnErr c r 7 else s
    if g.lock then s.violation who a v else if g.en then s else s.setReg a (v &&& m)
  else
    let rest : Word := 0x7FF1FFE#32
    let wantEn := bit v.toNat 0
    let again := (s.retaken a).getLsbD 31 && bit v.toNat 31
    let wantLock := bit v.toNat 31 && !again
    let viol := again || (g.lock && (decide (v &&& rest ≠ old &&& rest) || decide (wantEn ≠ g.en))) || (g.lock && wantLock)
    let s := if g.en && decide (v &&& rest ≠ old &&& rest) then s.rgnErr c r 7 else s
    let fields := if g.en || g.lock then old &&& rest else v &&& rest
    let others := ((List.range 8).filter (fun q => q ≠ r && (s.rgn c q).en)).map (s.rgn c)
    let cause := if !g.lock && !g.en && wantEn then
        rgnCause (rgnOf (s.reg (aRgn c r 0)).toNat (s.reg (aRgn c r 1)).toNat (fields ||| 1#32).toNat) others
      else 0
    let s := if cause = 0 then s else s.rgnErr c r cause
    let en := if g.lock then g.en else wantEn && cause = 0
    let new := fields ||| (if en then 1#32 else 0#32) ||| (if g.lock || wantLock then 0x80000000#32 else 0#32)
    let s := s.setReg a new
    if viol then s.violation who a v else s

/-- A region register is written (R157, R158). -/
def execPalRgnWrite (c r : Fin 8) (w : Fin 3) (v : Word) (s : State) : Out := s.runGate c (fun s => .next (s.rgnWrite s.firmware c r w v))

/-! ## Bank power -/

/-- Key range of one bank of a core. -/
def bankLo (c bank : Nat) : Nat := palKey c bank 0 0

/-- Zero rows of a bank with good parity; a bank has 1,536 rows (R149). -/
def MemState.zeroRows (m : MemState) (c bank row n : Nat) : MemState :=
  let lo := palKey c bank row 0
  let n := if bank < 32 then min n (1536 - row) else 0
  { m.mended lo (lo + 64 * n) with pal := tblClear m.pal lo (lo + 64 * n) }

/-- Zero a bank pair. -/
def MemState.zeroPair (m : MemState) (c pair : Nat) : MemState :=
  (m.zeroRows c (2 * pair) 0 1536).zeroRows c (2 * pair + 1) 0 1536

/-- Power pairs on or off (R169): the new `PAL_BANK_PWR` of a core. -/
def State.bankPower (s : State) (c : Nat) (new : Nat) : State :=
  let old := (s.reg (palReg c 8)).toNat
  let s := s.setReg (palReg c 8) (BitVec.ofNat 32 (new % 65536))
  (List.range 16).foldl (fun s p =>
    if bit new p = bit old p then s
    else if bit new p then
      { s with mem := { s.mem with pairUp := tblSet (fun _ => none) s.mem.pairUp (16 * c + p) (some s.now) } }
    else
      let s := s.setReg (palReg c 0xC) (s.reg (palReg c 0xC) &&& ~~~ BitVec.ofNat 32 (2 ^ p))
      { s with mem := { s.mem.zeroPair c p with pairUp := tblSet (fun _ => none) s.mem.pairUp (16 * c + p) none } }) s

/-- `PAL_BANK_PWR` is written (R169). -/
def execPalBankPwrWrite (c : Fin 8) (v : Word) (s : State) : Out := s.runGate c (fun s => .next (s.bankPower c v.toNat))

/-- A pair finishes its power-up and automatic clear: 2 us and 24,576 CORE_CLK cycles (R169). -/
def execPairReady (c : Fin 8) (pair : Fin 16) (s : State) : Out := s.run (fun s =>
  .next (
    match tblGet (fun _ => none) s.mem.pairUp (16 * c.val + pair.val) with
    | some t =>
      if t + 2 * us + 24576 * 8 ≤ s.now then
        let s := s.setReg (palReg c 0xC) (s.reg (palReg c 0xC) ||| BitVec.ofNat 32 (2 ^ pair.val))
        { s with mem := { s.mem.zeroPair c pair with pairUp := tblSet (fun _ => none) s.mem.pairUp (16 * c.val + pair.val) none } }
      else s
    | none => s))

/-- A collision with the step that its narrow agent serves (R161). -/
def State.collision (s : State) (c step : Nat) : State :=
  ((s.bump (palReg c 0x20)).event (aPalEvt c) 1).setReg (palReg c 0x24) (BitVec.ofNat 32 (0x80000000 + step % 65536))

/-- A narrow request has waited 64 cycles and displaces the wide port of its bank: a collision (R161, R162). `step` is the
step that the narrow agent serves, 0xFFFF for the fabric ingress. -/
def execNarrowDisplace (c : Fin 8) (_b : Fin 16) (step : Nat) (s : State) : Out := s.runGate c (fun s => .next (s.collision c step))

/-- What the wide ports of a core's tensor operations met (R161, R163): the model has no bank cycles, so how often they met one bank and how
often a narrow request lost to them are free values, and so is the step of the last collision. They count in every cycle of the control
clock in which an operation is in flight, and at its completion (log entry 34). Each conflict stalls the arrays for a cycle, which
`TNS_STALL_CNT` counts (R249). -/
def State.wideLedger (s : State) (c : Nat) : State :=
  let (x, lost, step) := (Config.freeValue s.free, Config.freeValue (s.free + 1), Config.freeValue (s.free + 2))
  let s := { s with free := s.free + 3 }
  let s := if x = 0 then s else ((s.bumpBy (palReg c 0x28) x).bumpBy (0x10F03010 + 0x1000000 * c) x).event (aPalEvt c) 2
  if lost = 0 then s else (s.bumpBy (palReg c 0x20) (lost - 1)).collision c step

/-! ## Write windows -/

/-- Size of a window in units of 32 bytes (Table 5-5). -/
def State.winUnits (s : State) (c w : Nat) : Nat := 2 ^ (bits (s.reg (aWin c w 1)).toNat 1 5) / 32
/-- The window is open. -/
def State.winOpen (s : State) (c w : Nat) : Bool := bit (s.reg (aWin c w 1)).toNat 0
/-- Its producer node. -/
def State.winProducer (s : State) (c w : Nat) : Nat := bits (s.reg (aWin c w 1)).toNat 6 6
/-- Units granted and not released. -/
def State.winHeld (s : State) (c w : Nat) : Nat := (s.reg (aWin c w 2) - s.reg (aWin c w 3)).toNat
/-- AVAIL of a window. -/
def State.winAvail (s : State) (c w : Nat) : Nat := s.winUnits c w - s.winHeld c w

/-- A write of `PAL_WIN_w_CFG` (R171): setting EN opens the window when it lies inside one enabled region. Table 5-5 asks for a BASE
aligned to the size and for a SIZE_LOG2 of 8 to 20, and gives no result for other values: they act as a window outside every region
does (DESIGN CHOICE, log entry 34). -/
def State.winCfg (s : State) (c w : Nat) (v : Word) : State :=
  let a := aWin c w 1
  let old := s.reg a
  let wantEn := bit v.toNat 0
  if bit old.toNat 0 then s.setReg a ((old &&& ~~~ 1#32) ||| (v &&& 1#32))
  else
    let lg := bits v.toNat 1 5
    let base := (s.reg (aWin c w 0)).toNat
    let inside := (List.range 8).any (fun r =>
      let g := s.rgn c r
      g.en && decide (g.base ≤ base) && decide (base + 2 ^ lg ≤ g.base + g.size))
    let ok := decide (8 ≤ lg) && decide (lg ≤ 20) && decide (base % 2 ^ lg = 0) && inside
    let s := s.setReg a (v &&& 0xFFE#32 ||| (if wantEn && ok then 1#32 else 0#32))
    if wantEn then
      if ok then ((s.setReg (aWin c w 2) 0#32).setReg (aWin c w 3) 0#32).setReg (aWin c w 4) 0#32
      else s.event (aPalEvt c) 0x40
    else s

/-- `PAL_WIN_w_CFG` is written (R171). -/
def execPalWinCfgWrite (c : Fin 8) (w : Fin 16) (v : Word) (s : State) : Out := s.runGate c (fun s => .next (s.winCfg c w v))

/-- A CREDIT_RET of a window to its producer: window ID and bytes (Table 3-2, R172, R173). -/
def creditRet (dst tag issuer ten core w bytes : Nat) : Packet :=
  { dst := dst, tc := 3, kind := 7, len := 1, nbytes := 6, tag := tag, issuer := issuer, ten := ten,
    data := leBytes 2 (w + 16 * core) ++ leBytes 4 bytes }

/-- Release `k` units of a window (R173). The rule gives the unsolicited CREDIT_RET only its destination and TAG 0: it carries TEN 7 and ISSUER
0; and a release on a window that is not open still counts (DESIGN CHOICE, log entry 34). -/
def State.winRelease (s : State) (c w k : Nat) : State :=
  if s.winHeld c w < k then s.event (aPalEvt c) 0x40
  else
    let s := s.setReg (aWin c w 3) (s.reg (aWin c w 3) + BitVec.ofNat 32 k)
    let want := (s.reg (aWin c w 4)).toNat % 65536
    if 0 < want && want ≤ s.winAvail c w then
      let s := (s.setReg (aWin c w 2) (s.reg (aWin c w 2) + BitVec.ofNat 32 want)).setReg (aWin c w 4) 0#32
      s.sendFrom (creditRet (s.winProducer c w) 0 0 7 c w (32 * want))
    else s

/-- `PAL_WIN_w_REL` is written (R173). -/
def execPalWinRel (c : Fin 8) (w : Fin 16) (v : Word) (s : State) : Out := s.runGate c (fun s => .next (s.winRelease c w (v.toNat % 65536)))

/-- Bytes that are not a whole number of units of 32 ask for the units below, and a window whose region has since been disabled answers
ERR 0x03 (DESIGN CHOICE, log entry 34). The answer to a CREDIT_REQ for a window of core `c` (R172): the ERR code, or the units granted, with the state after it. -/
def State.creditReq (s : State) (who : Who) (c w addr bytes : Nat) : State × (Nat ⊕ Nat) :=
  let base := (s.reg (aWin c w 0)).toNat
  if s.winOpen c w = false || decide (addr ≠ 0x10000000 + 0x1000000 * c + base) || decide (who.src ≠ s.winProducer c w) then (s, .inl 5)
  else
    match s.rgnAt c base with
    | none => (s, .inl 3)
    | some r =>
      if s.mayReach who c (s.rgn c r) true base 1 = false then (s, .inl 3)
      else
        let n := min (bytes / 32) (s.winUnits c w)
        let g := min n (s.winAvail c w)
        ((s.setReg (aWin c w 2) (s.reg (aWin c w 2) + BitVec.ofNat 32 g)).setReg (aWin c w 4) (BitVec.ofNat 32 (n - g)), .inr g)

/-- A span lies in the live span of a window (R174): every byte between the released and the granted units, circularly. -/
def State.winLive (s : State) (c w a n : Nat) : Bool :=
  let base := (s.reg (aWin c w 0)).toNat
  let size := 32 * s.winUnits c w
  let start := (s.reg (aWin c w 3)).toNat * 32 % size
  let live := 32 * s.winHeld c w
  s.winOpen c w && decide (base ≤ a) && decide (a + n ≤ base + size) &&
    (decide (live = size) || decide ((a - base + size - start) % size + n ≤ live))

/-- Count a discarded stream write (R159, R174). -/
def State.winViolation (s : State) (c : Nat) : State := (s.bump (palReg c 0x38)).event (aPalEvt c) 0x20

/-- A WRITE_STREAM at the ingress of core `c` (R174): the state, and whether the write was performed. -/
def State.streamWrite (s : State) (who : Who) (c a : Nat) (data : List Byte) : State × Bool :=
  if (List.range 16).any (fun w => s.winLive c w a data.length) then
    let (t, f) := s.palCheck who false true c a data.length
    if f = 0 then (t.palPut c a data, true) else (t.winViolation c, false)
  else (s.winViolation c, false)

/-! ## Tenant clear -/

/-- Registers of the regions of a core that a clear covers. -/
def State.clearRgns (s : State) (c : Nat) (k : ClearState) : List Nat :=
  (List.range 8).filter (fun r => k.all || (s.rgn c r).tenant = k.tenant)

/-- Zero the palette that a clear covers on a core. -/
def State.zeroPalette (s : State) (c : Nat) (k : ClearState) : MemState :=
  if k.all then (List.range 16).foldl (fun m p => m.zeroPair c p) s.mem
  else (s.clearRgns c k).foldl (fun m r =>
    let g := s.rgn c r
    (List.range g.nb).foldl (fun m i => m.zeroRows c (2 * g.pair0 + i) g.rowBase g.rows) m) s.mem

/-- Zero a core's accumulator, register file and near memory with good parity (Table 5-6, R252, R325). -/
def State.zeroScratch (s : State) (c : Nat) : State :=
  { s with mem := { s.mem with
      acc := tblClear s.mem.acc (65536 * c) (65536 * (c + 1)), rf := tblClear s.mem.rf (65536 * c) (65536 * (c + 1))
      near := tblClear s.mem.near (131072 * c) (131072 * (c + 1)), nearFree := tblSet (fun _ => none) s.mem.nearFree c none
      rfBad := s.mem.rfBad.filter (fun k => k / 65536 ≠ c), nearBad := s.mem.nearBad.filter (fun k => k / 131072 ≠ c) } }

/-- A clear covers the accumulator, register file and near memory of a core: that of its compute tenant does (R176). -/
def State.clearsScratch (s : State) (c : Nat) (k : ClearState) : Bool :=
  k.all || decide ((s.reg (0x10F02008 + 0x1000000 * c)).toNat % 8 = k.tenant)

/-- Zero what a clear covers on a core (Table 5-6, phase 2): its regions, and on the compute tenant's core the
accumulator, register file and near memory. -/
def State.zeroCore (s : State) (c : Nat) (k : ClearState) : State :=
  let t := { s with mem := s.zeroPalette c k }
  if s.clearsScratch c k then t.zeroScratch c else t

/-- The palette address under which an enabled region maps a word of a bank, if one does (R156, R177). -/
def State.addrOf (s : State) (c bank row x : Nat) : Option Nat :=
  (List.range 8).findSome? (fun r =>
    let g := s.rgn c r
    let b0 := 16 * g.group + 2 * g.first
    let q := row - g.rowBase
    if g.en && decide (b0 ≤ bank) && decide (bank < b0 + g.nb) && decide (g.rowBase ≤ row) && decide (row < g.rowBase + g.rows) then
      let i := bank - b0
      let i := if g.hash then i ^^^ (q % g.nb) ^^^ (q / g.nb % g.nb) else i
      some (g.base + 64 * (q * g.nb + i) + x)
    else none)

/-- What `PAL_PERR_ADDR` shows for a word of a bank that fails verification (R177). -/
def State.physAddr (s : State) (c bank row x : Nat) : Nat :=
  match s.addrOf c bank row x with
  | some a => a
  | none => 0x80000000 + 64 * row + x

/-- A key lies in what a clear covers on a core. -/
def State.covered (s : State) (c : Nat) (k : ClearState) (key : Nat) : Bool :=
  let bank := key % 4194304 / 98304
  let row := key % 4194304 % 98304 / 64
  decide (key / 4194304 = c) && (k.all || (s.clearRgns c k).any (fun r =>
    let g := s.rgn c r
    decide (2 * g.pair0 ≤ bank) && decide (bank < 2 * g.pair0 + g.nb) && decide (g.rowBase ≤ row) && decide (row < g.rowBase + g.rows)))

/-- Bank, row and place of the words that fail the verification of a clear (Table 5-6, phase 3). -/
def State.failWords (s : State) (c : Nat) (k : ClearState) : List (Nat × Nat × Nat) :=
  (((s.mem.badPar ++ s.mem.flips).filter (s.covered c k)).map (fun key =>
    let o := key % 4194304
    (o / 98304, o % 98304 / 64, o % 64 / 4 * 4))).eraseDups

/-- One verification of a clear: every word that fails is recorded, at its first or second failure (R177). -/
def State.verifyClear (s : State) (c attempt : Nat) (ws : List (Nat × Nat × Nat)) : State :=
  ws.foldl (fun s w =>
    let stored := (List.range 4).any (fun i => s.mem.badPar.contains (palKey c w.1 w.2.1 (w.2.2 + i)))
    s.perrRecord c w.1 (s.physAddr c w.1 w.2.1 w.2.2) 7 0xFFFF attempt stored) s

/-- Phase 3 of a clear (Table 5-6, R177): what fails is cleared again and verified again; a second failure marks the bank bad. A word of
the register file or of near memory that fails is cleared again; no cell of theirs fails for good (log entry 34). -/
def State.verifyCore (s : State) (c : Nat) (k : ClearState) : State :=
  let s := if s.clearsScratch c k && !(s.mem.rfBad.isEmpty && s.mem.nearBad.isEmpty) then s.zeroScratch c else s
  let first := s.failWords c k
  if first.isEmpty then s
  else
    let s := (s.verifyClear c 1 first).zeroCore c k
    let second := s.failWords c k
    if second.isEmpty then s
    else
      let s := s.verifyClear c 2 second
      let s := ((second.map (fun w => w.1)).eraseDups).foldl (fun s b => s.bankBad c b) s
      s.setReg (palReg c 0x3C) (s.reg (palReg c 0x3C) ||| 0x80#32)

/-- Show a clear in `PAL_CLEAR_STAT`. -/
def State.showClear (s : State) (c : Nat) (busy : Bool) (phase tenant : Nat) : State :=
  s.setReg (palReg c 0x3C) (BitVec.ofNat 32 (b2n busy + 2 * phase + 16 * tenant) ||| (s.reg (palReg c 0x3C) &&& 0x80#32))

/-- The region that a window lies in: the enabled one that holds its BASE, else a disabled one that does, of a tenant if there is one
(R158, R176). -/
def State.winRgn (s : State) (c w tenant : Nat) : Option Nat :=
  let b := (s.reg (aWin c w 0)).toNat
  let off (r : Nat) : Bool := ({ s.rgn c r with en := true } : Rgn).holds b
  match s.rgnAt c b with
  | some r => some r
  | none => (List.range 8).find? (fun r => off r && decide ((s.rgn c r).tenant = tenant))

/-- Close the windows that lie in a covered region, whether it is enabled or not (R176, Table 5-6, phase 1). -/
def State.closeWindows (s : State) (c : Nat) (k : ClearState) : State :=
  (List.range 16).foldl (fun s w =>
    let mine := match s.winRgn c w k.tenant with | some r => decide ((s.rgn c r).tenant = k.tenant) | none => false
    if k.all || mine then s.setReg (aWin c w 1) (s.reg (aWin c w 1) &&& ~~~ 1#32) else s) s

/-- Enter a phase of a clear. -/
def State.clearPhase (s : State) (c : Nat) (k : ClearState) : State :=
  ({ s with mem := { s.mem with clear := tblSet (fun _ => none) s.mem.clear c (some { k with since := s.now }) } }).showClear c true k.phase
    (k.tenant % 8)

/-- Begin the clear of a tenant, or of everything, on a core (R176, R178). While a clear is in progress there the tenant's follows it. -/
def State.clearStart (s : State) (c tenant : Nat) (all : Bool) : State :=
  let k : ClearState := { tenant := tenant, all := all }
  let s := s.closeWindows c k
  match tblGet (fun _ => none) s.mem.clear c with
  | none => s.clearPhase c k
  | some x =>
    if all then s.clearPhase c k
    else if s.clearing c tenant then s
    else { s with mem := { s.mem with clear := tblSet (fun _ => none) s.mem.clear c (some { x with also := x.also ++ [tenant] }) } }

/-- Return a fence to its reset values and to writable (R648). -/
def State.fenceReset (s : State) (t : Nat) : State := s.resetRegs (aFence t 0) (aFence t 0x30)

/-- A region is disabled, unlocked and given to no tenant (Table 5-6); its LOCK becomes writable (R653). -/
def State.rgnRelease (s : State) (c r : Nat) : State :=
  let w := s.reg (aRgn c r 2)
  (s.setReg (aRgn c r 2) ((w &&& 0x7FFFF8FE#32) ||| 0x700#32)).retake (aRgn c r 2) (w &&& 0x80000000#32)

/-- Phase 4 of a clear (Table 5-6, R215): the covered regions are released and the compute tenant returns to 7. -/
def State.clearRelease (s : State) (c : Nat) (k : ClearState) : State :=
  let s := (s.clearRgns c k).foldl (fun s r => s.rgnRelease c r) s
  let s := { s with mem := { s.mem with clear := tblSet (fun _ => none) s.mem.clear c none } }
  let aCtx := 0x10F02008 + 0x1000000 * c
  let s := if k.all || (s.reg aCtx).toNat % 8 = k.tenant then
      (s.setReg aCtx 7#32).retake aCtx (tblGet wordZero s.written aCtx)
    else s
  let s := (s.showClear c false 0 0).event (aPalEvt c) 0x80
  let s := match k.also with
    | t :: ts => s.clearPhase c { tenant := t, also := ts }
    | [] => s
  let s := if k.all || (List.range 8).any (fun i => s.clearing i k.tenant) then s else s.fenceReset (k.tenant % 4)
  if (List.range 8).any (fun i => (tblGet (fun _ => none) s.mem.clear i).isSome) then s else s.setReg 0x2300200C 0#32

/-- A phase of a core's tenant clear ends (Table 5-6, R176 to R178). -/
def State.clearNext (s : State) (c : Nat) : State :=
  match tblGet (fun _ => none) s.mem.clear c with
  | none => s
  | some k =>
    if k.phase = 1 then s.clearPhase c { k with phase := 2 }
    else if k.phase = 2 then (s.zeroCore c k).clearPhase c { k with phase := 3 }
    else if k.phase = 3 then (s.verifyCore c k).clearPhase c { k with phase := 4 }
    else s.clearRelease c k

end Sys2Proof.Machine
end

