-- ==== Sys2Proof/Machine/CoreOps.lean ====
section
/-! DEFINITION. CoreOps: a core's shared operations: the end of in-flight work, kill, abandonment and abort (06, 07, 10). -/

namespace Sys2Proof.Machine

/-- A core beside its registers and memories. -/
def State.core (s : State) (c : Nat) : CoreState := tblGet (fun _ => {}) s.cores c

/-- The state with a core replaced. -/
def State.setCore (s : State) (c : Nat) (k : CoreState) : State := { s with cores := tblSet (fun _ => {}) s.cores c k }

/-- Change a core. -/
def State.onCore (s : State) (c : Nat) (f : CoreState → CoreState) : State := s.setCore c (f (s.core c))

/-- Change the sequencer of a core. -/
def State.onSeq (s : State) (c : Nat) (f : SeqState → SeqState) : State := s.onCore c (fun k => { k with seq := f k.seq })

/-- Sequencer registers of a core (R250). -/
def seqReg (c off : Nat) : Nat := 0x10F02000 + 0x1000000 * c + off
/-- STATE of `SEQ_STAT`. -/
def fSeqState (c : Nat) : Fld := ⟨seqReg c 4, 0, 3⟩
/-- PC of `SEQ_STAT`. -/
def fSeqPc (c : Nat) : Fld := ⟨seqReg c 4, 16, 16⟩
/-- TENANT of `SEQ_CTX`. -/
def fTenant (c : Nat) : Fld := ⟨seqReg c 8, 0, 3⟩
/-- `SEQ_EVT`. -/
def aSeqEvt (c : Nat) : Nat := seqReg c 0x54
/-- ARM of `SEQ_NEXT_CTL`. -/
def fSeqArm (c : Nat) : Fld := ⟨seqReg c 0x2C, 0, 1⟩
/-- Tensor registers of a core (R250). -/
def tnsReg (c off : Nat) : Nat := 0x10F03000 + 0x1000000 * c + off
/-- DMA registers of a core (R206). -/
def dmaReg (c off : Nat) : Nat := 0x10F01000 + 0x1000000 * c + off
/-- `DMA_EVT`. -/
def aDmaEvt (c : Nat) : Nat := dmaReg c 0x400
/-- STATE of `DMA_CH_c_STAT`. -/
def fChState (c ch : Nat) : Fld := ⟨dmaReg c (0x20 * ch + 4), 0, 3⟩
/-- QDEPTH of `DMA_CH_c_STAT`. -/
def fChDepth (c ch : Nat) : Fld := ⟨dmaReg c (0x20 * ch + 4), 3, 3⟩
/-- DESC_ID of `DMA_CH_c_STAT`. -/
def fChDesc (c ch : Nat) : Fld := ⟨dmaReg c (0x20 * ch + 4), 16, 16⟩
/-- HELD of `DMA_CH_c_CRED`. -/
def fHeldCred (c ch : Nat) : Fld := ⟨dmaReg c (0x20 * ch + 0x10), 0, 16⟩
/-- PEND of `DMA_CH_c_CRED`. -/
def fPendCred (c ch : Nat) : Fld := ⟨dmaReg c (0x20 * ch + 0x10), 16, 16⟩
/-- Thread-group registers of a core (R323). -/
def tgReg (c off : Nat) : Nat := 0x10F05000 + 0x1000000 * c + off
/-- Special-function registers of a core (R292). -/
def sfuReg (c off : Nat) : Nat := 0x10F04000 + 0x1000000 * c + off

/-- The compute tenant of a core as the source of an access (R214). -/
def State.coreWho (s : State) (c : Nat) : Who := { ten := s.get (fTenant c), src := s.node }

/-- Word `i` of a step-list entry or descriptor. -/
def word (ws : List Nat) (i : Nat) : Nat := ws.getD i 0

/-- A DMA channel of a core. -/
def State.chan (s : State) (c ch : Nat) : DmaChan := tblGet (fun _ => {}) (s.core c).chans ch

/-- The state with a DMA channel replaced. -/
def State.setChan (s : State) (c ch : Nat) (q : DmaChan) : State :=
  s.onCore c (fun k => { k with chans := tblSet (fun _ => {}) k.chans ch q })

/-- A descriptor of class ACT (Table 6-1). -/
def DmaDesc.isAct (d : DmaDesc) : Bool := bits (word d.words 0) 13 2 = 1
/-- A descriptor with STREAM = 1. -/
def DmaDesc.isStream (d : DmaDesc) : Bool := bit (word d.words 0) 15

/-- The descriptor that a channel runs, or keeps for its re-run (R211). -/
def DmaChan.held (q : DmaChan) : Option DmaDesc :=
  match q.cur with
  | some d => some d
  | none => q.kept.map (fun k => k.1)

/-- Some descriptor queued, running or kept on a channel satisfies a property. -/
def DmaChan.hasDesc (q : DmaChan) (f : DmaDesc → Bool) : Bool := q.queue.any f || (match q.held with | some d => f d | none => false)

/-- Note slots of a core that are BUSY. -/
def State.busyNotes (s : State) (c : Nat) : Nat :=
  ((List.range 4).filter (fun sl => (s.reg (dmaReg c (0x20C + 0x80 * sl))).toNat % 4 = 1)).length

/-- Notes of a core that hold a write slot: BUSY, and past their beat (R194, R204). -/
def State.noteSlots (s : State) (c : Nat) : Nat := s.busyNotes c - (s.core c).dma.notes.length

/-- Show queue depths, outstanding transactions and ACT_IDLE (Table 6-5, R203): no ACT descriptor is queued, running, kept, faulted or
aborted for a re-run; a slot or a CREDIT_REQ belongs to a descriptor that runs or is kept. -/
def State.showDma (s : State) (c : Nat) : State :=
  let chs := (List.range 8).map (s.chan c)
  let reads := (chs.map (fun q => q.reads)).foldl (· + ·) 0
  let writes := (chs.map (fun q => q.writes)).foldl (· + ·) 0 + s.noteSlots c
  let idle := !chs.any (fun q => q.hasDesc DmaDesc.isAct || q.fault || !q.aborted.isEmpty)
  let s := (List.range 8).foldl (fun s ch => s.set (fChDepth c ch) (s.chan c ch).queue.length) s
  (s.setReg (dmaReg c 0x404) (BitVec.ofNat 32 (reads % 16 + 256 * (writes % 16)))).setReg (dmaReg c 0x408) (BitVec.ofNat 32 (b2n idle))

/-- Transactions whose answers are to be discarded (R207). -/
def State.discardTxns (s : State) (f : TxnUse → Bool) : State :=
  { s with fab := { s.fab with
      txns := s.fab.txns.map (fun t => if f t.use then { t with use := .discard } else t),
      tagWait := s.fab.tagWait.filter (fun w => !f w.use) } }

/-- A use that belongs to a channel of a core. -/
def usesChan (c ch : Nat) : TxnUse → Bool
  | .dmaRead core h _ _ => core = c && h = ch
  | .dmaWrite core h _ _ => core = c && h = ch
  | .credit core h => core = c && h = ch
  | _ => false

/-- A use that belongs to a SIGNAL step of a core. -/
def usesSignal (c : Nat) : TxnUse → Bool
  | .signal core _ => core = c
  | _ => false

/-- What a channel has presented to the injection stage or holds in a slot goes; outstanding answers are discarded (R207). -/
def State.dropPackets (s : State) (c ch : Nat) : State :=
  let s := s.discardTxns (usesChan c ch)
  let s := s.onCore c (fun k => { k with dma := { k.dma with land := k.dma.land.filter (fun x => x.ch ≠ ch) } })
  { s with fab := { s.fab with inject := s.fab.inject.filter (fun x => !(x.core = c && x.ch = ch)) } }

/-- A slot is ready for the write side (R196). -/
def State.land (s : State) (c : Nat) (x : DmaLand) : State :=
  s.onCore c (fun k => { k with dma := { k.dma with land := k.dma.land ++ [x] } })

/-- A channel no longer keeps its rank among the ordinary ones (R196). -/
def State.unkeep (s : State) (c ch : Nat) : State :=
  s.onCore c (fun k => { k with dma := { k.dma with keep := if k.dma.keep = some ch then none else k.dma.keep } })

/-- Empty a channel: queue and descriptor go, held and pending credit lapse, outstanding answers are discarded (R206,
R207). -/
def State.flushChan (s : State) (c ch : Nat) : State :=
  let s := ((s.dropPackets c ch).unkeep c ch).setChan c ch {}
  ((s.set (fChState c ch) 0).set (fHeldCred c ch) 0).set (fPendCred c ch) 0

/-- Show the thread-group cluster (Table 10-6). -/
def State.showTg (s : State) (c : Nat) : State :=
  let t := (s.core c).tg
  let gs := t.groups.filterMap (fun e => e.2)
  let v := (gs.map (fun g => g.vbase.length)).foldl (· + ·) 0
  s.setReg (tgReg c 0) (BitVec.ofNat 32 (gs.length + 64 * t.launches.length + 512 * t.split + 4096 * v))

/-- Show the tensor unit (Table 7-9). -/
def State.showTns (s : State) (c : Nat) : State :=
  let ts := (s.core c).seq.tensor
  let busy := ts.foldl (fun m t => m ||| t.arrays) 0
  s.setReg (tnsReg c 0) (BitVec.ofNat 32 (busy + 16 * ts.length))

/-- End the in-flight work of a core's context: tensor operations, DMA channels, launches, signals (R216, R227). -/
def State.endWork (s : State) (c : Nat) : State :=
  let s := (List.range 8).foldl (fun s ch => s.flushChan c ch) s
  let s := s.discardTxns (usesSignal c)
  let s := s.onCore c (fun k => { k with seq := { k.seq with tensor := [], signals := [], locals := [], reruns := [] },
                                         tg := { k.tg with launches := [], groups := [], cache := [], icache := [] } })
  ((s.showDma c).showTg c).showTns c

/-- A fault event goes to the tenant of a core (Table 17-14). -/
def State.tenantFault (s : State) (c unit code step : Nat) : State :=
  let t := s.get (fTenant c)
  s.kmpEvent 0x8301 (leBytes 1 t ++ leBytes 1 s.node ++ leBytes 1 c ++ leBytes 1 unit ++ leBytes 1 code ++ leBytes 2 step) (some t)

/-- Kill the context of a core (R216): unit 0 sequencer, 1 tensor, 2 DMA, 3 thread groups, 4 SFU. -/
def State.kill (s : State) (c unit code step : Nat) : State :=
  let s := (s.endWork c).set (fSeqState c) 5
  let s := (s.setReg (seqReg c 0x50) (BitVec.ofNat 32 (code % 256 + 256 * unit + 65536 * (step % 65536)))).event (aSeqEvt c) 1
  s.tenantFault c unit code step

/-- Halt the context of a core (R216). -/
def State.haltCore (s : State) (c : Nat) : State := (s.endWork c).set (fSeqState c) 0

/-- EPOCH_FAIL of epoch `n` for every plan that uses a core (R596). -/
def State.coreFail (s : State) (c n : Nat) : State :=
  s.plans.foldl (fun s e => if bit e.2.cores c then s.epochFail e.1 n else s) s

/-- Abandon the epoch for a core (R227, R596). -/
def State.abandonCore (s : State) (c : Nat) : State :=
  let n := (s.core c).seq.pass
  ((s.endWork c).set (fSeqState c) 6).coreFail c n

/-- ABANDON: the epoch in progress is abandoned for a core that runs a pass (R227). -/
def State.seqAbandon (s : State) (c : Nat) : State :=
  if 1 ≤ s.get (fSeqState c) && s.get (fSeqState c) ≤ 4 then s.abandonCore c else s

/-- The attempt that a step's next run is (R167). -/
def SeqState.attempt (q : SeqState) (step : Nat) : Nat := ((q.attempts.find? (fun a => a.1 = step)).map (fun a => a.2)).getD 0 + 1

/-- Record one more attempt of a step. -/
def SeqState.tried (q : SeqState) (step : Nat) : SeqState :=
  { q with attempts := (step, q.attempt step) :: q.attempts.filter (fun a => a.1 ≠ step) }

/-- A step waits to be issued again (R229). -/
def State.rerunLater (s : State) (c : Nat) (r : Rerun) : State :=
  (s.onSeq c (fun q => { q with reruns := q.reruns.filter (fun x => x.step ≠ r.step) ++ [r] })).set (fSeqState c) 4

/-- Where the poisoned data of a step stood: in this core's palette, at the address of `PAL_PERR_ADDR`; in an SFU slot; elsewhere. -/
inductive PoisonAt where
  | palette
  | slot
  | other
  deriving DecidableEq, Repr

/-- A step aborts on poisoned data (R165 to R167, R229 to R231, R294, Table 5-4). The re-read of a palette word tells a transient error
from a stored one. `rerunnable` says that the step may be run again. -/
def State.poisonAbort (s : State) (c step : Nat) (at_ : PoisonAt) (rerunnable : Bool) : State :=
  let n := (s.core c).seq.attempt step
  let s := ((s.event (aSeqEvt c) 2).bump (seqReg c 0x5C)).onSeq c (fun q => q.tried step)
  let addr := (s.reg (palReg c 0x30)).toNat
  let stored := decide (at_ = .palette) && s.palStored c (addr / 4 * 4)
  let weights := match s.rgnAt c addr with | some r => (s.rgn c r).weights | none => false
  if 3 ≤ n then
    let s := if at_ = .palette then s.bankBad c ((s.reg (palReg c 0x34)).toNat % 32) else s
    s.abandonCore c
  else if stored && !weights then
    (s.palPut c (addr / 64 * 64) (List.replicate 64 0#8)).abandonCore c
  else if rerunnable then
    s.rerunLater c { step := step, attempt := n + 1, refetch := stored || decide (at_ = .slot), line := if stored then some (addr / 64 * 64) else none }
  else s.abandonCore c

/-- A step aborts because its target is unreachable or silent: the epoch is abandoned for the core (R209, R223). -/
def State.silentAbort (s : State) (c : Nat) : State :=
  ((s.event (aSeqEvt c) 2).bump (seqReg c 0x5C)).abandonCore c

/-- A step counter rises by 1 (R221). -/
def State.stepDone (s : State) (c k : Nat) : State := s.setReg (seqReg c (0x30 + 4 * k)) (s.reg (seqReg c (0x30 + 4 * k)) + 1#32)

/-- A span lies inside one enabled region that a context may reach; `wide` asks for the wide group (R217, R248). -/
def State.inOneRegion (s : State) (who : Who) (c a n : Nat) (write wide : Bool) : Bool :=
  (List.range 8).any (fun r =>
    let g := s.rgn c r
    g.en && decide (g.base ≤ a) && decide (a + n ≤ g.base + g.size) && s.mayReach who c g write a n && !(wide && decide (g.group = 1)))

end Sys2Proof.Machine
end

