-- ==== Sys2Proof/Machine/StepList.lean ====
section
/-! DEFINITION. StepList: fetching the next step-list entry and issuing it (07). -/

namespace Sys2Proof.Machine

/-- Bits that an entry of the sequencer's own types may set, word by word (Table 7-2); later words are reserved whole. -/
def stepMask (ty : Nat) : List Nat :=
  if ty = 4 then [0x1FFF, 0xFFFFFFFF]
  else if ty = 5 then [0xFF, 0xFFFFFFFF, 0xFFFF, 0x3FFFFF]
  else if ty = 6 then [0x1FF, 0xFFFFFFFF, 0xFFFF, 0xFFFFFFFF, 0xFFFFFFFF]
  else if ty = 7 then [0x7FF, 0xFFFF]
  else if ty = 8 then [0xFFF, 0xFFFF]
  else if ty = 9 then [0xFF]
  else [0x7000FFF, 0xFF]

/-- Some word has a bit outside its mask; words past the list of masks must be zero. -/
def strayBits (masks ws : List Nat) : Bool :=
  (List.range 16).any (fun i => decide (word ws i &&& masks.getD i 0 ≠ word ws i))

/-- A reserved field of a sequencer entry is nonzero (R219, Table 7-2). TEST names an array and a vector set of 0 to 15. -/
def stepBad (ty : Nat) (ws : List Nat) : Bool :=
  strayBits (stepMask ty) ws || (ty = 10 && (bits (word ws 0) 8 4 = 0 || decide (15 < word ws 1)))

/-- The 16 words of 64 bytes. -/
def words16 (bs : List Byte) : List Nat := (List.range 16).map (fun i => fieldAt bs (4 * i) 4)

/-- The step's address in the palette (R217). -/
def State.stepAddr (s : State) (c i : Nat) : Nat := (s.reg (seqReg c 0xC)).toNat + 64 * i

/-- The entry of a step as it stands in the palette. -/
def State.stepWords (s : State) (c i : Nat) : List Nat := words16 (s.palBytes c (s.stepAddr c i) 64)

/-- The sequencer is ready to issue: RUN or WAIT (Table 7-9). -/
def State.issuing (s : State) (c : Nat) : Bool := s.get (fSeqState c) = 1 || s.get (fSeqState c) = 2

/-- The next step of a core, when it has type `ty`, is handed to `run` with its index and words (R217 to R220). Another
type leaves the state alone; an illegal entry kills the context (Table 7-8); a poisoned one aborts (R218). -/
def State.atStep (s : State) (c ty : Nat) (run : Nat → List Nat → State → State) : State :=
  if s.issuing c = false then s
  else
    let pc := s.get (fSeqPc c)
    if (s.reg (seqReg c 0x10)).toNat ≤ pc then s.kill c 0 0x03 pc
    else
      let (s, f) := s.palCheck (s.coreWho c) false false c (s.stepAddr c pc) 64
      if f ≠ 0 then s.kill c 0 0x04 pc
      else
        let (s, bs, bad) := s.palRead c (s.stepAddr c pc) 64 5 pc ((s.core c).seq.attempt pc)
        let ws := words16 bs
        let t := word ws 0 % 256
        if bad then s.poisonAbort c pc .palette true
        else if t = 0 || 10 < t then s.kill c 0 0x01 pc
        else if t ≠ ty then s
        else if decide (4 ≤ ty) && stepBad ty ws then s.kill c 0 0x02 pc
        else run pc ws s

/-- The next step has issued: PC goes on and no boundary has been waited across (R220, R226). -/
def State.issued (s : State) (c : Nat) : State :=
  ((s.set (fSeqPc c) (s.get (fSeqPc c) + 1)).set (fSeqState c) 1).onSeq c (fun q => { q with waited := 0 })

/-- The next step cannot issue yet. -/
def State.held (s : State) (c : Nat) : State := s.set (fSeqState c) 2

/-- Steps of the context are in flight (R220, R225). -/
def State.inFlight (s : State) (c : Nat) : Bool :=
  let k := s.core c
  !k.seq.tensor.isEmpty || !k.seq.signals.isEmpty || !k.tg.launches.isEmpty || !k.seq.reruns.isEmpty ||
    (List.range 8).any (fun ch => (s.chan c ch).hasDesc (fun _ => true))

end Sys2Proof.Machine
end

