-- ==== Sys2Proof/Machine/Dma.lean ====
section
/-! DEFINITION. Dma: the DMA engine of a core and its note path (06). -/

namespace Sys2Proof.Machine

/-! ## Descriptor fields (Table 6-1) -/

/-- MODE. -/
def DmaDesc.mode (d : DmaDesc) : Nat := bits (word d.words 0) 11 2
/-- WIN. -/
def DmaDesc.win (d : DmaDesc) : Nat := bits (word d.words 0) 16 4
/-- Gather element size. -/
def DmaDesc.elem (d : DmaDesc) : Nat := 2 ^ bits (word d.words 0) 20 4
/-- IRQ. -/
def DmaDesc.irq (d : DmaDesc) : Bool := bit (word d.words 0) 24
/-- DESC_ID. -/
def DmaDesc.id (d : DmaDesc) : Nat := bits (word d.words 1) 0 16
/-- CRED_CHUNK. -/
def DmaDesc.chunk (d : DmaDesc) : Nat := bits (word d.words 1) 16 12
/-- SRC: node, reserved bits and local address. -/
def DmaDesc.src (d : DmaDesc) : Nat := word d.words 2 + 4294967296 * word d.words 3
/-- DST. -/
def DmaDesc.dst (d : DmaDesc) : Nat := word d.words 4 + 4294967296 * word d.words 5
/-- LEN_0. -/
def DmaDesc.len (d : DmaDesc) : Nat := word d.words 6 % 2097152
/-- COUNT_1. -/
def DmaDesc.count (d : DmaDesc) : Nat := word d.words 7 % 65536
/-- SRC_STRIDE. -/
def DmaDesc.srcStride (d : DmaDesc) : Int := signed 32 (word d.words 8)
/-- DST_STRIDE. -/
def DmaDesc.dstStride (d : DmaDesc) : Int := signed 32 (word d.words 9)
/-- SRC_WRAP_LOG2. -/
def DmaDesc.srcWrap (d : DmaDesc) : Nat := bits (word d.words 10) 0 5
/-- DST_WRAP_LOG2. -/
def DmaDesc.dstWrap (d : DmaDesc) : Nat := bits (word d.words 10) 8 5
/-- IDX_ADDR. -/
def DmaDesc.idx (d : DmaDesc) : Nat := word d.words 11 % 4194304
/-- Bytes that the descriptor moves. -/
def DmaDesc.total (d : DmaDesc) : Nat := d.len * d.count
/-- The context that pushed it, as the source of an access (R189). -/
def DmaDesc.who (s : State) (d : DmaDesc) : Who := { ten := d.ten, src := s.node }

/-- Node of a global address (R15). -/
def gNode (a : Nat) : Nat := bits a 58 6
/-- Local part of a global address. -/
def gLocal (a : Nat) : Nat := a % 281474976710656
/-- Bits [57:48] of a global address. -/
def gMid (a : Nat) : Nat := bits a 48 10
/-- Base of the palette of core `c` in the chip's address space (Table 25-2). -/
def palBase (c : Nat) : Nat := 0x10000000 + 0x1000000 * c
/-- The core whose palette range holds a local address. -/
def palCore (a : Nat) : Option Nat :=
  if 0x10000000 ≤ a && a < 0x18000000 && a % 0x1000000 < 0x400000 then some ((a - 0x10000000) / 0x1000000) else none
/-- A local address of the control SRAM (Table 25-1). -/
def isSram (a : Nat) : Bool := 0x1000000 ≤ a && a < 0x1400000

/-- A global address lies in the palette range of core `c` of this chip (R188). -/
def State.ownPal (s : State) (c a : Nat) : Bool := gNode a = s.node && palCore (gLocal a) == some c

/-- A global address is one that the other side may name (R188). -/
def mayName (ten a : Nat) : Bool := (palCore (gLocal a)).isSome || (isSram (gLocal a) && ten = 7)

/-- A side with an offset applied (R186). -/
def sideAddr (start : Nat) (wrap : Nat) (x : Int) : Nat :=
  if wrap = 0 then ((start : Int) + x).toNat
  else
    let w := 2 ^ wrap
    start / w * w + (((start % w : Nat) : Int) + x).emod w |>.toNat

/-- Bytes from an offset up to the wrap point of a side; `none` without wrap. -/
def wrapLeft (start wrap : Nat) (x : Int) : Option Nat :=
  if wrap = 0 then none
  else
    let w := 2 ^ wrap
    some (w - ((((start % w : Nat) : Int) + x).emod w).toNat)

/-- Footprint of a side, first offset and length (R192): the whole wrap block under wrap. -/
def footprint (start wrap len count : Nat) (stride : Int) : Int × Nat :=
  if wrap = 0 then
    let last := stride * ((count : Int) - 1)
    ((start : Int) + min 0 last, last.natAbs + len)
  else
    let w := 2 ^ wrap
    (((start / w * w : Nat) : Int), w)

/-- A local footprint lies inside one enabled region that the context may reach (R192, R159). -/
def State.footInside (s : State) (who : Who) (c : Nat) (fp : Int × Nat) (write : Bool) : Bool :=
  0 ≤ fp.1 - palBase c && s.inOneRegion who c (fp.1 - palBase c).toNat fp.2 write false

/-- Bits that a DMA descriptor may set (Table 6-1). -/
def dmaMask : List Nat :=
  [0x1FFFFFF, 0xFFFFFFF, 0xFFFFFFFF, 0xFFFFFFFF, 0xFFFFFFFF, 0xFFFFFFFF, 0x1FFFFF, 0xFFFF, 0xFFFFFFFF, 0xFFFFFFFF, 0x1F1F,
    0x3FFFFF, 0xFFFFFFFF, 0xFFFFFFFF]

/-- R185: what a mode asks of the other fields (Table 6-2). -/
def DmaDesc.modeFits (d : DmaDesc) : Bool :=
  if d.mode = 0 then d.count = 1 && d.srcStride = 0 && d.dstStride = 0 && d.srcWrap = 0 && d.dstWrap = 0
  else if d.mode = 1 then d.srcWrap = 0 && d.dstWrap = 0
  else if d.mode = 2 then d.srcWrap ≠ 0 || d.dstWrap ≠ 0
  else d.srcStride = 0 && d.dstStride = 0 && d.srcWrap = 0

/-- Row 0x02 of Table 6-4: the sides of the transfer (R188, Table 6-3). -/
def State.sidesBad (s : State) (c : Nat) (d : DmaDesc) : Bool :=
  let ls := s.ownPal c d.src
  let ld := s.ownPal c d.dst
  gMid d.src ≠ 0 || gMid d.dst ≠ 0 || (!ls && !ld) || (!ls && !mayName d.ten d.src) || (!ld && !mayName d.ten d.dst) ||
    (d.isStream && (ld || !(palCore (gLocal d.dst)).isSome))

/-- Row 0x03: lengths, counts, alignment, ranges. The ranges of ELEM_LOG2 and CRED_CHUNK hold in every descriptor (DEDUCED, log
entry 35). -/
def DmaDesc.fieldsBad (d : DmaDesc) : Bool :=
  d.len < 4 || 1048576 < d.len || d.len % 4 ≠ 0 || d.count = 0 || d.src % 4 ≠ 0 || d.dst % 4 ≠ 0 ||
    d.srcStride % 4 ≠ 0 || d.dstStride % 4 ≠ 0 || !d.modeFits || d.chunk = 0 || d.elem < 4 || 512 < d.elem ||
    (d.mode = 3 && d.len ≠ d.elem)

/-- Row 0x04: wrap sizes. -/
def DmaDesc.wrapBad (d : DmaDesc) : Bool :=
  let bad (w : Nat) : Bool := w ≠ 0 && (w < 8 || 20 < w || 2 ^ w < d.len)
  bad d.srcWrap || bad d.dstWrap

/-- Row 0x05: the local footprints. The elements of a local gather source are checked as they are read. -/
def State.footBad (s : State) (c : Nat) (d : DmaDesc) : Bool :=
  let w := d.who s
  (s.ownPal c d.src && d.mode ≠ 3 &&
    !s.footInside w c (footprint (gLocal d.src) d.srcWrap d.len d.count d.srcStride) false) ||
  (s.ownPal c d.dst &&
    !s.footInside w c (footprint (gLocal d.dst) d.dstWrap d.len d.count (if d.mode = 3 then d.elem else d.dstStride)) true)

/-- Row 0x07: the window of a stream (R191). The engine sees SIZE_LOG2 of a window of its own chip alone (DEDUCED, log entry 35). -/
def State.windowBad (s : State) (d : DmaDesc) : Bool :=
  d.dstWrap = 0 || d.dst % 32 ≠ 0 || d.len % 32 ≠ 0 || d.dstStride % 32 ≠ 0 ||
    (match palCore (gLocal d.dst) with
    | some k => gNode d.dst = s.node && d.dstWrap ≠ bits (s.reg (aWin k d.win 1)).toNat 1 5
    | none => false)

/-- The first failing check of Table 6-4 at issue; 0 when none fails (R192). -/
def State.dmaCheck (s : State) (c ch : Nat) (d : DmaDesc) : Nat :=
  if strayBits dmaMask d.words || bits (word d.words 0) 13 2 = 3 || bits (word d.words 0) 8 3 ≠ ch then 1
  else if s.sidesBad c d then 2
  else if d.fieldsBad then 3
  else if d.wrapBad then 4
  else if s.footBad c d then 5
  else if d.mode = 3 && !s.inOneRegion (d.who s) c d.idx (4 * d.count) false false then 6
  else if d.isStream && s.windowBad d then 7
  else 0

/-! ## Status -/

/-- `DMA_CH_c_BYTES`. -/
def aChBytes (c ch : Nat) : Nat := dmaReg c (0x20 * ch + 0x14)

/-- D - E of R198 once `b` bytes are complete; none without a deadline. -/
def DmaDesc.runDry (d : DmaDesc) (b : Nat) : Option Nat :=
  if word d.words 12 = 0xFFFFFFFF then none else some (word d.words 12 + word d.words 13 * (b / 512))

/-- Show bytes completed and the deadline against the epoch's start (R198, R206, Table 6-5). -/
def State.showBytes (s : State) (c ch b : Nat) (d : DmaDesc) : State :=
  (s.setReg (aChBytes c ch) (BitVec.ofNat 32 (min b 0xFFFFFFFF))).setReg (dmaReg c (0x20 * ch + 0x18))
    (BitVec.ofNat 32 ((d.runDry b).getD 0xFFFFFFFF))

/-- `n` more bytes of the current descriptor are complete. -/
def State.dmaMoved (s : State) (c ch n : Nat) : State :=
  let q := s.chan c ch
  match q.cur with
  | some d => (s.setChan c ch { q with moved := q.moved + n }).showBytes c ch (q.moved + n) d
  | none => s

/-- The deadline of a channel for its descriptor, in CT ns (R198). -/
def DmaChan.deadline (q : DmaChan) : Option Nat :=
  match q.cur with
  | some d => (d.runDry q.moved).map (fun x => q.epochAt + x)
  | none => none

/-- Record a fault of a channel (Table 6-5). -/
def State.chFault (s : State) (c ch code err id : Nat) : State :=
  (s.setReg (dmaReg c (0x20 * ch + 0xC)) (BitVec.ofNat 32 (code + 256 * err + 65536 * id))).event (aDmaEvt c) (2 ^ (8 + ch))

/-- A stream stops at poison and waits for its re-run with the credit it holds; the bytes of the packets it has formed need no new
credit then (R211). -/
def DmaChan.keepStream (q : DmaChan) (d : DmaDesc) : DmaChan :=
  let formed := q.pos - (match q.part with | some p => p.len | none => 0)
  { q with cur := none, part := none, kept := some (d, q.remain, formed + q.paid), reads := 0, writes := 0, resends := [] }

/-- The descriptor of a channel faults (R208, R209, R211): codes 1 to 9 kill the context, 0x0A abandons the epoch, 0x0B
aborts the step for a re-run that keeps the credit of a stream. `here` says that the poison lies in this core's palette. -/
def State.dmaFault (s : State) (c ch code err : Nat) (here : Bool) : State :=
  let q := s.chan c ch
  match q.held with
  | none => s
  | some d =>
    if code = 0x0A then ((s.silentAbort c).chFault c ch code err d.id).showDma c
    else if code = 0x0B then
      let s := if d.isStream then
          let fab := { s.fab with inject := s.fab.inject.filter (fun x => !(x.core = c && x.ch = ch && x.use.isNone)) }
          ({ s with fab := fab } : State).setChan c ch (q.keepStream d)
        else (s.dropPackets c ch).setChan c ch { queue := q.queue, aborted := q.aborted ++ (if d.isAct then [d.step] else []) }
      (((((s.unkeep c ch).set (fChState c ch) 0).chFault c ch code err d.id).poisonAbort c d.step (if here then .palette else .other) true)).showDma c
    else
      let s := ((s.kill c 2 code d.step).chFault c ch code err d.id).set (fChState c ch) 4
      (s.setChan c ch { fault := d.isAct }).showDma c

/-! ## Descriptors -/

/-- A descriptor of the context that a core runs. -/
def State.dmaDesc (s : State) (c step attempt : Nat) (ws : List Nat) : DmaDesc :=
  { words := ws, ten := s.get (fTenant c), step := step, attempt := attempt }

/-- Put a descriptor into the queue of a channel (R183); one that waited for its re-run waits no longer (R203). -/
def State.dmaPush (s : State) (c ch step attempt : Nat) (ws : List Nat) : State :=
  let q := s.chan c ch
  (s.setChan c ch { q with queue := q.queue ++ [s.dmaDesc c step attempt ws], aborted := q.aborted.filter (· ≠ step) }).showDma c

/-- A DMA step issues into the queue of its channel, or waits for a place (R183). -/
def execDmaStep (c : Fin 8) (s : State) : Out := s.run (fun s =>
  .next (s.atStep c 2 (fun pc ws s =>
    let ch := bits (word ws 0) 8 3
    if 4 ≤ (s.chan c ch).queue.length then s.held c
    else (s.dmaPush c ch pc ((s.core c).seq.attempt pc) ws).issued c)))

/-- The descriptor that a channel may start next, once the one before has ended: a stream that waits for its re-run goes first (R182,
R211). -/
def DmaChan.startable (q : DmaChan) : Option DmaDesc :=
  match q.cur with
  | some _ => none
  | none => if q.kept.isSome then q.again else q.queue.head?

/-- The channel with its next descriptor started: a kept stream goes on with its REMAIN and the bytes already paid for (R200, R211). -/
def DmaChan.started (q : DmaChan) (d : DmaDesc) (epochAt : Nat) : DmaChan :=
  let q := { q with cur := some d, pos := 0, moved := 0, epochAt := epochAt, fault := false, part := none }
  match q.kept with
  | some k => { q with again := none, kept := none, remain := k.2.1, paid := k.2.2 }
  | none => { q with queue := q.queue.drop 1, remain := d.total / 32, paid := 0, frac := 0 }

/-- A channel starts its next descriptor, checking it first (R182, R192, R200, R211, R212). -/
def execDescriptorStart (c ch : Fin 8) (s : State) : Out := s.run (fun s =>
  .next (
    let q := s.chan c ch
    match q.startable with
    | none => s
    | some d =>
      let code := s.dmaCheck c ch d
      let s := (s.setChan c ch (q.started d s.tim.boundaryAt)).set (fChDesc c ch) d.id
      if code ≠ 0 then s.dmaFault c ch code 0 false
      else ((s.set (fChState c ch) (if d.isStream then 2 else 1)).showBytes c ch 0 d).showDma c))

/-! ## Packets -/

/-- A channel, or a note, presents a packet to the injection stage (R199). -/
def State.present (s : State) (c ch : Nat) (dl : Option Nat) (pk : Packet) (use : Option TxnUse) : State :=
  { s with fab := { s.fab with inject := s.fab.inject ++ [{ core := c, ch := ch, dl := dl, pk := pk, use := use }] } }

/-- Send the credit request that R200 asks for, if it asks for one. -/
def State.creditSend (s : State) (c ch : Nat) : State :=
  let q := s.chan c ch
  match q.cur with
  | none => s
  | some d =>
    let held := s.get (fHeldCred c ch)
    if d.isStream && s.get (fPendCred c ch) = 0 && !q.creqOut && decide (2 * held < d.chunk) && decide (0 < q.remain) then
      let n := min d.chunk q.remain
      let a := gLocal d.dst
      let core := (palCore a).getD 0
      let pk : Packet :=
        { dst := gNode d.dst, kind := 4, nbytes := 6, issuer := c, ten := d.ten, addr := a / 2 ^ d.dstWrap * 2 ^ d.dstWrap,
          data := leBytes 2 (d.win + 16 * core) ++ leBytes 4 (32 * n) }
      ((s.setChan c ch { q with remain := q.remain - n, creqOut := true }).set (fPendCred c ch) n).present c ch q.deadline pk
        (some (.credit c ch))
    else s

/-- Read slots, or write slots, in use against the limit of a channel's kind: ordinary channels share six (R193, R194). -/
def State.slotFree (s : State) (c ch : Nat) (read : Bool) : Bool :=
  let n (h : Nat) : Nat := if read then (s.chan c h).reads else (s.chan c h).writes
  if ch < 6 then (List.range 6).foldl (fun m h => m + n h) (if read then 0 else s.noteSlots c) < 6 else n ch = 0

/-- What the next packet of a descriptor moves: source and destination offsets and addresses, and the bytes (R186, R190). -/
def State.nextSpan (s : State) (c : Nat) (d : DmaDesc) (pos idx : Nat) : Nat × Nat × Nat :=
  let k := pos / d.len
  let j := pos % d.len
  let xs : Int := if d.mode = 3 then (idx : Int) + j else d.srcStride * k + j
  let xd : Int := if d.mode = 3 then ((k * d.elem + j : Nat) : Int) else d.dstStride * k + j
  let src := sideAddr (gLocal d.src) d.srcWrap xs
  let dst := sideAddr (gLocal d.dst) d.dstWrap xd
  let remote := if s.ownPal c d.dst then src else dst
  let n := min (d.len - j) (512 - remote % 512)
  let n := match wrapLeft (gLocal d.src) d.srcWrap xs with | some w => min n w | none => n
  let n := match wrapLeft (gLocal d.dst) d.dstWrap xd with | some w => min n w | none => n
  (src, dst, n)

/-- Bytes that a stream may still form packets of without new credit (R201, R211). -/
def State.credited (s : State) (c ch : Nat) : Nat := (s.chan c ch).paid + (s.chan c ch).frac + 32 * s.get (fHeldCred c ch)

/-- Begin one packet or local write of the span (R189, R190, R194, R201): a READ takes its read slot and goes to the injection stage;
for another the beats follow, the first of which takes the write slot. A stream waits for the credit that the packet needs. -/
def State.formSpan (s : State) (c ch : Nat) (d : DmaDesc) (src dst n : Nat) : State :=
  let q := s.chan c ch
  if s.ownPal c d.src = false then
    if s.slotFree c ch true = false then s
    else
      let pk : Packet :=
        { dst := gNode d.src, kind := 2, nbytes := 2, issuer := c, ten := d.ten, addr := src, data := leBytes 2 n }
      (s.setChan c ch { q with pos := q.pos + n, reads := q.reads + 1 }).present c ch q.deadline pk
        (some (.dmaRead c ch (dst - palBase c) n))
  else if d.isStream && decide (s.credited c ch < n) then s.set (fChState c ch) 2
  else
    (s.setChan c ch { q with pos := q.pos + n, part := some { src := src - palBase c, dst := dst, len := n } }).set
      (fChState c ch) 1

/-- A channel begins its next packet or local write, after the credit request that is due (R187, R189, R190, R200, R201). The read side
serves its beats (`State.dmaBeat`), and the last one presents it for injection. -/
def execDmaPacketForm (c ch : Fin 8) (s : State) : Out := s.run (fun s =>
  .next (
    let s := s.creditSend c ch
    let q := s.chan c ch
    match q.cur with
    | none => s
    | some d =>
      if decide (d.total ≤ q.pos) || q.part.isSome then s
      else if d.mode = 3 then
        let a := d.idx + 4 * (q.pos / d.len)
        let (s, f) := s.palCheck (d.who s) false false c a 4
        if f ≠ 0 then s.dmaFault c ch 8 0 false
        else
          let (s, bs, bad) := s.palRead c a 4 3 d.step d.attempt
          let e := gLocal d.src + leNat bs
          if bad then s.dmaFault c ch 0x0B 0 true
          else if e % 4 ≠ 0 || 512 < e % 512 + d.elem then s.dmaFault c ch 6 0 false
          else
            let (src, dst, n) := s.nextSpan c d q.pos (leNat bs)
            (s.formSpan c ch d src dst n).showDma c
      else
        let (src, dst, n) := s.nextSpan c d q.pos 0
        (s.formSpan c ch d src dst n).showDma c))

/-- A stream's packet of `n` bytes uses its credit, after the bytes that a re-run has paid for (R201, R211). -/
def State.useCredit (s : State) (c ch n : Nat) : State :=
  let q := s.chan c ch
  let paid := min q.paid n
  let left := q.frac + 32 * s.get (fHeldCred c ch) - (n - paid)
  (s.setChan c ch { q with paid := q.paid - paid, frac := left % 32 }).set (fHeldCred c ch) (left / 32)

/-- The last beat of a packet or local write has been read (R184, R189, R194, R196): a local write stands in its slot for the write side;
a packet goes to the injection stage. -/
def State.partDone (s : State) (c ch : Nat) (d : DmaDesc) (p : DmaPart) : State :=
  let s := (s.setChan c ch { s.chan c ch with part := none }).unkeep c ch
  let q := s.chan c ch
  let pk : Packet := { dst := gNode d.dst, nbytes := p.len, ten := d.ten, addr := p.dst, data := p.data }
  if s.ownPal c d.dst then s.land c { ch := ch, read := false, addr := p.dst - palBase c, data := p.data, len := p.len }
  else if d.isStream then (s.useCredit c ch p.len).present c ch q.deadline { pk with tc := 1, kind := 0 } none
  else s.present c ch q.deadline { pk with kind := 1, issuer := c } (some (.dmaWrite c ch p.len 0))

/-- The read side serves one beat of a channel: one palette row, or the part of it that the packet uses (R196). The first beat takes the
write slot (R194). Poison stops the engine before the beat (R211). -/
def State.chanBeat (s : State) (c ch : Nat) : State :=
  let q := s.chan c ch
  match q.cur, q.part with
  | some d, some p =>
    let a := p.src + p.data.length
    let n := min (p.len - p.data.length) (64 - a % 64)
    let (s, f) := s.palCheck (d.who s) false false c a n
    if f ≠ 0 then s.dmaFault c ch 8 0 false
    else
      let (s, bs, bad) := s.palRead c a n 3 d.step d.attempt
      if bad then s.dmaFault c ch 0x0B 0 true
      else
        let w := if p.data.isEmpty then q.writes + 1 else q.writes
        let p := { p with data := p.data ++ bs }
        let s := ((s.setChan c ch { q with part := some p, writes := w }).set (fChState c ch) 1).showDma c
        if p.len ≤ p.data.length then s.partDone c ch d p else s
  | _, _ => s

/-- A channel has a beat ready: its credit is found with the packet, and it holds a slot or can take one (R194, R196). -/
def State.beatReady (s : State) (c ch : Nat) : Bool :=
  (s.chan c ch).cur.isSome &&
    (match (s.chan c ch).part with
    | some p => !p.data.isEmpty || s.slotFree c ch false
    | none => false)

/-- The slot that the write side serves next (R196): those of channels 0 to 5 in the order in which they filled, then slot 6, then
slot 7 (DESIGN CHOICE, log entry 35: the spec does not say which of slots 0 to 5 a channel takes). -/
def nextLand (xs : List DmaLand) : Option DmaLand :=
  match xs.find? (fun x => decide (x.ch < 6)) with
  | some x => some x
  | none =>
    match xs.find? (fun x => x.ch = 6) with
    | some x => some x
    | none => xs.head?

/-- The write side puts the first `n` bytes of a slot into the palette; the last of them frees the slot and completes its bytes (R184,
R194). -/
def State.landPut (s : State) (c : Nat) (x : DmaLand) (n : Nat) : State :=
  let s := s.palPut c x.addr (x.data.take n)
  let rest := { x with addr := x.addr + n, data := x.data.drop n }
  let put (l : List DmaLand) : List DmaLand := if x.data.length ≤ n then l.erase x else l.replace x rest
  let s := s.onCore c (fun k => { k with dma := { k.dma with land := put k.dma.land } })
  if x.data.length ≤ n then
    let q := s.chan c x.ch
    let q := if x.read then { q with reads := q.reads - 1 } else { q with writes := q.writes - 1 }
    ((s.setChan c x.ch q).dmaMoved c x.ch x.len).showDma c
  else s

/-- One CORE_CLK cycle of the write side: one beat, of one palette row, of the slot that is next (R192, R196). -/
def State.landBeat (s : State) (c : Nat) : State :=
  match nextLand (s.core c).dma.land with
  | none => s
  | some x =>
    match (s.chan c x.ch).cur with
    | none => s.dropPackets c x.ch
    | some d =>
      let n := min x.data.length (64 - x.addr % 64)
      let (s, f) := s.palCheck (d.who s) false true c x.addr n
      if f ≠ 0 then s.dmaFault c x.ch 8 0 false else s.landPut c x n

/-- A deadline ranks before another: none ranks last (R198). -/
def earlier (x y : Option Nat) : Bool :=
  match x, y with
  | some a, some b => decide (a < b)
  | some _, none => true
  | none, _ => false

/-- The high-priority channel that the next beat serves: they alternate when both are ready (R196). -/
def State.highBeat (s : State) (c : Nat) : Option Nat :=
  let other := 13 - (s.core c).dma.lastHigh
  if s.beatReady c other then some other
  else if s.beatReady c (13 - other) then some (13 - other)
  else none

/-- The ordinary channel that the next ordinary beat serves: the one within a packet, or the earliest deadline and lowest number
(R196). -/
def State.ordBeat (s : State) (c : Nat) : Option Nat :=
  match ((s.core c).dma.keep).filter (s.beatReady c) with
  | some ch => some ch
  | none => ((List.range 6).filter (s.beatReady c)).foldl (fun b ch => match b with
      | none => some ch
      | some x => if earlier (s.chan c ch).deadline (s.chan c x).deadline then some ch else some x) none

/-- A high-priority beat takes the place of an ordinary one (R197): the channel shows PREEMPTED and keeps what it holds; a pre-emption
within a packet is counted once. -/
def State.preempt (s : State) (c : Nat) : State :=
  match s.ordBeat c with
  | none => s
  | some ch =>
    if s.get (fChState c ch) = 3 then s
    else
      let within := match (s.chan c ch).part with | some p => !p.data.isEmpty | none => false
      (if within then s.bump (dmaReg c 0x40C) else s).set (fChState c ch) 3

/-- A descriptor of a channel completes (R184): everything it moved has landed. -/
def execDescriptorComplete (c ch : Fin 8) (s : State) : Out := s.run (fun s =>
  .next (
    let q := s.chan c ch
    match q.cur with
    | none => s
    | some d =>
      if decide (q.pos < d.total) || q.part.isSome || q.reads ≠ 0 || q.writes ≠ 0 then s
      else
        let a := dmaReg c (0x20 * ch + 8)
        let s := (s.setReg a (s.reg a + 1#32)).setChan c ch { q with cur := none, frac := 0, paid := 0 }
        let s := if d.irq then s.event (aDmaEvt c) (2 ^ ch.val) else s
        (((s.set (fChState c ch) 0).set (fHeldCred c ch) 0).set (fPendCred c ch) 0).showDma c))

/-- 100 us after ERR 0x04 a channel sends the packet again with a new tag (R210). -/
def execBulkResend (c ch : Fin 8) (s : State) : Out := s.run (fun s =>
  .next (
    let q := s.chan c ch
    match q.cur, q.resends.find? (fun r => decide (r.since + 100 * us ≤ s.now)) with
    | some d, some r =>
      (s.setChan c ch { q with resends := q.resends.erase r }).present c ch q.deadline
        { dst := r.node, kind := 1, nbytes := r.data.length, issuer := c, ten := d.ten, addr := r.addr, data := r.data }
        (some (.dmaWrite c ch r.data.length r.tries))
    | _, _ => s))

/-- FLUSH of `DMA_CH_c_CTL` (Table 6-5). -/
def execDmaFlush (c ch : Fin 8) (s : State) : Out := s.runGate c (fun s => .next ((s.flushChan c ch).showDma c))

/-! ## Notes -/

/-- `DMA_NOTE_s_STAT`. -/
def aNoteStat (c sl : Nat) : Nat := dmaReg c (0x20C + 0x80 * sl)

/-- A note slot finishes: state 2 DONE or 3 ERR with its code (R205). Groups that wait for it wait no longer. -/
def State.noteDone (s : State) (c sl st err : Nat) : State :=
  let s := (s.setReg (aNoteStat c sl) (BitVec.ofNat 32 (st + 256 * err))).event (aDmaEvt c) (2 ^ (16 + sl))
  let s := s.onCore c (fun k => { k with tg := { k.tg with
    groups := k.tg.groups.map (fun e => (e.1, e.2.map (fun (g : Group) => { g with notes := g.notes.filter (· ≠ sl) }))),
    launches := k.tg.launches.map (fun (l : Launch) => { l with notes := l.notes.filter (· ≠ sl) }) } })
  s.showDma c

/-- GO of a note slot by a context (R204, R205): its beat follows those of earlier notes. -/
def State.noteGo (s : State) (c sl ten : Nat) : State :=
  if (s.reg (aNoteStat c sl)).toNat % 4 = 1 then s.event (aDmaEvt c) 0x100000
  else
    let ctl := (s.reg (dmaReg c (0x208 + 0x80 * sl))).toNat
    let n := ctl % 128
    let kind := bits ctl 7 2
    let a := s.reg64 (dmaReg c (0x200 + 0x80 * sl))
    let data := ((List.range 16).flatMap (fun i => leBytes 4 (s.reg (dmaReg c (0x240 + 0x80 * sl + 4 * i))).toNat)).take n
    if kind = 3 || n < 4 || 64 < n || n % 4 ≠ 0 then s.noteDone c sl 3 0x83
    else if gMid a ≠ 0 || (kind = 0 && !s.ownPal c a) then s.noteDone c sl 3 0x82
    else
      let pk : Packet := { dst := gNode a, kind := if kind = 1 then 1 else 3, nbytes := n, issuer := c, ten := ten, addr := gLocal a, data := data }
      let note : DmaNote := { slot := sl, pk := pk, local_ := kind = 0 }
      ((s.setReg (aNoteStat c sl) 1#32).onCore c (fun k => { k with dma := { k.dma with notes := k.dma.notes ++ [note] } })).showDma c

/-- The beat of the oldest note, once a write slot is free (R194, R196, R204, R205): a local write lands; another goes to the injection
stage. -/
def State.noteBeat (s : State) (c : Nat) (x : DmaNote) : State :=
  let s := s.onCore c (fun k => { k with dma := { k.dma with notes := k.dma.notes.drop 1 } })
  if x.local_ then
    let a := x.pk.addr - palBase c
    let (s, f) := s.palCheck { ten := x.pk.ten, src := s.node } false true c a x.pk.nbytes
    if f ≠ 0 then s.noteDone c x.slot 3 0x88 else (s.palPut c a x.pk.data).noteDone c x.slot 2 0
  else (s.present c (8 + x.slot) none x.pk (some (.note c x.slot))).showDma c

/-- One CORE_CLK cycle of the read side (R196, R197). -/
def State.dmaBeat (s : State) (c : Nat) : State :=
  match s.highBeat c with
  | some ch => ((s.preempt c).onCore c (fun k => { k with dma := { k.dma with lastHigh := ch } })).chanBeat c ch
  | none =>
    match ((s.core c).dma.notes.head?).filter (fun _ => s.slotFree c 0 false), s.ordBeat c with
    | some x, _ => s.noteBeat c x
    | none, some ch => (s.onCore c (fun k => { k with dma := { k.dma with keep := some ch } })).chanBeat c ch
    | none, none => s

/-- One CORE_CLK cycle of an engine's two sides, the write side after the read side (R196). -/
def State.dmaCycle (s : State) (c : Nat) : State := (s.dmaBeat c).landBeat c

/-! ## The injection stage -/

/-- An item goes before another of its class (R199, R397): one of a high-priority channel or of a stripe ring, then the earliest deadline,
the lower core and the lower channel. Notes rank as channels without a deadline (DESIGN CHOICE, log entry 35). -/
def Inject.before (x y : Inject) : Bool :=
  let hi (i : Inject) : Bool := i.ch = 6 || i.ch = 7 || decide (8 ≤ i.core)
  if hi x ≠ hi y then hi x
  else if earlier x.dl y.dl then true
  else if earlier y.dl x.dl then false
  else x.core < y.core || (x.core = y.core && x.ch < y.ch)

/-- The packets of a class that stand at the injection stage: the oldest of each engine and of each ring writer (R199, R397). -/
def presented (xs : List Inject) (stream : Bool) : List Inject :=
  (List.range 20).filterMap (fun c => xs.find? (fun x => x.core = c && x.use.isNone == stream))

/-- The next packet of a class. -/
def nextInject (xs : List Inject) (stream : Bool) : Option Inject :=
  (presented xs stream).foldl (fun b x => match b with
    | none => some x
    | some y => if x.before y then some x else some y) none

/-- A packet passes to the router: a posted write of an engine frees its slot and is complete (R184, R194); a request is issued. -/
def State.pass (s : State) (x : Inject) : State :=
  let s := { s with fab := { s.fab with inject := s.fab.inject.erase x } }
  match x.use with
  | some u => s.issue x.pk u
  | none =>
    if 8 ≤ x.core then s.sendFrom x.pk
    else
    let q := s.chan x.core x.ch
    (((s.setChan x.core x.ch { q with writes := q.writes - 1 }).dmaMoved x.core x.ch x.pk.nbytes).sendFrom x.pk).showDma x.core

/-- The injection stage passes the next packet of a class, streams or requests (R199). -/
def State.injectNext (s : State) (stream : Bool) : State :=
  match nextInject s.fab.inject stream with
  | some x => s.pass x
  | none => s

/-- The DMA engines in one CTRL_CLK cycle: three CORE_CLK cycles of each, and one packet of each class at the injection stage
(R117, R196, R199; log entry 35). -/
def State.dmaTick (s : State) : State :=
  (((List.range 8).foldl (fun s c => ((s.dmaCycle c).dmaCycle c).dmaCycle c) s).injectNext true).injectNext false

/-- A use that belongs to a note slot of a core. -/
def usesNote (c sl : Nat) : TxnUse → Bool
  | .note core n => core = c && n = sl
  | _ => false

/-- A note stops: its answer is discarded and its slot is free (R207). -/
def State.stopNote (s : State) (c sl : Nat) : State :=
  let s := (s.dropPackets c (8 + sl)).discardTxns (usesNote c sl)
  let s := s.onCore c (fun k => { k with dma := { k.dma with notes := k.dma.notes.filter (fun x => x.slot ≠ sl) } })
  (s.setReg (aNoteStat c sl) 0#32).showDma c

/-- The notes of a tenant stop with its release (R207). -/
def State.stopNotes (s : State) (t : Nat) : State :=
  let held := ((s.fab.txns.map (fun x => (x.pk, x.use)) ++ s.fab.tagWait.map (fun x => (x.pk, x.use)) ++
      s.fab.inject.filterMap (fun x => x.use.map (fun u => (x.pk, u)))).filterMap (fun x => match x.2 with
    | .note c sl => if x.1.ten = t then some (c, sl) else none
    | _ => none)) ++
    (List.range 8).flatMap (fun c => ((s.core c).dma.notes.filter (fun x => x.pk.ten = t)).map (fun x => (c, x.slot)))
  held.foldl (fun s x => s.stopNote x.1 x.2) s

/-- A write of GO to a note slot (R204). -/
def execDmaNoteGo (c : Fin 8) (sl : Fin 4) (ten : Fin 8) (s : State) : Out := s.runGate c (fun s => .next (s.noteGo c sl ten))

end Sys2Proof.Machine
end

