-- ==== Sys2Proof/Machine/Seq.lean ====
section
/-! DEFINITION. Seq: the core sequencer: passes, waits, barriers, signals, plan switches and self-test steps (07, 21). -/

namespace Sys2Proof.Machine

/-! ## Passes -/

/-- The 16 counters that WAIT names: eight step counters, eight DMA completion counts (Table 7-2). -/
def State.waitCount (s : State) (c k : Nat) : Nat :=
  (s.reg (if k < 8 then seqReg c (0x30 + 4 * k) else dmaReg c (0x20 * (k - 8) + 8))).toNat

/-- A core's number of entries. -/
def State.seqLen (s : State) (c : Nat) : Nat := (s.reg (seqReg c 0x10)).toNat

/-- The whole step list lies in one enabled region that the context may reach (R217). -/
def State.listOk (s : State) (c : Nat) : Bool :=
  let base := (s.reg (seqReg c 0xC)).toNat
  decide (0 < s.seqLen c) && base % 64 = 0 && s.inOneRegion (s.coreWho c) c base (64 * s.seqLen c) false false

/-- Start a pass with epoch `p` (R217, R225): bases captured, PC at `SEQ_ENTRY`. -/
def State.startPass (s : State) (c p : Nat) : State :=
  let entry := (s.reg (seqReg c 0x14)).toNat % 65536
  let s := s.onSeq c (fun q => { q with
    pass := p, passAt := s.ctNs, bases := (List.range 16).map (s.waitCount c), waited := 0, atEnd := false, boundary := false,
    reruns := [], attempts := [] })
  let s := s.set (fSeqPc c) entry
  if s.listOk c then s.set (fSeqState c) 1 else s.kill c 0 0x04 entry

/-- GO of `SEQ_CTL`: the first pass starts at once (R225); a context that runs takes no GO. -/
def State.seqGo (s : State) (c : Nat) : State :=
  if s.get (fSeqState c) = 0 || s.get (fSeqState c) = 5 then s.startPass c s.tim.epoch else s

/-- GO of `SEQ_CTL` is written. -/
def execSeqGo (c : Fin 8) (s : State) : Out := s.runGate c (fun s => .next (s.seqGo c))

/-- HALT of `SEQ_CTL` is written (R216). -/
def execSeqHalt (c : Fin 8) (s : State) : Out := s.runGate c (fun s => .next (s.haltCore c))

/-- RERUN_GO: the re-fetch is done (R229). Firmware has written the lines of the aborted steps in place, with the bytes that the mirror
shard or the flash store gave it: free values (Table 5-4, log entry 34). -/
def State.rerunGo (s : State) (c : Nat) : State :=
  let s := ((s.core c).seq.reruns.filter (fun r => r.refetch)).foldl (fun s r =>
    match r.line with
    | some a => ({ s with free := s.free + 1 } : State).ingressPut c a ((List.range 64).map (Config.freeByte s.free))
    | none => s) s
  s.onSeq c (fun q => { q with reruns := q.reruns.map (fun (r : Rerun) => { r with refetch := false }) })

/-- RERUN_GO of `SEQ_CTL` is written (R229). -/
def execRerunGo (c : Fin 8) (s : State) : Out := s.runGate c (fun s => .next (s.rerunGo c))

/-- ABANDON of `SEQ_CTL` is written (R227). -/
def execSeqAbandon (c : Fin 8) (s : State) : Out := s.runGate c (fun s => .next (s.seqAbandon c))

/-- A write of `SEQ_CTL` (Table 7-9): GO, HALT, RERUN_GO, ABANDON, in this order. -/
def State.seqCtl (s : State) (c : Nat) (v : Word) : State :=
  let s := if v.getLsbD 0 then s.seqGo c else s
  let s := if v.getLsbD 1 then s.haltCore c else s
  let s := if v.getLsbD 2 then s.rerunGo c else s
  if v.getLsbD 3 then s.seqAbandon c else s

/-- A write of `SEQ_NEXT_CTL` (R228): the epoch of the switch is fixed when ARM is set. -/
def State.seqNextCtl (s : State) (c : Nat) (v : Word) : State :=
  let n := s.reg64 (seqReg c 0x24)
  let s := s.set (fSeqArm c) (b2n (v.getLsbD 0))
  let due := match (s.core c).seq.switchAt with
    | some m => m
    | none => if n ≤ s.tim.epoch then s.tim.epoch + 1 else n
  s.onSeq c (fun q => { q with switchAt := if v.getLsbD 0 then some due else none })

/-- A plan switch is armed and due. -/
def State.switchDue (s : State) (c : Nat) : Bool :=
  s.get (fSeqArm c) = 1 && (match (s.core c).seq.switchAt with | some n => decide (n ≤ s.tim.epoch) | none => false)

/-- The plan switch of a core at its boundary (R228, R251): a killed context stays killed. -/
def execPlanSwitch (c : Fin 8) (s : State) : Out := s.run (fun s =>
  .next (
    if s.switchDue c = false then s
    else
      let killed := decide (s.get (fSeqState c) = 5)
      let n := ((s.core c).seq.switchAt).getD s.tim.epoch
      let s := s.endWork c
      let s := s.setReg (seqReg c 0xC) (s.reg (seqReg c 0x18))
      let s := s.setReg (seqReg c 0x10) (s.reg (seqReg c 0x1C))
      let s := s.setReg (seqReg c 0x14) (s.reg (seqReg c 0x20))
      let s := ((s.set (fSeqArm c) 0).onSeq c (fun q => { q with switchAt := none })).event (aSeqEvt c) 8
      if killed then s else s.startPass c n))

/-- A boundary fell before the pass reached EPOCH_END (R226). -/
def State.overrun (s : State) (c : Nat) : State :=
  if (s.core c).seq.atEnd then s else (s.event (aSeqEvt c) 4).bump (seqReg c 0x58)

/-- What an epoch boundary does to a core's pass (R225 to R227, R251): a pass that waits for the boundary starts, a running one is
overrun, a step that waited across two boundaries kills. A due switch is left to the switch itself, which no stalled step holds up: it
comes before that kill (R228; DEDUCED, log entry 23). -/
def State.coreBoundary (s : State) (c : Nat) : State :=
  let st := s.get (fSeqState c)
  if st = 0 || st = 5 then s
  else if s.switchDue c then (if st = 3 || st = 6 then s else s.overrun c)
  else if st = 3 || st = 6 then s.startPass c s.tim.epoch
  else
    let q := (s.core c).seq
    let s := s.overrun c
    let w := if st = 1 then 0 else q.waited + 1
    let s := s.onSeq c (fun q => { q with boundary := true, waited := w })
    if 2 ≤ w then s.kill c 0 0x07 (s.get (fSeqPc c)) else s

/-! ## The sequencer's own entries -/

/-- A value has reached a target (R222). -/
def reached (x t : Nat) : Bool := 0 ≤ signed 32 (unsigned 32 ((x : Int) - t))

/-- A target that grows with the pass epoch (R222). -/
def State.passValue (s : State) (c v mul : Nat) : Nat := (v + mul * (s.core c).seq.pass) % 4294967296

/-- A WAIT step (R222, Table 7-2). -/
def execWaitStep (c : Fin 8) (s : State) : Out := s.run (fun s =>
  .next (s.atStep c 4 (fun _ ws s =>
    let k := bits (word ws 0) 8 4
    let idle := !(bit (word ws 0) 12) || decide ((s.reg (dmaReg c 0x408)).toNat % 2 = 1)
    if reached (s.waitCount c k) ((s.core c).seq.bases.getD k 0 + word ws 1) && idle then s.issued c else s.held c)))

/-- A BARRIER reads its flag word and issues once it has reached its target (R223). -/
def State.barrier (s : State) (c pc : Nat) (ws : List Nat) : State :=
  let a := word ws 3
  let (s, f) := s.palCheck (s.coreWho c) false false c a 4
  if f ≠ 0 then s.kill c 0 0x05 pc
  else
    let (s, bs, bad) := s.palRead c a 4 5 pc ((s.core c).seq.attempt pc)
    if bad then s.poisonAbort c pc .palette true
    else if reached (leNat bs) (s.passValue c (word ws 1) (word ws 2)) then s.issued c
    else s.held c

/-- A BARRIER step (R222, R223). -/
def execBarrier (c : Fin 8) (s : State) : Out := s.run (fun s => .next (s.atStep c 5 (fun pc ws s => s.barrier c pc ws)))

/-- A waiting BARRIER reads its flag word again (R223). -/
def execBarrierReread (c : Fin 8) (s : State) : Out := s.run (fun s =>
  .next (if s.get (fSeqState c) = 2 then s.atStep c 5 (fun pc ws s => s.barrier c pc ws) else s))

/-- A local SIGNAL writes its value (R223). -/
def State.signalPut (s : State) (c : Nat) (x : LocalSignal) : State :=
  let a := gLocal x.addr - palBase c
  let (s, f) := s.palCheck (s.coreWho c) false true c a 4
  if s.ownPal c x.addr = false || f ≠ 0 then s.kill c 0 0x06 x.step else s.palPut c a x.data

/-- A remote SIGNAL is performed; the local ones behind it follow, up to the next remote one (R223). -/
def State.signalDone (s : State) (c step : Nat) : State :=
  let q := (s.core c).seq
  let rest := q.signals.erase step
  let due := (rest.takeWhile (fun i => q.locals.any (fun x => x.step = i))).filterMap (fun i => q.locals.find? (fun x => x.step = i))
  due.foldl (fun s x =>
    if (s.core c).seq.locals.contains x then
      (s.onSeq c (fun q => { q with signals := q.signals.erase x.step, locals := q.locals.erase x })).signalPut c x
    else s) (s.onSeq c (fun q => { q with signals := rest }))

/-- A SIGNAL step writes its value locally or by WRITE_BULK, after those issued before it (R222, R223). -/
def execSignal (c : Fin 8) (s : State) : Out := s.run (fun s =>
  .next (s.atStep c 6 (fun pc ws s =>
    let a := word ws 3 + 4294967296 * word ws 4
    let data := leBytes 4 (s.passValue c (word ws 1) (word ws 2))
    let s := s.issued c
    if a % 4 ≠ 0 || gMid a ≠ 0 then s.kill c 0 0x06 pc
    else if bit (word ws 0) 8 then
      (s.onSeq c (fun q => { q with signals := q.signals ++ [pc] })).issue
        { dst := gNode a, kind := 1, nbytes := 4, issuer := c, ten := s.get (fTenant c), addr := gLocal a, data := data } (.signal c pc)
    else
      let x : LocalSignal := { step := pc, addr := a, data := data }
      if (s.core c).seq.signals.isEmpty then s.signalPut c x
      else s.onSeq c (fun q => { q with signals := q.signals ++ [pc], locals := q.locals ++ [x] }))))

/-- A CREDIT_WAIT step (R224). -/
def execCreditWait (c : Fin 8) (s : State) : Out := s.run (fun s =>
  .next (s.atStep c 7 (fun _ ws s =>
    let ch := bits (word ws 0) 8 3
    if !(s.chan c ch).hasDesc DmaDesc.isStream || decide (word ws 1 ≤ s.get (fHeldCred c ch)) then s.issued c else s.held c)))

/-- A CREDIT_REL step (R173, R224). -/
def execCreditRel (c : Fin 8) (s : State) : Out := s.run (fun s =>
  .next (s.atStep c 8 (fun pc ws s =>
    let w := bits (word ws 0) 8 4
    if s.winOpen c w then (s.winRelease c w (word ws 1)).issued c else s.kill c 0 0x05 pc)))

/-- An EPOCH_END step (R225): it drains, then waits for a boundary, or starts the next pass when one has already fallen. -/
def execEpochEnd (c : Fin 8) (s : State) : Out := s.run (fun s =>
  .next (s.atStep c 9 (fun _ _ s =>
    let s := s.onSeq c (fun q => { q with atEnd := true })
    if s.inFlight c then s.held c
    else if (s.core c).seq.boundary then s.startPass c s.tim.epoch
    else s.set (fSeqState c) 3)))

/-! ## Self-test of the arrays -/

/-- Arrays of a core that an operation or TEST step uses. -/
def State.arraysBusy (s : State) (c : Nat) : Nat := (s.core c).seq.tensor.foldl (fun m t => m ||| t.arrays) 0

/-- `SAF_ST_CORE_n`. -/
def aStCore (c : Nat) : Nat := 0x24000080 + 4 * c

/-- A vector set has run on an array (R622, R623): its time is kept; a mismatch raises code 0x0D. -/
def State.setRan (s : State) (c a st : Nat) (pass : Bool) : State :=
  let s := { s with saf := { s.saf with setRun := tblSet (fun _ => 0) s.saf.setRun ((c * 4 + a) * 16 + st) s.ctNs } }
  let overdue := (List.range 64).any (fun i => decide (s.ctNs ≥ tblGet (fun _ => 0) s.saf.setRun (c * 64 + i) + 40000000))
  let s := if overdue then s else s.setReg (aStCore c) (s.reg (aStCore c) &&& ~~~ 0x20000#32)
  if pass then s
  else
    ((s.setReg (aStCore c) ((s.reg (aStCore c) &&& 0x20000#32) ||| BitVec.ofNat 32 (a + 256 * st + 65536))).event (aSeqEvt c) 16).safety
      0x0D c

/-- A TEST step issues once its arrays are free (R622, R251). -/
def execTest (c : Fin 8) (s : State) : Out := s.run (fun s =>
  .next (s.atStep c 10 (fun pc ws s =>
    let arr := bits (word ws 0) 8 4
    if s.arraysBusy c &&& arr ≠ 0 then s.held c
    else
      ((s.onSeq c (fun q => { q with tensor := q.tensor ++
        [({ step := pc, words := ws, arrays := arr, since := s.now, test := true } : TensorRun)] })).issued c).showTns c)))

/-- The vectors of a TEST step have run: pass or mismatch on its arrays, and its counter rises (R221, R622). -/
def execTestComplete (c : Fin 8) (st : Nat) (pass : Bool) (s : State) : Out := s.run (fun s =>
  .next (
    match (s.core c).seq.tensor.find? (fun t => t.test && t.step = st) with
    | none => s
    | some t =>
      let s := s.onSeq c (fun q => { q with tensor := q.tensor.erase t })
      let s := ((List.range 4).filter (fun a => bit t.arrays a)).foldl (fun s a => s.setRan c a (word t.words 1) pass) s
      (s.stepDone c (bits (word t.words 0) 24 3)).showTns c))

/-- The self-test engine runs a set on an array with no operation in flight (R622). -/
def execSelfTestSetRun (c : Fin 8) (a : Fin 4) (st : Fin 16) (pass : Bool) (s : State) : Out := s.run (fun s =>
  .next (if bit (s.arraysBusy c) a then s else s.setRan c a st pass))

/-- A set that has not run for 30 ms is forced, on a core whose clock is not gated (R623). -/
def execSelfTestForce (c : Fin 8) (a : Fin 4) (st : Fin 16) (pass : Bool) (s : State) : Out := s.run (fun s =>
  .next (
    if !bit (s.reg 0x23000008).toNat c || bit (s.arraysBusy c) a || s.ctNs < tblGet (fun _ => 0) s.saf.setRun ((c.val * 4 + a.val) * 16 + st.val) + 30000000 then s
    else (s.bump 0x240000A4).setRan c a st pass))

/-- A set that has not run for 40 ms sets OVERDUE and raises code 0x0D (R623). Bit 9 of `SAF_MON_EN` enables the check. -/
def execSelfTestOverdue (c : Fin 8) (a : Fin 4) (st : Fin 16) (s : State) : Out := s.run (fun s =>
  .next (
    if bit (s.reg 0x23000008).toNat c && (s.reg 0x24000030).getLsbD 9 && decide (tblGet (fun _ => 0) s.saf.setRun ((c.val * 4 + a.val) * 16 + st.val) + 40000000 ≤ s.ctNs) then
      (s.setReg (aStCore c) (s.reg (aStCore c) ||| 0x20000#32)).safety 0x0D c
    else s))

end Sys2Proof.Machine
end

