-- ==== Sys2Proof/Machine/Sfu.lean ====
section
/-! DEFINITION. Sfu: the special function unit: tables, loads, evaluation, row statistics and its self-test (09). -/

namespace Sys2Proof.Machine

/-! ## Slots -/

/-- A slot of a core's SFU. -/
def State.sfuSlot (s : State) (c i : Nat) : SfuSlot := tblGet (fun _ => {}) (s.core c).sfu.slots i

/-- Change a core's SFU. -/
def State.onSfu (s : State) (c : Nat) (f : SfuState → SfuState) : State := s.onCore c (fun k => { k with sfu := f k.sfu })

/-- `SFU_EVT`. -/
def aSfuEvt (c : Nat) : Nat := sfuReg c 0x10
/-- Registers of a slot: 0 ID, 4 ULO, 8 UHI, 0xC OOR_CNT, 0x10 SIG. -/
def aSlot (c i off : Nat) : Nat := sfuReg c (0x100 + 0x20 * i + off)

/-- A slot becomes EMPTY (R285, R294). -/
def State.sfuEmpty (s : State) (c i : Nat) : State :=
  let s := s.onSfu c (fun u => { u with slots := tblSet (fun _ => {}) u.slots i {} })
  (s.setReg (sfuReg c 0xC) (s.reg (sfuReg c 0xC) &&& ~~~ BitVec.ofNat 32 (2 ^ i))).setReg (aSlot c i 0) 0#32

/-! ## Lookup and evaluation (R277 to R279) -/

/-- Where an input falls: NaN, below, above, or a segment with its local variable. -/
inductive SfuPlace where
  | nan
  | below
  | above
  | seg (i t : Nat)
  deriving DecidableEq, Repr

/-- FP32 pattern of 2^k times an integer, rounded. -/
def scaled (m : Int) (k : Int) : Nat := toF32 (finOf false m k)

/-- floor(v / 2^k) of a value that is not negative. -/
def floorDiv (v : FVal) (k : Int) : Nat :=
  match v with
  | .fin _ m e => if 0 ≤ e - k then m * 2 ^ (e - k).toNat else m / 2 ^ (k - e).toNat
  | _ => 0

/-- The place of an input in a table with header words `h`. -/
def sfuPlace (h : List Nat) (x : Nat) : SfuPlace :=
  let nseg := word h 0 % 128
  let v := f32 x
  if v = .nan then .nan
  else if bits (word h 0) 7 2 = 0 then
    let lo := f32 (word h 1)
    let k := signed 8 (word h 2)
    let d := v.add lo.neg
    if v.lt lo then .below
    else if v = .inf false then .above
    else
      let i := floorDiv d k
      if nseg ≤ i then .above else .seg i (toF32 (d.add (finOf false (-(i : Int)) k)))
  else
    let eLo := word h 2 % 256
    let sub := bits (word h 2) 8 2
    let e := bits x 23 8
    if bit x 31 || decide (e < eLo) || decide (x % 2147483648 = 0) then .below
    else
      let i := (e - eLo) * 2 ^ sub + bits x (23 - sub) sub
      let b := x / 2 ^ (23 - sub) * 2 ^ (23 - sub)
      if nseg ≤ i then .above else .seg i (toF32 (v.add (f32 b).neg))

/-- A line outside the domain: A, or fma(B, x, A). -/
def sfuLine (a b x : Nat) : Nat := if (f32 b).eq (.fin false 0 0) then a else ffma b x a

/-- The result of a table at an input, by its place (R279). -/
def sfuAt (k : SfuSlot) (x : Nat) : SfuPlace → Nat
  | .nan => fp32.nan
  | .below => sfuLine (word k.head 3) (word k.head 4) x
  | .above => sfuLine (word k.head 5) (word k.head 6) x
  | .seg i t =>
    let c (j : Nat) : Nat := word k.coefs (4 * i + j)
    ffma (ffma (ffma (c 3) t (c 2)) t (c 1)) t (c 0)

/-- SFU(x) of R280. -/
def sfuTable (k : SfuSlot) (x : Nat) : Nat := sfuAt k x (sfuPlace k.head x)

/-- EB_NEG and EB_POS of a place. -/
def sfuBounds (k : SfuSlot) : SfuPlace → Nat × Nat
  | .seg i _ => (word k.bounds (2 * i), word k.bounds (2 * i + 1))
  | .below => (word k.head 7, word k.head 8)
  | _ => (word k.head 9, word k.head 10)

/-- An evaluation at a place reads a word of the slot whose parity is wrong (R294): the header places every input but a NaN, and a segment
gives its coefficients. -/
def SfuSlot.badAt (k : SfuSlot) : SfuPlace → Bool
  | .nan => false
  | .seg i _ => k.badPar.contains 64 || k.badPar.contains i
  | _ => k.badPar.contains 64

/-- Evaluate a slot at an input in use (R282, R294): the result and whether it is poisoned. -/
def State.sfuEval (s : State) (c i x : Nat) : State × Nat × Bool :=
  let k := s.sfuSlot c i
  let v := f32 x
  let oor := decide (v ≠ .nan) && (v.lt (f32 (s.reg (aSlot c i 4)).toNat) || (f32 (s.reg (aSlot c i 8)).toNat).lt v)
  let s := if oor then (s.bump (aSlot c i 0xC)).event (aSfuEvt c) 0x10 else s
  if k.badAt (sfuPlace k.head x) then ((s.sfuEmpty c i).event (aSfuEvt c) 8, 0, true) else (s, sfuTable k x, false)

/-- Record a fault of the SFU and kill the context (Table 9-6). -/
def State.sfuKill (s : State) (c code index step : Nat) : State :=
  let s := (s.setReg (sfuReg c 0x14) (BitVec.ofNat 32 (code + 256 * index + 65536 * (step % 65536)))).event (aSfuEvt c) 0x40
  s.kill c 4 code step

/-! ## Loading a slot (R283 to R285) -/

/-- Show a load. -/
def State.showLoad (s : State) (c st slot cause index : Nat) : State :=
  s.setReg (sfuReg c 8) (BitVec.ofNat 32 (st + 16 * slot + 256 * cause + 65536 * (index % 65536)))

/-- GO of `SFU_LOAD_CTL` for a slot (R283, Table 9-3 cause 0x01). -/
def State.sfuLoadGo (s : State) (c i : Nat) : State :=
  let s := s.setReg (sfuReg c 4) (BitVec.ofNat 32 i)
  if (s.sfuSlot c i).ready || (s.core c).sfu.loading.isSome then (s.showLoad c 4 i 1 0).event (aSfuEvt c) 2
  else (s.onSfu c (fun u => { u with loading := some i })).showLoad c 1 i 0 0

/-- GO of `SFU_LOAD_CTL` is written. -/
def execSfuLoadGo (c : Fin 8) (slot : Fin 16) (s : State) : Out := s.runGate c (fun s => .next (s.sfuLoadGo c slot))

/-- UNLOAD of `SFU_LOAD_CTL` is written (R285). -/
def execSfuUnload (c : Fin 8) (slot : Fin 16) (s : State) : Out := s.runGate c (fun s =>
  .next ((s.setReg (sfuReg c 4) (BitVec.ofNat 32 slot.val)).sfuEmpty c slot))

/-- Length of a table image from header words 0 and 11 (R275). -/
def imageLen (h : List Nat) : Nat := 64 + 24 * (word h 0 % 128) + 12 * (word h 11 % 2048)

/-- Whether an FP32 pattern is finite. -/
def isFin (w : Nat) : Bool := match f32 w with | .fin _ _ _ => true | _ => false

/-- X_LO / W is an integer k with |k| + NSEG at most 2^24 (Table 9-3 cause 0x03). -/
def gridOk (lo nseg : Nat) (k : Int) : Bool :=
  match f32 lo with
  | .fin _ m e =>
    let whole := decide (m = 0) || decide (k ≤ e) || decide (m % 2 ^ (k - e).toNat = 0)
    whole && decide (floorDiv (.fin false m e) k + nseg ≤ 16777216)
  | _ => false

/-- Cause 0x03: the geometry of the header. -/
def headOk (h : List Nat) : Bool :=
  let nseg := word h 0 % 128
  let k := signed 8 (word h 2)
  let eLo := word h 2 % 256
  let sub := bits (word h 2) 8 2
  decide (1 ≤ nseg) && decide (nseg ≤ 64) && decide (bits (word h 0) 7 2 < 2) && decide (bits (word h 0) 16 16 ≠ 0) &&
    (if bits (word h 0) 7 2 = 0 then decide (-24 ≤ k) && decide (k ≤ 8) && gridOk (word h 1) nseg k && decide (sub = 0)
     else decide (1 ≤ eLo) && decide (eLo ≤ 254) && decide (word h 1 = 0) && decide (eLo + (nseg + 2 ^ sub - 1) / 2 ^ sub ≤ 255))

/-- Bits that the header may set (Table 9-1). -/
def headMask : List Nat :=
  [0xFFFF01FF, 0xFFFFFFFF, 0x3FF, 0xFFFFFFFF, 0xFFFFFFFF, 0xFFFFFFFF, 0xFFFFFFFF, 0xFFFFFFFF, 0xFFFFFFFF, 0xFFFFFFFF,
    0xFFFFFFFF, 0x7FF, 0, 0, 0, 0xFFFFFFFF]

/-- A pair of bounds obeys R281; segment bounds are finite. -/
def boundOk (neg pos : Nat) (seg : Bool) : Bool :=
  let n := f32 neg
  let p := f32 pos
  let zero : FVal := .fin false 0 0
  decide (n ≠ .nan) && decide (p ≠ .nan) && !(zero.lt n) && !(p.lt zero) && (!seg || (isFin neg && isFin pos))

/-- A check point passes R284: bounds of the range that X falls in. -/
def pointOk (k : SfuSlot) (x lo hi : Nat) : Bool :=
  let pl := sfuPlace k.head x
  let y := f32 (sfuAt k x pl)
  let (n, p) := sfuBounds k pl
  decide (y ≠ .nan) && !((y.add (f32 hi).neg).lt (f32 n)) && !((f32 p).lt (y.add (f32 lo).neg))

/-- Segment `i` holds fewer than two of the check points. -/
def fewPoints (k : SfuSlot) (xs : List Nat) (i : Nat) : Bool :=
  decide ((xs.filter (fun x => match sfuPlace k.head x with | .seg j _ => j = i | _ => false)).length < 2)

/-- The first failing check of Table 9-3 from cause 0x03 on, with its index. -/
def imageCause (k : SfuSlot) (h : List Nat) (bs : List Byte) : Option (Nat × Nat) :=
  let nseg := word h 0 % 128
  let n := word h 11 % 2048
  let f (off : Nat) : Nat := fieldAt bs off 4
  let pts := (List.range n).map (fun j => f (64 + 24 * nseg + 12 * j))
  let first (xs : List Nat) (bad : Nat → Bool) : Option Nat := xs.find? bad
  if !headOk h then some (3, 0)
  else if strayBits headMask h || decide (1024 < n) then some (4, 0)
  else if (crc32c (bs.take 60 ++ bs.drop 64)).toNat ≠ word h 15 then some (5, 0)
  else if [3, 4].any (fun i => !isFin (word h i)) then some (6, 0xFF)
  else if [5, 6].any (fun i => !isFin (word h i)) then some (6, 0xFE)
  else match first (List.range nseg) (fun i => (List.range 4).any (fun j => !isFin (word k.coefs (4 * i + j)))) with
  | some i => some (6, i)
  | none =>
    if !boundOk (word h 7) (word h 8) false then some (7, 0xFF)
    else if !boundOk (word h 9) (word h 10) false then some (7, 0xFE)
    else match first (List.range nseg) (fun i => !boundOk (word k.bounds (2 * i)) (word k.bounds (2 * i + 1)) true) with
    | some i => some (7, i)
    | none =>
      if n < 4 * nseg then some (8, 0)
      else match first (List.range nseg) (fewPoints k pts) with
      | some i => some (8, i)
      | none =>
        match first (List.range n) (fun j =>
          let o := 64 + 24 * nseg + 12 * j
          !isFin (f o) || !isFin (f (o + 4)) || !isFin (f (o + 8)) || (f32 (f (o + 8))).lt (f32 (f (o + 4)))) with
        | some j => some (9, j)
        | none =>
          match first (List.range n) (fun j =>
            let o := 64 + 24 * nseg + 12 * j
            !pointOk k (f o) (f (o + 4)) (f (o + 8))) with
          | some j => some (0xA, j)
          | none => none

/-- The probe set of a table (R291): segment midpoints, one input below the domain, the domain's end. -/
def sfuProbes (h : List Nat) : List Nat :=
  let nseg := word h 0 % 128
  if bits (word h 0) 7 2 = 0 then
    let k := signed 8 (word h 2)
    let at_ (halves : Int) : Nat := toF32 ((f32 (word h 1)).add (finOf false halves (k - 1)))
    (List.range nseg).map (fun (i : Nat) => at_ (2 * i + 1)) ++ [at_ (-2), at_ (2 * nseg)]
  else
    let eLo := word h 2 % 256
    let sub := bits (word h 2) 8 2
    let start (i : Nat) : Nat := (eLo + i / 2 ^ sub) * 8388608 + i % 2 ^ sub * 2 ^ (23 - sub)
    (List.range nseg).map (fun i => start i + 2 ^ (22 - sub)) ++ [0, start nseg]

/-- The signature of a table's probe set (R291). -/
def sfuSig (k : SfuSlot) : Word := crc32c ((sfuProbes k.head).flatMap (fun x => leBytes 4 (sfuTable k x)))

/-- The table that an image spells. -/
def slotOf (bs : List Byte) : SfuSlot :=
  let h := words16 (bs.take 64)
  let nseg := word h 0 % 128
  let fs (off n : Nat) : List Nat := (List.range n).map (fun j => fieldAt bs (off + 4 * j) 4)
  { ready := true, head := h.take 11, coefs := fs 64 (4 * nseg), bounds := fs (64 + 16 * nseg) (2 * nseg) }

/-- The checks of an image in table order, then DONE or FAILED (R283, R284, R291). -/
def State.sfuTake (s : State) (c i : Nat) (bs : List Byte) : State :=
  let h := words16 (bs.take 64)
  let k := slotOf bs
  match imageCause k h bs with
  | some (cause, index) => (s.showLoad c 4 i cause index).event (aSfuEvt c) 2
  | none =>
    let s := s.onSfu c (fun u => { u with slots := tblSet (fun _ => {}) u.slots i k })
    let s := s.setReg (aSlot c i 0) (BitVec.ofNat 32 (bits (word h 0) 16 16 + 65536 * (word h 0 % 128)))
    let s := s.setReg (aSlot c i 0x10) (sfuSig k)
    let s := s.setReg (sfuReg c 0xC) (s.reg (sfuReg c 0xC) ||| BitVec.ofNat 32 (2 ^ i))
    (s.showLoad c 3 i 0 0).event (aSfuEvt c) 1

/-- The image of the load in progress has been read: its checks go on (R283). -/
def State.sfuTick (s : State) (c : Nat) : State :=
  match (s.core c).sfu.loading with
  | some i => if (s.reg (sfuReg c 8)).toNat % 8 = 1 then s.showLoad c 2 i 0 0 else s
  | none => s

/-- The load in progress ends: the checks of Table 9-3 in order (R283). The engine reads the header and then the image through its narrow port
(R159, R164). The rules name no step or attempt for it: index 0xFFFF and attempt 1, as at the ingress. Table 9-3 has no cause for an image
that the port does not reach or that comes poisoned: 0x02 and 0x05 (DESIGN CHOICE, log entry 34). -/
def State.sfuLoadEnd (s : State) (c : Nat) : State :=
  match (s.core c).sfu.loading with
  | none => s
  | some i =>
    let s := s.onSfu c (fun u => { u with loading := none })
    let a := (s.reg (sfuReg c 0)).toNat
    let (s, hf) := s.palCheck s.firmware false false c a 64
    let (s, head, _) := if hf = 0 then s.palRead c a 64 4 0xFFFF 1 else (s, [], false)
    let len := imageLen (words16 head)
    let home := (List.range 8).any (fun r =>
      let g := s.rgn c r
      g.en && decide (g.tenant = 7) && decide (g.base ≤ a) && decide (a + len ≤ g.base + g.size))
    let (s, f) := if hf = 0 && home then s.palCheck s.firmware false false c a len else (s, 2)
    if f ≠ 0 then (s.showLoad c 4 i 2 0).event (aSfuEvt c) 2
    else
      let (s, bs, bad) := s.palRead c a len 4 0xFFFF 1
      if bad then (s.showLoad c 4 i 5 0).event (aSfuEvt c) 2 else s.sfuTake c i bs

/-- The load in progress ends (R283, R284, R291). -/
def execSfuLoadEnd (c : Fin 8) (s : State) : Out := s.run (fun s => .next (s.sfuLoadEnd c))

/-- The SFU of a tenant that is released (R293, R295): every slot EMPTY, every row accumulator cleared, a load stops. -/
def State.sfuRelease (s : State) (c : Nat) : State :=
  let s := (List.range 16).foldl (fun s i => s.sfuEmpty c i) s
  let s := s.onSfu c (fun u => { u with loading := none })
  s.resetRegs (sfuReg c 0x400) (sfuReg c 0x800)

/-! ## Row statistics (R287 to R290) -/

/-- A row accumulator, or an element of one. -/
structure RowAcc where
  m : Nat := 0xFF800000
  sum : Nat := 0
  tot : Nat := 0
  ssq : Nat := 0
  n : Nat := 0
  k : Nat := 0
  bad : Bool := false
  deriving DecidableEq, Repr

/-- Registers of a row accumulator. -/
def aRow (c r off : Nat) : Nat := sfuReg c (0x400 + 0x20 * r + off)

/-- Row accumulator `r`. -/
def State.rowAcc (s : State) (c r : Nat) : RowAcc :=
  let g (off : Nat) : Nat := (s.reg (aRow c r off)).toNat
  { m := g 0, sum := g 4, tot := g 8, ssq := g 0xC, n := g 0x10, k := g 0x14, bad := bit (g 0x18) 0 }

/-- The words that RSRD reads: M, S, SUM, SSQ, N, K; the canonical NaN for a BAD accumulator (R290, R343). -/
def RowAcc.words (a : RowAcc) : List Nat :=
  if a.bad then [fp32.nan, fp32.nan, fp32.nan, fp32.nan, a.n, a.k] else [a.m, a.sum, a.tot, a.ssq, a.n, a.k]

/-- Write a row accumulator; BAD sets RS_BAD (R290). -/
def State.setRowAcc (s : State) (c r : Nat) (a : RowAcc) : State :=
  let put (s : State) (off v : Nat) : State := s.setReg (aRow c r off) (BitVec.ofNat 32 v)
  let w (i : Nat) : Nat := word a.words i
  let s := put (put (put (put (put (put (put s 0 (w 0)) 4 (w 1)) 8 (w 2)) 0xC (w 3)) 0x10 a.n) 0x14 a.k) 0x18 (b2n a.bad)
  if a.bad then s.event (aSfuEvt c) 0x20 else s

/-- ln 2 times 2^256. -/
def ln2 : Nat := 80260960185991308862233904206310070533990667611589946606122867505419956976171

/-- Terms of e^(-r) for r = `r` / 2^256: the sum of `n` further terms after `t`, of alternating sign. -/
def expTerms (r t j : Nat) : Nat → Int
  | 0 => 0
  | n + 1 => (t : Int) - expTerms r (t * r / 2 ^ 256 / (j + 1)) (j + 1) n

/-- The FP32 value of e^d for a finite d < 0: d is reduced by multiples of ln 2 in units of 2^-256, and the series has 64 terms. -/
def expValue (d : Nat) : Nat :=
  match f32 d with
  | .fin _ m e =>
    let x := if 0 ≤ e then m * 2 ^ (e.toNat + 256) else m * 2 ^ 256 / 2 ^ (-e).toNat
    let q := x / ln2
    if 200 ≤ q then 0 else toF32 (finOf false (expTerms (x % ln2) (2 ^ 256) 0 64) (-256 - (q : Int)))
  | _ => 0

/-- E of R290: exact at 0 and at minus infinity, else the FP32 value of e^d with an error of at most 2 units in the last place, which
the spec leaves open. -/
def rowExp (d : Nat) : Nat :=
  if d % 2147483648 = 0 then 0x3F800000 else if d = 0xFF800000 then 0 else expValue d + Config.sfuExp d % 5 - 2

/-- The element of a lane value (R288). -/
def rowElem (k x : Nat) : RowAcc :=
  if isFin x then
    let d := fadd x (fneg k)
    { m := x, sum := 0x3F800000, tot := d, ssq := fmul d d, n := 1, k := k }
  else { n := 1, k := k, bad := true }

/-- The merge of two elements (R288). N saturates (R287). -/
def rowMerge (a b : RowAcc) : RowAcc :=
  let n := min 0xFFFFFFFF (a.n + b.n)
  if a.n = 0 then { b with k := a.k }
  else if b.n = 0 then a
  else if a.bad || b.bad then { a with bad := true, n := n }
  else
    let m := if (f32 a.m).lt (f32 b.m) then b.m else a.m
    let p := fmul b.sum (rowExp (fadd b.m (fneg m)))
    { m := m, sum := ffma a.sum (rowExp (fadd a.m (fneg m))) p, tot := fadd a.tot b.tot, ssq := fadd a.ssq b.ssq, n := n, k := a.k }

/-- One level of the tree of R289: neighbours in pairs. -/
def rowLevel : List RowAcc → List RowAcc
  | a :: b :: rest => rowMerge a b :: rowLevel rest
  | rest => rest

/-- The tree of R289 over 32 lanes. -/
def rowTree (xs : List RowAcc) : RowAcc :=
  (rowLevel (rowLevel (rowLevel (rowLevel (rowLevel xs))))).getD 0 {}

/-! ## Self-test (R291) -/

/-- A self-test pass starts, 10 ms after the last start (R291). -/
def execSfuSelfTestStart (c : Fin 8) (s : State) : Out := s.run (fun s =>
  .next (
    let u := (s.core c).sfu
    if u.passAt.isSome || decide (s.now < u.lastPass + 10 * ms) then s
    else s.onSfu c (fun u => { u with passAt := some s.now, lastPass := s.now, late := false })))

/-- A pass that has not finished 20 ms after its start is late (R291). -/
def execSfuSelfTestLate (c : Fin 8) (s : State) : Out := s.run (fun s =>
  .next (
    match (s.core c).sfu.passAt with
    | some t => if t + 20 * ms ≤ s.now then s.onSfu c (fun u => { u with late := true }) else s
    | none => s))

/-- A pass ends (R291): a mismatch of a slot, or of the fixed set as 31, raises code 0x0E. -/
def execSfuSelfTestEnd (c : Fin 8) (slot : Fin 32) (pass : Bool) (s : State) : Out := s.run (fun s =>
  .next (
    match (s.core c).sfu.passAt with
    | none => s
    | some _ =>
      let s := (s.onSfu c (fun u => { u with passAt := none, late := false })).bump (sfuReg c 0x18)
      if pass then s
      else ((s.setReg (sfuReg c 0x1C) (BitVec.ofNat 32 slot.val)).event (aSfuEvt c) 4).safety 0x0E c))

end Sys2Proof.Machine
end

