-- ==== Sys2Proof/Machine/Kmp.lean ====
section
/-! DEFINITION. Kmp: the mailboxes, the SPI target, relays, sessions, sequencing and responses of the mailbox protocol (17),
and the commands that concern only them. -/

namespace Sys2Proof.Machine

/-- SOURCE_USED of the boot record (Table 16-8): 0 QSPI, 1 link, 2 SPI host. -/
def fSource : Fld := ⟨0x26000400, 6, 2⟩

/-- The mailbox service of path 0 is ready: firmware runs, or the ROM waits for host push (Table 17-3, R481). -/
def State.spiReady (s : State) : Bool := s.firmwareUp || (s.get fStage = 2 && s.get fSource = 2)

/-- The lifecycle state: 0 MANUFACTURE, 1 SECURED, 2 FIELD, 3 RETURN; a state is entered with 5 fuses of its group (R632). -/
def State.lifecycle (s : State) : Nat :=
  if 5 ≤ s.sec.lc2 then 3 else if 5 ≤ s.sec.lc1 then 2 else if 5 ≤ s.sec.lc0 then 1 else 0

/-- Root-clock cycles in one second, for the protocol's timeouts. -/
def kmpSec : Nat := 1000 * ms

/-! ### The catalogue -/

/-- Command codes with their roles (bit 0 no session, bit 1 operator, bit 2 tenant), whether they change state, and whether a
lone chip serves them (Table 17-8). -/
def catalogue : List (Nat × Nat × Bool × Bool) := [
  (0x0100, 7, false, true), (0x0101, 1, false, true), (0x0102, 1, false, true), (0x0103, 6, false, true),
  (0x0104, 6, false, true), (0x0105, 6, false, true), (0x0106, 2, true, true), (0x0107, 3, true, true),
  (0x0108, 6, false, true), (0x0109, 6, false, true),
  (0x0200, 6, false, false), (0x0201, 2, false, false), (0x0202, 2, true, false), (0x0203, 2, true, false),
  (0x0204, 2, false, false), (0x0205, 2, true, false),
  (0x0300, 2, true, false), (0x0301, 2, true, false), (0x0302, 6, false, false), (0x0310, 6, true, false),
  (0x0311, 6, true, false), (0x0312, 6, true, false), (0x0313, 6, true, false), (0x0318, 6, true, false),
  (0x0319, 6, false, false),
  (0x0400, 2, true, false), (0x0401, 2, true, false), (0x0402, 6, true, false), (0x0403, 6, false, false),
  (0x0404, 2, true, false), (0x0405, 2, true, false), (0x0406, 2, true, false),
  (0x0500, 2, true, false), (0x0501, 2, true, false), (0x0502, 2, true, false), (0x0503, 2, true, false),
  (0x0504, 2, false, false), (0x0505, 2, true, false),
  (0x0600, 6, false, false), (0x0601, 6, true, false), (0x0602, 6, true, false), (0x0603, 6, true, false),
  (0x0604, 6, false, false), (0x0605, 6, false, false),
  (0x0700, 2, false, false), (0x0701, 2, true, false), (0x0702, 2, true, false), (0x0703, 2, false, false),
  (0x0704, 2, true, false),
  (0x0800, 6, false, false), (0x0801, 6, false, false), (0x0802, 6, false, false), (0x0803, 2, true, false),
  (0x0804, 2, true, false),
  (0x0900, 2, false, false), (0x0901, 2, true, false), (0x0902, 2, true, false),
  (0x0A00, 2, false, true), (0x0A01, 2, true, true), (0x0A02, 6, false, true), (0x0A03, 2, false, true),
  (0x0A04, 6, false, true),
  (0x0B10, 2, true, true), (0x0B11, 2, true, true), (0x0B12, 2, true, true), (0x0B13, 2, true, true),
  (0x0B14, 2, false, true), (0x0B20, 1, false, true), (0x0B21, 1, false, true), (0x0B22, 1, false, true)]

/-- The row of a code. -/
def cmdRow (code : Nat) : Option (Nat × Nat × Bool × Bool) := catalogue.find? (fun c => c.1 = code)
/-- Its roles. -/
def cmdRoles (code : Nat) : Nat := ((cmdRow code).map (fun c => c.2.1)).getD 0
/-- It changes state. -/
def cmdChanges (code : Nat) : Bool := ((cmdRow code).map (fun c => c.2.2.1)).getD false
/-- A lone chip serves it. -/
def cmdLone (code : Nat) : Bool := ((cmdRow code).map (fun c => c.2.2.2)).getD false
/-- It is taken on MB3 and carries BULK = 1 (R511). -/
def cmdBulk (code : Nat) : Bool := code = 0x0311 || code = 0x0B11 || code = 0x0B21
/-- The role in a request may issue the command: 4 is the operator, 0 to 3 a tenant, both in a session; SID 0 is none (R500). The
commands for no session alone are SESSION_OPEN, SESSION_AUTH and the boot subset. -/
def roleOk (r : Req) : Bool :=
  let m := cmdRoles r.code
  (bit m 0 && (r.sid = 0 || (!bit m 1 && !bit m 2))) || (decide (r.sid ≠ 0) && ((bit m 1 && r.role = 4) || (bit m 2 && decide (r.role < 4))))

/-! ### Responses and operations -/

/-- An open session. -/
def State.session (s : State) (sid : Nat) : Option Session := s.kmp.sessions.find? (fun x => x.sid = sid && x.opened)

/-- Change a session. -/
def State.onSession (s : State) (sid : Nat) (f : Session → Session) : State :=
  { s with kmp := { s.kmp with sessions := s.kmp.sessions.map (fun (x : Session) => if x.sid = sid then f x else x) } }

/-- SESSION_OPEN and SESSION_AUTH, which carry no tag (R501). -/
def opensSession (code : Nat) : Bool := code = 0x0101 || code = 0x0102

/-- The response message of a request (R499, R502). -/
def State.responseOf (s : State) (r : Req) (status : Nat) (data : List Byte) : List Byte :=
  let key := if r.sid = 0 || opensSession r.code then none else (s.session r.sid).map (fun x => x.key)
  kmpMessage 1 r.code (r.sid + 4096 * r.role) r.seq (leBytes 4 status ++ data) key

/-- Answer a request, accepted or not, through the path and entry chip by which it came (R488, R499). -/
def State.answer (s : State) (r : Req) (status : Nat) (data : List Byte) : State :=
  (s.sendOut r.path r.entry 1 r.peer (s.responseOf r status data)).1

/-- Answer an accepted command: its response is stored for repeats, and an idle timeout that has passed meanwhile starts
again (R506, R529). The response of a closed session is discarded (R529). -/
def State.respond (s : State) (r : Req) (status : Nat) (data : List Byte) : State :=
  if r.sid = 0 || opensSession r.code || (r.code = 0x0100 && !s.executes) then s.answer r status data
  else
    match s.session r.sid with
    | none => s
    | some _ =>
      let m := s.responseOf r status data
      let s := s.onSession r.sid (fun x =>
        { x with
          recent := x.recent.map (fun (a : Accepted) => if a.seq = r.seq then { a with resp := some m } else a)
          seen := if x.seen + 10 * kmpSec ≤ s.now then s.now else x.seen })
      s.answer r status data

/-- An operation that runs and names one of these, of the same group (R508). -/
def State.opBusy (s : State) (code : Nat) (names : List (Nat × Nat)) : Bool :=
  s.kmp.ops.any (fun o => o.status.isNone && decide (o.cmd / 256 = code / 256) && o.names.any (fun n => names.contains n))

/-- Answer ACCEPTED with a new operation ID (R507). -/
def State.opStart (s : State) (r : Req) (names : List (Nat × Nat)) : State × Nat :=
  let id := s.kmp.nextOp
  let o : Operation := { id := id, cmd := r.code, sid := r.sid, req := r, since := s.now, names := names }
  (({ s with kmp := { s.kmp with ops := s.kmp.ops ++ [o], nextOp := id + 1 } }).respond r 1 (leBytes 4 id), id)

/-- End an operation: OP_DONE carries its final status and results (R507, Table 17-14). Once its session has closed it goes to operator
sessions alone (R529). -/
def State.opDone (s : State) (id status : Nat) (result : List Byte) : State :=
  match s.kmp.ops.find? (fun o => o.id = id && o.status.isNone) with
  | none => s
  | some o =>
    let ops := s.kmp.ops.map (fun (x : Operation) => if x.id = id then { x with status := some status, result := result } else x)
    ({ s with kmp := { s.kmp with ops := ops } }).kmpEvent 0x8101 (leBytes 4 id ++ leBytes 2 o.cmd ++ leBytes 2 status ++ result)
      (if (s.session o.sid).isNone then some 4 else if o.req.role < 4 then some o.req.role else none)

/-- Take a command in its turn: a session's commands run in SEQ order, and state-changing commands in the order in which they
reached the pole, each after the answer of the one before (R505, R508). A command that nothing has accepted does not run (R500). -/
def State.takeReq (s : State) (r : Req) : Option State :=
  if s.kmp.accepted.contains r then
    let before := s.kmp.accepted.takeWhile (fun q => q ≠ r)
    if before.any (fun q => (q.sid = r.sid && decide (r.sid ≠ 0)) || (cmdChanges q.code && cmdChanges r.code)) ||
        (s.sec.burn.isSome && cmdChanges r.code) then none
    else some { s with kmp := { s.kmp with accepted := s.kmp.accepted.erase r } }
  else none

/-- The refusals that every command shares: its role, and a lone chip's list (R511). -/
def State.gate (s : State) (r : Req) : Option Nat :=
  if s.loss.lone && !cmdLone r.code then some 0x010B
  else if !roleOk r then some 0x0105
  else none

/-- Run a command: in its turn, refused by the shared checks, or by its own meaning. -/
def State.serve (s : State) (r : Req) (run : State → State) : Out :=
  .next (match s.takeReq r with
    | none => s
    | some s => match s.gate r with
      | some st => s.respond r st []
      | none => run s)

/-- A node that a command names: 0x0201 when it is not in the membership, 0x0202 when it is lost (Table 17-7); a lone chip
has only itself. -/
def State.nodeStatus (s : State) (n : Nat) : Nat :=
  if n = s.node then 0
  else if s.loss.lone then 0x0201
  else if bit s.loss.members n then 0
  else if bit s.loss.committed n || s.loss.losses.any (fun l => l.1 = n) then 0x0202
  else 0x0201

/-- Run a command on a live node, or refuse it. -/
def State.onNode (s : State) (r : Req) (n : Nat) (run : State → State) : State :=
  match s.nodeStatus n with
  | 0 => run s
  | st => s.respond r st []

/-- `n` bytes that only another node can supply, taken as free values. -/
def State.foreign (s : State) (n : Nat) : State × List Byte :=
  ({ s with free := s.free + 1 }, (List.range n).map (Config.freeByte s.free))

/-! ### Sessions -/

/-- Close a session (R504); it no longer receives a service's state events. -/
def State.closeSession (s : State) (sid : Nat) : State :=
  { s with
    kmp := { s.kmp with sessions := s.kmp.sessions.filter (fun x => x.sid ≠ sid) }
    con := { s.con with services := s.con.services.map (fun (v : Service) => { v with subs := v.subs.filter (fun n => n ≠ sid) }) } }

/-- The role key, if one is set (R503). -/
def State.roleKey (s : State) (role : Nat) : Option (List Byte) :=
  if role = 4 then s.con.opKey
  else match tblGet (fun _ => []) s.con.tenKeys role with
    | [] => none
    | k => some k

/-- The next SID in rotation that is neither open nor pending (R504). -/
def State.nextSid (s : State) : Nat :=
  ((List.range 4095).map (fun i => (s.kmp.lastSid + i) % 4095 + 1)).find? (fun n => !s.kmp.sessions.any (fun x => x.sid = n)) |>.getD 0

/-- Labels of R501 and R502 in ASCII. -/
def labelHost : List Byte := [0x4B#8, 0x4D#8, 0x50#8, 0x2D#8, 0x48#8, 0x4F#8, 0x53#8, 0x54#8]
/-- "KMP-DEV". -/
def labelDev : List Byte := [0x4B#8, 0x4D#8, 0x50#8, 0x2D#8, 0x44#8, 0x45#8, 0x56#8]
/-- "KMP-SESS". -/
def labelSess : List Byte := [0x4B#8, 0x4D#8, 0x50#8, 0x2D#8, 0x53#8, 0x45#8, 0x53#8, 0x53#8]

/-- SESSION_OPEN (R501, Table 17-10). -/
def execSessionOpen (r : Req) (s : State) : Out := s.run (fun s =>
  s.serve r (fun s =>
    let role := s.kmp.sessions.filter (fun x => x.role = r.role)
    if 4 < r.role then s.respond r 0x0105 []
    else if r.data.length ≠ 20 then s.respond r 0x0109 []
    else if 32 ≤ s.kmp.sessions.length || 4 ≤ role.length then s.respond r 0x010C []
    else
      let (s, nd) := s.random 16
      let sid := s.nextSid
      let x : Session := { sid := sid, role := r.role, since := s.now, hostNonce := slice r.data 4 16, devNonce := nd,
                           mask := fieldAt r.data 0 4, path := r.path, entry := r.entry, peer := r.peer }
      let s := { s with kmp := { s.kmp with sessions := s.kmp.sessions ++ [x], lastSid := sid } }
      s.respond r 0 (leBytes 2 sid ++ leBytes 2 10 ++ nd ++ leBytes 1 4 ++ leBytes 3 0)))

/-- SESSION_AUTH (R501, R502). -/
def execSessionAuth (r : Req) (s : State) : Out := s.run (fun s =>
  s.serve r (fun s =>
    match s.kmp.sessions.find? (fun x => x.sid = r.sid && x.role = r.role && !x.opened) with
    | none => s.respond r 0x0104 []
    | some x =>
      if r.data.length ≠ 32 then s.respond r 0x0109 []
      else
        let sr := leBytes 2 x.sid ++ leBytes 1 x.role
        match s.roleKey x.role with
        | none => (s.closeSession x.sid).respond r 0x0106 []
        | some kr =>
          if r.data = hmac kr (labelHost ++ x.devNonce ++ x.hostNonce ++ sr) then
            let ks := hmac kr (labelSess ++ x.devNonce ++ x.hostNonce ++ leBytes 2 x.sid)
            let s := s.onSession x.sid (fun x =>
              { x with opened := true, key := ks, expSeq := 1, seen := s.now, path := r.path, entry := r.entry, peer := r.peer })
            s.respond r 0 (hmac kr (labelDev ++ x.hostNonce ++ x.devNonce ++ sr))
          else (s.closeSession x.sid).respond r 0x0106 []))

/-- SESSION_CLOSE (R504). -/
def execSessionClose (r : Req) (s : State) : Out := s.run (fun s =>
  s.serve r (fun s =>
    if r.data.length ≠ 0 then s.respond r 0x0109 [] else (s.respond r 0 []).closeSession r.sid))

/-- KEEPALIVE (R504). -/
def execKeepalive (r : Req) (s : State) : Out := s.run (fun s =>
  s.serve r (fun s => s.respond r (if r.data.length ≠ 0 then 0x0109 else 0) []))

/-- EVENT_SUBSCRIBE (R526). -/
def execEventSubscribe (r : Req) (s : State) : Out := s.run (fun s =>
  s.serve r (fun s =>
    if r.data.length ≠ 4 then s.respond r 0x0109 []
    else (s.onSession r.sid (fun x => { x with mask := fieldAt r.data 0 4 })).respond r 0 []))

/-- A pending session lapses after 2 s (R501). -/
def execSessionPendingTimeout (sid : Nat) (s : State) : Out := s.run (fun s =>
  .next (
    match s.kmp.sessions.find? (fun x => x.sid = sid && !x.opened) with
    | some x => if x.since + 2 * kmpSec ≤ s.now then s.closeSession sid else s
    | none => s))

/-- An idle session closes after 10 s, unless a command of it waits for its response (R504, R529). -/
def execSessionIdleTimeout (sid : Nat) (s : State) : Out := s.run (fun s =>
  .next (
    match s.session sid with
    | some x =>
      if decide (x.seen + 10 * kmpSec ≤ s.now) && !x.recent.any (fun a => a.resp.isNone) then s.closeSession sid else s
    | none => s))

/-! ### Receiving a message -/

/-- LEN of a message. -/
def kmpLen (m : List Byte) : Nat := fieldAt m 8 4
/-- AUTH. -/
def kmpAuth (m : List Byte) : Bool := bit (byteAt m 1) 3
/-- Length that the header states. -/
def kmpTotal (m : List Byte) : Nat := 16 + kmpLen m + if kmpAuth m then 16 else 0
/-- LEN lies within R497. -/
def kmpLenFits (m : List Byte) : Bool := 16 ≤ m.length && decide (kmpTotal m ≤ 4096)
/-- The CRC of a whole message (Table 17-5). -/
def kmpCrcOk (m : List Byte) : Bool := fieldAt m 12 4 = (crc32c (m.take 12 ++ m.drop 16)).toNat
/-- What identifies a repeated message: the CRC of its header with RETRY at 0, and of its payload. A host repeats a command
unchanged but for RETRY, and the stored CRC is to equal it (R506, R507). -/
def kmpIdentity (m : List Byte) : Nat :=
  let head := m.take 12
  (crc32c (head.set 1 (head.getD 1 0#8 &&& 0xEF#8) ++ slice m 16 (kmpLen m))).toNat

/-- The status of the header-field check, zero when it passes (R498, Table 17-7). -/
def State.headerStatus (s : State) (m : List Byte) (r : Req) : Nat :=
  let f := byteAt m 1
  let auth := kmpAuth m
  if byteAt m 0 ≠ 1 then 0x0101
  else if f &&& 0xE3 ≠ 0 || bit (fieldAt m 4 2) 15 then 0x0102
  else if (cmdRow r.code).isNone then 0x0103
  else if bit f 2 ≠ cmdBulk r.code then 0x0102
  else if r.code = 0x0101 then (if r.sid ≠ 0 then 0x0104 else if auth then 0x0102 else 0)
  else if r.code = 0x0102 then
    (if s.kmp.sessions.any (fun x => x.sid = r.sid && x.role = r.role && !x.opened) then (if auth then 0x0102 else 0) else 0x0104)
  else if r.sid = 0 && bit (cmdRoles r.code) 0 then (if auth then 0x0102 else 0)
  else match s.session r.sid with
    | none => 0x0104
    | some x => if x.role ≠ r.role then 0x0104 else if !auth then 0x0102 else 0

/-- A command is accepted behind those before it. Of the commands that reach the pole in one cycle, those of the lower SID go first, so
that state-changing ones do, and those of one session stay in order (R505, R508, R529). -/
def State.accept (s : State) (r : Req) : State :=
  let n := if s.kmp.acceptedAt = s.now then min s.kmp.acceptedNow s.kmp.accepted.length else 0
  let old := s.kmp.accepted.take (s.kmp.accepted.length - n)
  let new := s.kmp.accepted.drop (s.kmp.accepted.length - n)
  { s with kmp := { s.kmp with
      accepted := old ++ new.takeWhile (fun q => decide (q.sid ≤ r.sid)) ++ [r] ++ new.dropWhile (fun q => decide (q.sid ≤ r.sid)),
      acceptedAt := s.now, acceptedNow := n + 1 } }

/-- A command of an open session meets E (R505, R506). `id` identifies the message. -/
def State.sequence (s : State) (x : Session) (r : Req) (id : Nat) : State :=
  let d := (x.expSeq + 65536 - r.seq) % 65536
  if d = 0 then
    if 4 ≤ (x.recent.filter (fun a => a.resp.isNone)).length then s.answer r 0x0108 []
    else
      let s := s.onSession x.sid (fun x =>
        { x with expSeq := (x.expSeq + 1) % 65536, recent := (({ seq := r.seq, crc := id } : Accepted) :: x.recent).take 16 })
      s.accept r
  else if d ≤ 16 then
    let s := s.bump (mbxReg r.path 0x1C)
    match x.recent.find? (fun a => a.seq = r.seq && a.crc = id) with
    | some a => match a.resp with
      | some m => (s.sendOut r.path r.entry 1 r.peer m).1
      | none => s
    | none => s.answer r 0x010A []
  else s.bump (mbxReg r.path 0x18)

/-- The chip that executes commands takes one: tag, header fields, sequence (R498, R505). -/
def State.takeCommand (s : State) (m : List Byte) (r : Req) : State :=
  let tagBad := match s.session r.sid with
    | some x => kmpAuth m && decide (slice m (16 + kmpLen m) 16 ≠ (hmac x.key (m.take 12 ++ slice m 16 (kmpLen m))).take 16)
    | none => false
  if tagBad then s.bump (mbxReg r.path 0x14)
  else match s.headerStatus m r with
    | 0 =>
      match (if opensSession r.code then none else s.session r.sid) with
      | none => s.accept r
      | some x =>
        let s := s.onSession x.sid (fun x => { x with seen := s.now, path := r.path, entry := r.entry, peer := r.peer })
        s.sequence x r (kmpIdentity m)
    | st => s.answer r st []

/-- The ROM takes a message: the boot subset on path 0 in host push, BOOT_GO on path 3 (R480, R481). -/
def State.romTake (s : State) (m : List Byte) (r : Req) : State :=
  let boot := (r.code = 0x0B21 || r.code = 0x0B22) && (r.path = 3 || (r.path = 0 && s.get fSource = 2))
  if r.path = 3 && r.code ≠ 0x0B22 then s
  else if byteAt m 0 ≠ 1 then s.answer r 0x0101 []
  else if !boot then s.answer r 0x0B03 []
  else if bit (byteAt m 1) 2 ≠ cmdBulk r.code then s.answer r 0x0102 []
  else s.accept r

/-- An entry chip relays a command to the pole, and remembers where its response goes (R488, R494): the last 64 places (log entry 39). -/
def State.relayCommand (s : State) (q mb : Nat) (m : List Byte) (r : Req) : State :=
  let x := (r.path, r.peer, slice m 2 6)
  let old := s.kmp.routes.erase x
  let s := { s with kmp := { s.kmp with routes := old.drop (old.length - 63) ++ [x] } }
  s.relay q mb m r.path true

/-- A message of MB0 or MB3 is consumed (R488, R498). -/
def State.consumeCommand (s : State) (p mb peer : Nat) (m : List Byte) : State :=
  let w := fieldAt m 4 2
  let r : Req := { path := p, entry := if p = 3 then peer else s.node, peer := if p = 3 then 0 else peer, code := fieldAt m 2 2,
                   sid := w % 4096, role := bits w 12 3, seq := fieldAt m 6 2, data := slice m 16 (kmpLen m) }
  if !s.firmwareUp then s.romTake m r
  else if r.code = 0x0B20 && p = 3 then s.accept r
  else if r.code = 0x0100 && p ≠ 3 && (!s.executes || (s.loss.kmpHeld && !s.loss.lone)) then
    if byteAt m 0 ≠ 1 then s.answer r 0x0101 []
    else if byteAt m 1 &&& 0xE7 ≠ 0 || bit w 15 then s.answer r 0x0102 []
    else s.accept r
  else if s.loss.kmpHeld && !s.loss.lone then s.answer r 0x0107 []
  else if s.executes then
    if r.code = 0x0107 && r.sid = 0 && (p = 1 || p = 2) then s.answer r 0x0105 [] else s.takeCommand m r
  else
    match s.loss.pole with
    | none => s.answer r 0x0107 []
    | some q =>
      if p = 3 then s.answer r 0x0107 []
      else if r.code = 0x0107 && r.sid = 0 && p ≠ 0 then s.answer r 0x0105 []
      else s.relayCommand q mb m r

/-- Status of a response that shows that its command did not pass the checks of R498. -/
def unchecked (status : Nat) : Bool := decide (0x0101 ≤ status) && decide (status ≤ 0x0104)

/-- A response that the pole relayed goes out where the oldest command of its header came in, and marks the session's last place here; an
event goes to that place (R488, R493, R494). -/
def State.forwardOut (s : State) (mb : Nat) (m : List Byte) : State :=
  let sid := fieldAt m 4 2 % 4096
  if mb = 1 then
    match s.kmp.routes.find? (fun x => x.2.2 = slice m 2 6) with
    | none => s
    | some x =>
      let seen := s.kmp.sidRoutes.filter (fun y => y.1 ≠ sid)
      let seen := if sid = 0 || unchecked (fieldAt m 16 2) then s.kmp.sidRoutes else (sid, x.1, x.2.1) :: seen
      ({ s with kmp := { s.kmp with routes := s.kmp.routes.erase x, sidRoutes := seen } }.placeOut x.1 1 x.2.1 m).1
  else
    match s.kmp.sidRoutes.find? (fun x => x.1 = sid) with
    | none => s.eventLost 3 m
    | some x =>
      let (t, ok) := s.placeOut x.2.1 2 x.2.2 m
      if ok then t else t.eventLost x.2.1 m

/-- A slot of an incoming mailbox holds a message. -/
def State.posted (s : State) (p mb sl : Nat) : Bool :=
  if p = 0 then (mb = 0 || mb = 3) && s.get (fSlot 0 mb sl) = 1 else !(s.slot p mb sl).isEmpty

/-- Free a slot of an incoming mailbox. -/
def State.freeIn (s : State) (p mb sl : Nat) : State :=
  let k := slotKey p mb sl
  let s := s.setSlot p mb sl []
  let s := { s with kmp := { s.kmp with
    peers := tblSet (fun _ => 0) s.kmp.peers k 0
    arrivals := (s.kmp.arrivals.map (fun (g : List Nat) => g.filter (fun n => n ≠ k))).filter (fun g => !g.isEmpty) } }
  s.slotUnflag p mb sl

/-- Put a message that arrived on paths 1 to 3 into a free slot: whether one was free (R489). -/
def State.placeIn (s : State) (p mb peer : Nat) (m : List Byte) : Option State :=
  (s.freeSlot p mb).map (fun i =>
    let k := slotKey p mb i
    let s := s.setSlot p mb i m
    let s := { s with kmp := { s.kmp with peers := tblSet (fun _ => 0) s.kmp.peers k peer, arrivals := s.kmp.arrivals ++ [[k]] } }
    s.slotFlag p mb i)

/-- No message that arrived before the one of a slot waits: the commands of a path, in MB0 and MB3, are consumed in the order of their
arrival, and so are the responses and the events of path 3 (R496, R527). -/
def State.inTurn (s : State) (p mb sl : Nat) : Bool :=
  let cmd (m : Nat) : Bool := m = 0 || m = 3
  let same (k : Nat) : Bool := k / 64 = p && (if cmd mb then cmd (k / 16 % 4) else k / 16 % 4 = mb)
  !(s.kmp.arrivals.takeWhile (fun g => !g.contains (slotKey p mb sl))).any (fun g => g.any same)

/-- A write of `MBX_P_p_POST` (R492): on paths 1 to 3 the arrival of a message posts its slot, and an empty slot posts nothing. Slots
that one write posts have no order among them. -/
def State.mbxPost (s : State) (p : Nat) (v : Word) : State :=
  let ok (mb i : Nat) : Bool := decide (i < mbSlots p mb) && (p = 0 || !(s.slot p mb i).isEmpty) && v.getLsbD (fSlot p mb i).lo
  let new (mb : Nat) : List Nat := (List.range 8).filter (fun i => ok mb i && s.get (fSlot p mb i) = 0)
  let g := (new 0).map (slotKey p 0) ++ (new 3).map (slotKey p 3)
  let s := (new 0).foldl (fun s i => s.slotFlag p 0 i) s
  let s := (new 3).foldl (fun s i => s.slotFlag p 3 i) s
  if g.isEmpty then s else { s with kmp := { s.kmp with arrivals := s.kmp.arrivals ++ [g] } }

/-- The host posts slots (R492). -/
def execMbxPost (p : Fin 4) (v : Word) (s : State) : Out := s.run (fun s => .next (s.mbxPost p v))

/-- Free a response or event slot. -/
def State.dropOut (s : State) (p mb sl : Nat) : State :=
  if p = 3 then s.freeIn p mb sl else s.slotDone (frameKey p mb sl) true

/-- A write of `MBX_P_p_OUT`: the slots of the bits that are 1 are free (R492); a bit that the device sets for a new message in this
cycle stays set (R14, R529). -/
def State.mbxOutClear (s : State) (p : Nat) (v : Word) : State :=
  let v := v &&& ~~~ s.justRaised (mbxReg p 8)
  let hit := s.reg (mbxReg p 8) &&& v
  let s := s.setReg (mbxReg p 8) (s.reg (mbxReg p 8) &&& ~~~ v)
  let s := (List.range 8).foldl (fun s i =>
    let s := if hit.getLsbD i then s.dropOut p 1 i else s
    if hit.getLsbD (16 + i) then s.dropOut p 2 i else s) s
  s.outDrain p

/-- The host frees response or event slots (R492). -/
def execMbxOutClear (p : Fin 4) (v : Word) (s : State) : Out := s.run (fun s => .next (s.mbxOutClear p v))

/-- The level of HOST_INT_N: low while an enabled doorbell is set (R492). -/
def State.hostIntN (s : State) : Bool :=
  let o := (s.reg (mbxReg 0 8)).toNat
  let e := (s.reg (mbxReg 0 0xC)).toNat
  !((bit e 0 && decide (o % 256 ≠ 0)) || (bit e 1 && decide (bits o 16 8 ≠ 0)))

/-! ### The SPI target -/

/-- Mailbox, slot and byte of an offset of the SPI window (Table 17-4). -/
def spiSlot (o : Nat) : Option (Nat × Nat × Nat) :=
  if 0x1000 ≤ o ∧ o < 0x3000 then some (0, (o - 0x1000) / 4096, o % 4096)
  else if 0x3000 ≤ o ∧ o < 0x5000 then some (1, (o - 0x3000) / 4096, o % 4096)
  else if 0x5000 ≤ o ∧ o < 0x9000 then some (2, (o - 0x5000) / 4096, o % 4096)
  else if 0x9000 ≤ o ∧ o < 0xF000 then some (3, (o - 0x9000) / 4096, o % 4096)
  else none

/-- A byte of a word. -/
def byteOfWord (w : Word) (i : Nat) : Byte := w.extractLsb' (8 * (i % 4)) 8

/-- A byte of the SPI window (R491). -/
def State.spiByte (s : State) (o : Nat) : Byte :=
  if o < 0x28 then byteOfWord (s.reg (0x26000000 + o / 4 * 4)) o
  else if 0xF00 ≤ o ∧ o < 0xF04 then byteOfWord (s.reg 0x26000400) o
  else match spiSlot o with
    | some (mb, sl, b) => (s.slot 0 mb sl).getD b 0#8
    | none => 0#8

/-- A host write of a byte into a slot: only incoming mailboxes, and only while the slot is not posted (R491). -/
def State.spiPut (s : State) (o : Nat) (v : Byte) : State :=
  match spiSlot o with
  | some (mb, sl, b) =>
    if (mb = 0 || mb = 3) && !s.posted 0 mb sl then
      let m := s.slot 0 mb sl
      s.setSlot 0 mb sl ((fit (max m.length (b + 1)) m).set b v)
    else s
  | none => s

/-- A host write of a word of a register (R491, Table 17-15). -/
def State.spiReg (s : State) (o : Nat) (v : Word) : State :=
  if o = 0 then s.mbxPost 0 v
  else if o = 8 then s.mbxOutClear 0 v
  else if o = 12 then s.setReg (mbxReg 0 12) (v &&& 3#32)
  else s

/-- Bytes of a WRITE at ascending offsets: a register word is written with its fourth byte, when the transaction covers all
four; the offset wraps (R490, R491). `run` holds the bytes of the word so far. -/
def State.spiWrite (s : State) (o : Nat) (run : List Byte) : List Byte → State
  | [] => s
  | v :: vs =>
    let run := if o % 4 = 0 then [v] else if run.isEmpty then [] else run ++ [v]
    let t := if o < 0x100 then (if run.length = 4 then s.spiReg (o / 4 * 4) (BitVec.ofNat 32 (leNat run)) else s) else s.spiPut o v
    t.spiWrite ((o + 1) % 65536) (if run.length = 4 then [] else run) vs


/-- The SPI status byte (Table 17-3). -/
def State.spiStatus (s : State) : Nat :=
  let o := (s.reg (mbxReg 0 8)).toNat
  let i := (s.reg (mbxReg 0 4)).toNat
  b2n (decide (o % 256 ≠ 0)) + 2 * b2n (decide (bits o 16 8 ≠ 0)) + 4 * b2n (decide (i % 4 ≠ 3)) +
    8 * b2n (decide (bits i 16 6 ≠ 63)) + 16 * s.get fStage + 128 * b2n s.spiReady

/-- A transaction of the SPI target (R490, Table 17-2): its opcode byte, the offset, the bytes that the host writes, and how many it
reads. After an unknown opcode MISO stays low. -/
def State.spiTake (s : State) (op offset : Nat) (data : List Byte) (n : Nat) : State :=
  if op = 0x02 then s.spiWrite offset [] data
  else if op = 0x0B then s.emit (.spi ((List.range n).map (fun i => s.spiByte ((offset + i) % 65536))))
  else if op = 0x05 then s.emit (.spiRepeat (BitVec.ofNat 8 s.spiStatus))
  else s.emit (.spiRepeat 0#8)

/-- The opcode of a transaction whose operand is `addr`: bits 23 to 16 of the operand, and where they are zero that of the command
itself. -/
def spiOp (own addr : Nat) : Nat := if bits addr 16 8 = 0 then own else bits addr 16 8

/-- An SPI transaction that writes bytes after its offset (R490). -/
def execSpiWrite (addr : Nat) (data : List Byte) (s : State) : Out := s.run (fun s =>
  .next (s.spiTake (spiOp 0x02 addr) (addr % 65536) data 0))

/-- An SPI transaction that reads `n` bytes after its offset (R490). -/
def execSpiRead (addr n : Nat) (s : State) : Out := s.run (fun s => .next (s.spiTake (spiOp 0x0B addr) (addr % 65536) [] n))

/-- An SPI STATUS transaction returns the status byte (R490). -/
def execSpiStatus (s : State) : Out := s.run (fun s => .next (s.spiTake 0x05 0 [] 0))

/-! ### UDP and relays -/

/-- A datagram on port 47110 carries one message (R489, R493). -/
def execUdpDatagram (e : Fin 2) (src : Nat) (data : List Byte) (s : State) : Out := s.run (fun s =>
  let (s, _) := s.ethTake e 4 data
  let p := e.val + 1
  .next (
    if !s.kmpPort p then s
    else if !kmpLenFits data || decide (data.length ≠ kmpTotal data) then s.bump (mbxReg p 0x10)
    else match s.placeIn p (if bit (byteAt data 1) 2 then 3 else 0) src data with
      | some t => t
      | none => s.bump (mbxReg p 0x24)))

/-- A service ID that the constellation has (R531). -/
def svcIdOk (id : Nat) : Bool := (0x1000 ≤ id && id ≤ 0x1003) || (0x2000 ≤ id && id ≤ 0x2003) || id = 0x3000

/-- A service message, by its content: TYPE, VERSION, length and CRC (Tables 18-4 and 18-7). -/
def isServiceMsg (m : List Byte) : Bool :=
  (byteAt m 0 = 1 && byteAt m 1 = 1 && m.length = 64 && fieldAt m 60 4 = (crc32c (m.take 60)).toNat && svcIdOk (fieldAt m 2 2)) ||
  (byteAt m 0 = 2 && byteAt m 1 = 1 && m.length = 56 && fieldAt m 52 4 = (crc32c (m.take 52)).toNat && svcIdOk (fieldAt m 2 2))

/-- The mailboxes of path 3 take messages: of any kind with firmware, BOOT_GO only in link boot (R480, R489). -/
def State.path3Open (s : State) (mb : Nat) (data : List Byte) : Bool :=
  s.firmwareUp || (mb = 0 && s.get fStage = 2 && s.get fSource = 1 && fieldAt data 2 2 = 0x0B22)

/-- An MSG to mailbox `mb` of path 3 from a node: the state, and whether it was taken (R489, R494). A message in progress holds a
slot. -/
def State.msgArrive (s : State) (src mb : Nat) (data : List Byte) : State × Bool :=
  let mine := s.kmp.parts.find? (fun x => x.1 = src && x.2.1 = mb)
  let rest := s.kmp.parts.filter (fun x => !(x.1 = src && x.2.1 = mb))
  let free := ((List.range (mbSlots 3 mb)).filter (fun i => (s.slot 3 mb i).isEmpty)).length
  let held := (s.kmp.parts.filter (fun x => x.2.1 = mb)).length
  if !s.path3Open mb data then (s, false)
  else if mine.isNone && decide (free ≤ held) then (if mb = 0 || mb = 3 then s.bump (mbxReg 3 0x24) else s, false)
  else
    let m := ((mine.map (fun x => x.2.2)).getD []) ++ data
    if mb = 2 && mine.isNone && isServiceMsg data then ((s.placeIn 3 mb src data).getD s, true)
    else
    let s := { s with kmp := { s.kmp with parts := rest } }
    if m.length < 16 then ({ s with kmp := { s.kmp with parts := rest ++ [(src, mb, m)] } }, true)
    else if 4096 < kmpTotal m then (s.bump (mbxReg 3 0x10), true)
    else if m.length < kmpTotal m then ({ s with kmp := { s.kmp with parts := rest ++ [(src, mb, m)] } }, true)
    else ((s.placeIn 3 mb src m).getD s, true)

/-- A relay in progress. -/
def State.relayOf (s : State) (id : Nat) : Option Relay := s.kmp.relays.find? (fun r => r.id = id && r.sent.isSome)

/-- Change a relay. -/
def State.onRelay (s : State) (id : Nat) (f : Relay → Relay) : State :=
  { s with kmp := { s.kmp with relays := s.kmp.relays.map (fun (r : Relay) => if r.id = id then f r else r) } }

/-- A fragment's WRITE_ACK: the next fragment goes, or the message is placed and the next one of that node starts (R494,
R495). -/
def State.relayAck (s : State) (id : Nat) : State :=
  match s.relayOf id with
  | none => s
  | some r =>
    let r' := { r with rest := r.rest.drop 1, refused := none }
    if r'.rest.isEmpty then
      ({ s with kmp := { s.kmp with relays := s.kmp.relays.filter (fun x => x.id ≠ id) } }).relayNext r.dst
    else (s.onRelay id (fun _ => r')).relaySend r'

/-- A fragment was refused with ERR 0x04 (R495). -/
def State.relayRefused (s : State) (id : Nat) : State := s.onRelay id (fun r => { r with refused := some s.now })

/-- 1 ms after an ERR 0x04 the fragment is sent again (R495). -/
def execRelayRetry (id : Nat) (s : State) : Out := s.run (fun s =>
  .next (
    match s.relayOf id with
    | none => s
    | some r => match r.refused with
      | some t => if t + ms ≤ s.now then (s.onRelay id (fun r => { r with refused := none })).relaySend r else s
      | none => s))

/-- A message that is not placed 20 ms after its first fragment is abandoned; a command is answered with 0x010D (R495), and an event is
dropped (R527). The entry chip has no session key, so that answer carries no tag. -/
def execRelayTimeout (id : Nat) (s : State) : Out := s.run (fun s =>
  .next (
    match s.relayOf id with
    | none => s
    | some r =>
      if s.now < (r.sent.getD 0) + 20 * ms then s
      else
        let s := { s with kmp := { s.kmp with relays := s.kmp.relays.filter (fun x => x.id ≠ id) } }
        let s := s.relayNext r.dst
        if r.isCmd then
          let w := fieldAt r.head 4 2
          let peer := ((s.kmp.routes.find? (fun x => x.2.2 = slice r.head 2 6)).map (fun x => x.2.1)).getD 0
          let q : Req := { path := r.path, entry := s.node, peer := peer, code := fieldAt r.head 2 2, sid := w % 4096,
                           role := bits w 12 3, seq := fieldAt r.head 6 2 }
          (s.sendOut q.path q.entry 1 q.peer (kmpMessage 1 q.code w q.seq (leBytes 4 0x010D) none)).1
        else if r.mb = 2 then s.eventLost 3 r.head
        else s))

/-- A transfer handle lapses 60 s after its last chunk (R513). -/
def execHandleLapse (h : Nat) (s : State) : Out := s.run (fun s =>
  let left := s.con.transfers.filter (fun t => !(t.handle = h && decide (t.at_ + 60 * kmpSec ≤ s.now)))
  .next { s with con := { s.con with transfers := left } })

/-! ### Commands that need nothing else -/

/-- A byte of the configuration record (Table 17-18): MAGIC and FORMAT are fixed. -/
def State.cfgByte (s : State) (o : Nat) : Byte := tblGet byteZero s.con.cfg o

/-- Bytes of the configuration record. -/
def State.cfgBytes (s : State) (o n : Nat) : List Byte := tblGets byteZero s.con.cfg o n

/-- A field of the configuration record. -/
def State.cfgField (s : State) (o n : Nat) : Nat := leNat (s.cfgBytes o n)

/-- Section 0 of the record is set. -/
def State.topologySet (s : State) : Bool := s.cfgField 20 8 ≠ 0

/-- Nodes that may become pole: those that the record names, those whose heartbeats show POLE_ELIG, and this chip by its strap
(R39, Tables 17-19, 20-1). Without a record a chip that sends this one no heartbeats is eligible by its strap POLE_ELIG, a fixed value that
no rule gives this chip (log entry 32). -/
def State.eligibleMask (s : State) : Nat :=
  let far := if s.topologySet then 0 else s.loss.reach ||| s.loss.members ||| s.loss.committed
  let straps := (List.range 64).filter (fun n => bit far n && !bit s.loss.heard n && n ≠ s.node && Config.poleStrap n)
  s.cfgField 28 8 ||| s.loss.elig ||| (if s.poleElig then 2 ^ s.node else 0) ||| straps.foldl (fun m n => m + 2 ^ n) 0

/-- The record image as read and hashed: 3,248 bytes with its MAGIC and FORMAT (Table 17-18). -/
def State.cfgImage (s : State) : List Byte := leBytes 4 0x4746434B ++ leBytes 1 1 ++ s.cfgBytes 5 3243

/-- `SAF_HB_PORT_n_STAT`, and the received payload behind it. -/
def aHbPort (p : Nat) : Nat := 0x24002020 + 0x20 * p

/-- GET_INFO (Table 17-9). -/
def execGetInfo (r : Req) (s : State) : Out := s.run (fun s =>
  s.serve r (fun s =>
    s.respond r 0 (leBytes 2 0x7240 ++ leBytes 1 0xA1 ++ leBytes 1 s.lifecycle ++ leBytes 1 s.node ++
      leBytes 1 (s.loss.pole.getD 0xFF) ++
      leBytes 1 (b2n (bit s.straps 6) + 2 * b2n s.isPole + 4 * b2n s.loss.lone + 8 * b2n (bit (s.reg 0x23000020).toNat 1)) ++
      leBytes 1 1 ++ leBytes 4 s.sec.running ++ leBytes 4 (s.reg 0x26000400).toNat ++ leBytes 8 s.ctNs)))

/-- GET_TIME: CT, epoch, vehicle time and whether it is valid (R140, R142). -/
def execGetTime (r : Req) (s : State) : Out := s.run (fun s =>
  s.serve r (fun s =>
    s.respond r 0 (leBytes 8 s.ctNs ++ leBytes 8 s.tim.epoch ++ leBytes 8 ((s.ctNs + s.reg64 0x23000090) % 18446744073709551616) ++
      leBytes 1 (b2n s.tim.vtValid))))

/-- OP_STATUS: the result as in OP_DONE; a running operation shows 0x0001 (R507). -/
def execOpStatus (r : Req) (s : State) : Out := s.run (fun s =>
  s.serve r (fun s =>
    match (if r.data.length = 4 then s.kmp.ops.find? (fun o => o.id = fieldAt r.data 0 4) else none) with
    | none => s.respond r 0x0109 []
    | some o => s.respond r 0 (leBytes 4 o.id ++ leBytes 2 o.cmd ++ leBytes 2 (o.status.getD 1) ++ o.result)))

/-- Number of bits set among the low `n`. -/
def popCount (v n : Nat) : Nat := ((List.range n).filter (fun i => bit v i)).length

/-- CONST_STATUS (Table 17-11). -/
def execConstStatus (r : Req) (s : State) : Out := s.run (fun s =>
  s.serve r (fun s =>
    s.respond r 0 (leBytes 8 s.tim.epoch ++ leBytes 8 s.ctNs ++ leBytes 1 (s.loss.pole.getD 0xFF) ++
      leBytes 1 (popCount s.loss.members 64) ++ leBytes 1 (if s.loss.formed then 1 else if s.loss.committed = 0 then 0 else 2) ++
      leBytes 1 (b2n s.tim.rate25) ++ leBytes 8 s.loss.members ++ leBytes 8 s.loss.committed ++
      leBytes 8 s.eligibleMask)))

/-- PING: the payload from byte 4 on comes back (Table 17-8). -/
def execPing (r : Req) (s : State) : Out := s.run (fun s =>
  s.serve r (fun s =>
    if r.data.length < 4 then s.respond r 0x0109 []
    else s.onNode r (byteAt r.data 0) (fun s => s.respond r 0 (r.data.drop 4))))

end Sys2Proof.Machine
end

