-- ==== Sys2Proof/Machine/Blocks.lean ====
section
/-! DEFINITION. Blocks: the 66-bit blocks of a lane, their types, the scrambler and the descrambler, and the PRBS31 generator and
checker (R46 to R49, R82). -/

namespace Sys2Proof.Machine

/-! ### Blocks -/

/-- A block as its lane carries it before scrambling or after descrambling: the sync header with its first bit in bit 0, and the
payload with payload byte 0 in bits 7 to 0 (R46, R47). -/
structure Block where
  header : BitVec 2
  payload : BitVec 64
  deriving DecidableEq, Repr

/-- Sync header 01, written first bit first: a data block (R46). -/
def dataHeader : BitVec 2 := 0b10#2

/-- Sync header 10, written first bit first: a control block (R46). -/
def ctlHeader : BitVec 2 := 0b01#2

/-- The type of IDLE (Table 2-2). -/
def tyIdle : Nat := 0x1E
/-- The type of ALIGN. -/
def tyAlign : Nat := 0x2D
/-- The type of SKIP. -/
def tySkip : Nat := 0x33
/-- The type of TRAIN. -/
def tyTrain : Nat := 0x4B
/-- The type of NOTICE. -/
def tyNotice : Nat := 0x55
/-- The type of FRAME_HDR. -/
def tyHdr : Nat := 0x78
/-- The type of FRAME_TRL. -/
def tyTrl : Nat := 0x87

/-- The control block types (Table 2-2). -/
def blockTypes : List Nat := [tyIdle, tyAlign, tySkip, tyTrain, tyNotice, tyHdr, tyTrl]

/-- A control block: its type in payload byte 0, its body in bytes 1 to 7 (R47). -/
def ctlBlock (ty : Nat) (b : Body) : Block := ⟨ctlHeader, b ++ BitVec.ofNat 8 ty⟩

/-- Data block `i` of a flit: eight consecutive bytes, the lowest first (R47). -/
def dataBlock (f : Flit) (i : Nat) : Block := ⟨dataHeader, f.extractLsb' (64 * i) 64⟩

/-- The type of a control block. -/
def Block.ty (b : Block) : Nat := (b.payload.extractLsb' 0 8).toNat

/-- The body of a control block. -/
def Block.body (b : Block) : Body := b.payload.extractLsb' 8 56

/-- A control block of one type. -/
def Block.isCtl (b : Block) (ty : Nat) : Bool := b.header == ctlHeader && b.ty == ty

/-- A block error: sync header 00 or 11, or a control type outside Table 2-2 (R48). -/
def Block.bad (b : Block) : Bool :=
  b.header == 0b00#2 || b.header == 0b11#2 || (b.header == ctlHeader && !blockTypes.contains b.ty)

/-- The body of a NOTICE block (Table 2-9). -/
def noticeBody (code : Nat) : Body := BitVec.ofNat 52 0 ++ BitVec.ofNat 4 code

/-- The four data blocks of a slot. -/
def slotBlocks (f : Flit) : List Block := (List.range 4).map (dataBlock f)

/-- The port-stream blocks of a frame (Table 2-6). -/
def frameBlocks (f : Frame) : List Block :=
  ctlBlock tyHdr (frameHdr f) :: (if f.short then [] else (List.range 4).flatMap (fun i => slotBlocks (f.slots.getD i 0#256))) ++
    [ctlBlock tyTrl (frameTrl f)]

/-- The flit that four data blocks carry. -/
def flitIn (bs : List Block) (i : Nat) : Flit :=
  let w (k : Nat) : BitVec 64 := ((bs.map Block.payload).getD (1 + 4 * i + k) 0#64)
  w 3 ++ w 2 ++ w 1 ++ w 0

/-- The blocks follow the layout of Table 2-6: a header, 16 data blocks in a full frame, a trailer. -/
def frameLayout (bs : List Block) (short : Bool) : Bool :=
  bs.length == (if short then 2 else 18) && (bs.headD (ctlBlock 0 0#56)).isCtl tyHdr && (bs.getLastD (ctlBlock 0 0#56)).isCtl tyTrl &&
    ((bs.drop 1).dropLast).all (fun b => b.header == dataHeader)

/-- The frame that received blocks spell (Tables 2-6 to 2-8); a block error or another layout fails it (R48, R57, R65). -/
def frameOf (bs : List Block) (short : Bool) : Frame :=
  let h := (bs.headD (ctlBlock 0 0#56)).body
  let t := (bs.getLastD (ctlBlock 0 0#56)).body
  { seq := (h.extractLsb' 0 8).toNat, ack := (h.extractLsb' 8 8).toNat, ackV := h.getLsbD 16, nak := h.getLsbD 17,
    short := h.getLsbD 18, crVc := (h.extractLsb' 19 3).toNat, crTotal := (h.extractLsb' 22 8).toNat, crc := t.extractLsb' 0 24,
    slots := if short then [] else (List.range 4).map (flitIn bs), flitV := (t.extractLsb' 24 4).toNat,
    vcs := (List.range 4).map (fun i => (t.extractLsb' (28 + 3 * i) 3).toNat),
    blockErr := bs.any Block.bad || !frameLayout bs short || h.getLsbD 18 != short, lane := 0, blocks := [] }

/-- A frame whose blocks a command gives is read from them. -/
def Frame.read (f : Frame) (short : Bool) : Frame :=
  if f.blocks.isEmpty then { f with short := short }
  else { frameOf (f.blocks.map (fun b => ⟨b.1, b.2⟩)) short with short := short, lane := f.lane }

/-- The frame's first block is no FRAME_HDR: the blocks are no frame at all. -/
def Frame.headless (f : Frame) : Bool :=
  match f.blocks with
  | [] => false
  | b :: _ => !(Block.isCtl ⟨b.1, b.2⟩ tyHdr)

/-! ### The scrambler (R46) -/

/-- One bit through the scrambler x^58 + x^39 + 1: the bit sent, and the state with it as its newest bit. -/
def scrBit (st : BitVec 58) (d : Bool) : Bool × BitVec 58 :=
  let o := Bool.xor d (Bool.xor (st.getLsbD 38) (st.getLsbD 57))
  (o, (st <<< 1) ||| (BitVec.ofBool o).setWidth 58)

/-- One received bit through the descrambler. -/
def descrBit (st : BitVec 58) (o : Bool) : Bool × BitVec 58 :=
  (Bool.xor o (Bool.xor (st.getLsbD 38) (st.getLsbD 57)), (st <<< 1) ||| (BitVec.ofBool o).setWidth 58)

/-- A run of bits through the scrambler or the descrambler `f`, bit 0 of the payload first. -/
def scrRun (f : BitVec 58 → Bool → Bool × BitVec 58) (st : BitVec 58) (p : BitVec 64) : BitVec 64 × BitVec 58 :=
  (List.range 64).foldl (fun (a : BitVec 64 × BitVec 58) i =>
    let r := f a.2 (p.getLsbD i)
    (if r.1 then a.1 ||| (1#64 <<< i) else a.1, r.2)) (0#64, st)

/-- The 66 bits of a block on its lane, the first in bit 0: the header unscrambled, the payload scrambled. -/
def Block.onLane (b : Block) (st : BitVec 58) : BitVec 66 × BitVec 58 :=
  let r := scrRun scrBit st b.payload
  (r.1 ++ b.header, r.2)

/-- The block that 66 received bits spell, and the descrambler after it. -/
def Block.ofLane (w : BitVec 66) (st : BitVec 58) : Block × BitVec 58 :=
  let r := scrRun descrBit st (w.extractLsb' 2 64)
  (⟨w.extractLsb' 0 2, r.1⟩, r.2)

/-- An affine map of the scrambler's state: the image of 0, and of each unit added to it. -/
structure Affine where
  zero : BitVec 58
  cols : List (BitVec 58)

/-- The affine map that agrees with a function on 0 and the unit vectors. -/
def Affine.of (f : BitVec 58 → BitVec 58) : Affine :=
  { zero := f 0#58, cols := (List.range 58).map (fun i => f (1#58 <<< i) ^^^ f 0#58) }

/-- The value of an affine map. -/
def Affine.app (m : Affine) (x : BitVec 58) : BitVec 58 :=
  (List.range 58).foldl (fun a i => if x.getLsbD i then a ^^^ m.cols.getD i 0#58 else a) m.zero

/-- `n` times the affine map `m` after `acc`, by squaring. -/
def Affine.pow (m : Affine) : Nat → Nat → Affine → Affine
  | 0, _, acc => acc
  | k + 1, n, acc =>
    if n = 0 then acc
    else Affine.pow (Affine.of (fun x => m.app (m.app x))) k (n / 2) (if n % 2 = 1 then Affine.of (fun x => m.app (acc.app x)) else acc)

/-- The scrambler's state after the payloads `ps` in turn. -/
def scrAll (st : BitVec 58) (ps : List (BitVec 64)) : BitVec 58 := ps.foldl (fun st p => (scrRun scrBit st p).2) st

/-- The scrambler's state after `n` payloads that go round the list `ps`. Each round is one affine map, so that a long run costs
no more than the logarithm of its length. -/
def scrMany (st : BitVec 58) (ps : List (BitVec 64)) (n : Nat) : BitVec 58 :=
  let rounds := n / max 1 ps.length
  let st := if rounds = 0 then st else (Affine.pow (Affine.of (fun x => scrAll x ps)) 64 rounds (Affine.of (fun x => x))).app st
  scrAll st (ps.take (n % max 1 ps.length))

/-! ### PRBS31 (R82) -/

/-- The next bit of the sequence x^31 + x^28 + 1 after the 31 bits of a state, the newest in bit 0. -/
def prbsBit (st : BitVec 31) : Bool := Bool.xor (st.getLsbD 30) (st.getLsbD 27)

/-- The state after one more bit. -/
def prbsPush (st : BitVec 31) (b : Bool) : BitVec 31 := (st <<< 1) ||| (BitVec.ofBool b).setWidth 31

/-- One received bit at a checker. Without SYNC it takes 31 bits as its seed, and then counts the bits that the seed predicts, or
the complement of which it predicts; 64 in a row set SYNC, and INV for the complement. With SYNC a wrong bit counts, and the 32nd
within 64 clears SYNC and begins a new seed. INV stays as it is until the next SYNC: R82 does not say whether a loss of SYNC clears
it (DESIGN CHOICE, log entry 30). -/
def Checker.take (c : Checker) (b : Bool) : Checker :=
  let want := prbsBit c.st
  if c.sync then
    let want := Bool.xor want c.inv
    let recent := (c.recent ++ [b != want]).drop ((c.recent.length + 1) - 64)
    let c := { c with st := prbsPush c.st want, recent := recent, errs := if b = want then c.errs else c.errs + 1 }
    if 32 ≤ (recent.filter (fun x => x)).length then { c with sync := false, seeded := 0, runEq := 0, runNe := 0, recent := [] }
    else c
  else if c.seeded < 31 then { c with st := prbsPush c.st b, seeded := c.seeded + 1 }
  else
    let eq := if b = want then c.runEq + 1 else 0
    let ne := if b = want then 0 else c.runNe + 1
    let c := { c with st := prbsPush c.st b, runEq := eq, runNe := ne }
    if 64 ≤ eq then { c with sync := true, inv := false, recent := [] }
    else if 64 ≤ ne then { c with sync := true, inv := true, recent := [] } else c

/-- Bits at a lane's checker, each given as wrong or not: against the lane's own generator in near-end loopback, else against what the
checker predicts (R82). -/
def Lane.hearBits (x : Lane) (loop : Bool) (wrong : List Bool) : Lane :=
  wrong.foldl (fun x w =>
    let b := Bool.xor w (if loop then prbsBit x.prbs else Bool.xor (prbsBit x.check.st) x.check.inv)
    { x with prbs := if loop then prbsPush x.prbs (prbsBit x.prbs) else x.prbs, check := x.check.take b }) x

/-- `n` bits of a lane's own generator at its checker: near-end loopback. -/
def loopBits : Nat → BitVec 31 → Checker → BitVec 31 × Checker
  | 0, g, c => (g, c)
  | n + 1, g, c => loopBits n (prbsPush g (prbsBit g)) (c.take (prbsBit g))

end Sys2Proof.Machine
end

