-- ==== Sys2Proof/Machine/Lanes.lean ====
section
/-! DEFINITION. Lanes: the registers of a link port, and what its two lanes carry: IDLE and TRAIN runs, the port stream and the
lane-level pairs (R46 to R51, R55, R64). -/

namespace Sys2Proof.Machine

/-- EVT of a port (Table 2-16). -/
def aLnkEvt (p : Nat) : Nat := lnkBase p + 0xC
/-- REVERSED. -/
def fReversed (p : Nat) : Fld := ⟨lnkBase p + 4, 3, 1⟩
/-- LANE_l_POL_INV of STAT. -/
def fPolInv (p l : Nat) : Fld := ⟨lnkBase p + 4, 4 + l, 1⟩
/-- PRESET. -/
def fPreset (p : Nat) : Fld := ⟨lnkBase p + 4, 6, 3⟩
/-- HELD. -/
def fHeld (p : Nat) : Fld := ⟨lnkBase p + 4, 16, 7⟩
/-- LOCK of `LNK_P_n_LANE_l_STAT`. -/
def fLock (p l : Nat) : Fld := ⟨lnkBase p + 0x40 + 4 * l, 0, 1⟩
/-- POL_INV of `LNK_P_n_LANE_l_STAT`. -/
def fLanePol (p l : Nat) : Fld := ⟨lnkBase p + 0x40 + 4 * l, 1, 1⟩
/-- Invalid sync headers of a lane. -/
def fInvalid (p l : Nat) : Fld := ⟨lnkBase p + 0x40 + 4 * l, 16, 16⟩
/-- SYNC of a lane's PRBS checker. -/
def fPrbsSync (p l : Nat) : Fld := ⟨lnkBase p + 0x50 + 8 * l, 0, 1⟩
/-- INV of a lane's PRBS checker. -/
def fPrbsInv (p l : Nat) : Fld := ⟨lnkBase p + 0x50 + 8 * l, 1, 1⟩
/-- Errors counted by a lane's PRBS checker. -/
def aPrbsErr (p l : Nat) : Nat := lnkBase p + 0x54 + 8 * l
/-- AVAIL_v. -/
def fAvail (p v : Nat) : Fld := ⟨lnkBase p + 0x20 + 4 * v, 0, 7⟩
/-- CRED_ADV_v. -/
def fAdv (p v : Nat) : Fld := ⟨lnkBase p + 0x20 + 4 * v, 8, 7⟩

/-- One block period in root-clock cycles: 66 bits at 9.6 Gbit/s. -/
def blockPeriod : Nat := 66

/-- Change a port's state beside its registers. -/
def State.onPort (s : State) (p : Nat) (f : Port → Port) : State := s.setPort p (f (s.port p))

/-- The receive buffer sizes that this chip advertises (Table 2-12). -/
def bufferOf (v : Nat) : Nat := if v < 2 then 32 else 64

/-- The route banks swap when T is reached (R111): BANK, ARM, `ROUTE_SWITCHED` and the event; every member of a formed constellation
swaps at the same T, so the record of their active banks follows. -/
def State.swapDue (s : State) : State :=
  if s.get fArm = 1 && decide (s.reg64 0x21008008 ≤ s.ctNs) then
    let t := s.reg64 0x21008008
    let s := (((s.set fBank (1 - s.get fBank)).set fArm 0).event aFabEvt 1).kmpEvent 0x8203 (leBytes 8 t) none
    let joining := (s.loss.changes.filter (fun c => c.2.1)).foldl (fun m c => m ||| 2 ^ (c.1 % 64)) 0
    { s with loss := { s.loss with swapped := true, banks := if s.loss.formed then s.loss.banks ^^^ (s.loss.members ||| joining) else s.loss.banks } }
  else s

/-- Change a lane of a port. -/
def Port.onLane (q : Port) (l : Nat) (f : Lane → Lane) : Port := if l = 0 then { q with lane0 := f q.lane0 } else { q with lane1 := f q.lane1 }

/-- The lane of a port. -/
def Port.lane (q : Port) (l : Nat) : Lane := if l = 0 then q.lane0 else q.lane1

/-- A block with this payload, as the descrambler leaves it, was received on a lane: its bits as the lane carried them are the newest
of the descrambler (R46). -/
def Port.hear (q : Port) (l : Nat) (payload : BitVec 64) : Port := q.onLane l (fun x => { x with rx := scrAll x.rx [payload] })

/-- Port-stream blocks were received, block k on lane k mod 2 (R49). -/
def Port.hearStream (q : Port) (ps : List (BitVec 64)) : Port :=
  ps.foldl (fun q x => { q.hear (q.kRx % 2) x with kRx := q.kRx + 1 }) q

/-- The blocks of a frame that came as its lanes carry them, descrambled; `k` is the count of its first block (R46, R49). -/
def Port.descrambled (q : Port) (k : Nat) : List (BitVec 2 × BitVec 64) → List (BitVec 2 × BitVec 64)
  | [] => []
  | b :: bs =>
    let r := Block.ofLane (b.2 ++ b.1) (q.lane (k % 2)).rx
    (r.1.header, r.1.payload) :: (q.onLane (k % 2) (fun x => { x with rx := r.2 })).descrambled (k + 1) bs

/-- A received frame after the descrambler (R46). Before ACTIVE its first block is block 0 of the port stream. -/
def Port.unscrambled (q : Port) (active : Bool) (f : Frame) : Frame :=
  if f.raw then { f with blocks := q.descrambled (if active then q.kRx else 0) f.blocks, raw := false } else f

/-- The payloads of a frame's blocks, as the descrambler leaves them. -/
def Frame.payloads (f : Frame) : List (BitVec 64) :=
  if f.blocks.isEmpty then (frameBlocks f).map Block.payload else f.blocks.map (fun b => b.2)

/-- The body of the TRAIN block that a port sends on lane `l`, the `i`-th of its run: the credits of the VCs in turn
(Tables 2-4, 2-12). The spec gives CRED_VC no order: it is i modulo 8 with i the count of TRAIN blocks since entry to DETECT, the same on
both lanes and in every phase (DESIGN CHOICE, log entry 30). -/
def State.trainBody (s : State) (p l i : Nat) : Body :=
  let q := s.port p
  let v := i % 8
  BitVec.ofNat 17 0 ++ BitVec.ofNat 8 1 ++ BitVec.ofNat 7 (bufferOf v) ++ BitVec.ofNat 3 v ++ BitVec.ofNat 3 (s.get (fPreset p)) ++
    BitVec.ofNat 3 q.presetReq ++ BitVec.ofBool q.eqDone ++ BitVec.ofNat 6 s.node ++ BitVec.ofNat 3 p ++ BitVec.ofNat 1 l ++
    BitVec.ofNat 4 q.phase

/-- The body of the ALIGN block that a port sends on lane `l` (Table 2-3). MARKER_CNT leaves out the pair that carries it, so that the
first pair since reset carries 0, and it does not begin anew in DOWN: the spec says neither (DESIGN CHOICE, log entry 30). -/
def State.alignBody (s : State) (p l : Nat) : Body :=
  BitVec.ofNat 38 0 ++ BitVec.ofNat 8 (s.port p).alignSent ++ BitVec.ofNat 6 s.node ++ BitVec.ofNat 3 p ++ BitVec.ofNat 1 l

/-- The transmitter can send blocks: not in DOWN, not in a test, not after transmission has stopped (R56, R82, R144). -/
def State.canSend (s : State) (p : Nat) : Bool := decide (s.get (fLnkState p) ≠ 0) && decide (s.get (fLnkTest p) = 0) && !s.linkOff

/-- Both lanes sent runs of payloads that go round: the scramblers go on (R46). -/
def Port.scrambled (q : Port) (p0 p1 : List (BitVec 64)) (n : Nat) : Port :=
  { q with lane0 := { q.lane0 with scr := scrMany q.lane0.scr p0 n }, lane1 := { q.lane1 with scr := scrMany q.lane1.scr p1 n } }

/-- Put on record what the lanes have carried up to now without a command: IDLE blocks in ACTIVE, TRAIN blocks in the training
states (R55, R64). -/
def State.fill (s : State) (p : Nat) : State :=
  let q := s.port p
  let n := (s.now - q.laneAt) / blockPeriod
  if n = 0 then s
  else if !s.canSend p then s.setPort p { q with laneAt := s.now }
  else if s.active p then
    let idle := (ctlBlock tyIdle 0#56).payload
    (s.setPort p { q.scrambled [idle] [idle] n with laneAt := q.laneAt + n * blockPeriod, kTx := q.kTx + 2 * n }).emit (.idle p (2 * n))
  else
    let bodies (l : Nat) : List Body := (List.range 8).map (fun i => s.trainBody p l (q.trainSent + i))
    let pay (l : Nat) : List (BitVec 64) := (bodies l).map (fun b => (ctlBlock tyTrain b).payload)
    (s.setPort p { q.scrambled (pay 0) (pay 1) n with laneAt := q.laneAt + n * blockPeriod, trainSent := q.trainSent + n }).emit
      (.train p n (bodies 0))

/-- One block on a lane of a port. -/
def Port.laneSend (q : Port) (l : Nat) (b : Block) : Port × BitVec 66 :=
  if l = 0 then
    let r := b.onLane q.lane0.scr
    ({ q with lane0 := { q.lane0 with scr := r.2 } }, r.1)
  else
    let r := b.onLane q.lane1.scr
    ({ q with lane1 := { q.lane1 with scr := r.2 } }, r.1)

/-- Blocks of the port stream, striped: block k on lane k mod 2 (R49). -/
def State.stream (s : State) (p : Nat) (bs : List Block) : State :=
  let r := bs.foldl (fun (a : Port × List (Nat × BitVec 66)) b =>
    let l := a.1.kTx % 2
    let x := a.1.laneSend l b
    ({ x.1 with kTx := x.1.kTx + 1 }, a.2 ++ [(l, x.2)])) (s.port p, [])
  (s.setPort p r.1).emit (.blocks p r.2)

/-- The lanes are busy for `n` more block periods, from now or from the end of what they send (R64). -/
def State.busy (s : State) (p n : Nat) : State :=
  s.onPort p (fun q => { q with laneAt := max q.laneAt s.now + n * blockPeriod })

/-- A lane-level pair: one block on each lane in one block period; it advances no k (R50). A frame on its way out is so much
later. -/
def State.lanePair (s : State) (p : Nat) (b0 b1 : Block) : State :=
  let s := (s.fill p).busy p 1
  let x := (s.port p).laneSend 0 b0
  let y := x.1.laneSend 1 b1
  (s.setPort p { y.1 with building := y.1.building.map (fun (b : Building) => { b with start := b.start + blockPeriod }) }).emit
    (.blocks p [(0, x.2), (1, y.2)])

end Sys2Proof.Machine
end

