-- ==== Sys2Proof/Machine/Package.lean ====
section
/-! DEFINITION. Package: the Nuder package, its variants, its directory and the rules about its contents (R551 to R554, R565,
R641). A package is its bytes. -/

namespace Sys2Proof.Machine

/-- A directory entry (Table 19-3). -/
structure Section where
  kind : Nat
  var : Nat
  plan : Nat
  lost : Nat
  node : Nat
  lcore : Nat
  rgn : Nat
  flags : Nat
  off : Nat
  len : Nat
  dest : Nat
  crc : Nat
  rest : Nat
  deriving DecidableEq, Repr

/-- A demand record (Table 19-5). -/
structure Demand where
  lcore : Nat
  compute : Bool
  wpri : Nat
  npri : Nat
  wenv : Nat
  nenv : Nat
  sfu : Nat
  win : Nat
  deriving DecidableEq, Repr

/-- Bytes of a bank pair (R554). -/
def pairBytes : Nat := 196608

/-- TIER, NVAR, PACKAGE_ID, REPLACES, NSECT, DIR_OFS, CONFIG_CRC, SIG_OFS, SIG_LEN of a package (Table 19-1). -/
def pkgTier (p : List Byte) : Nat := byteAt p 5
/-- NVAR. -/
def pkgVars (p : List Byte) : Nat := byteAt p 6
/-- PACKAGE_ID. -/
def pkgId (p : List Byte) : Nat := fieldAt p 8 8
/-- REPLACES. -/
def pkgReplaces (p : List Byte) : Nat := fieldAt p 16 8
/-- NSECT. -/
def pkgSects (p : List Byte) : Nat := fieldAt p 28 4
/-- DIR_OFS. -/
def pkgDir (p : List Byte) : Nat := fieldAt p 32 4
/-- CONFIG_CRC. -/
def pkgConfigCrc (p : List Byte) : Nat := fieldAt p 36 4
/-- SIG_OFS. -/
def pkgSigOfs (p : List Byte) : Nat := fieldAt p 40 4
/-- SIG_LEN. -/
def pkgSigLen (p : List Byte) : Nat := fieldAt p 44 4
/-- SHAPE_SRC_k: code, node, pipeline. -/
def pkgShape (p : List Byte) (k : Nat) : Nat × Nat × Nat := (byteAt p (48 + 4 * k), byteAt p (49 + 4 * k), byteAt p (50 + 4 * k))

/-- NODE_MASK of a variant (Table 19-2). -/
def varMask (p : List Byte) (v : Nat) : Nat := fieldAt p (128 + 64 * v + 4) 8
/-- BUCKET_k of a variant. -/
def varBucket (p : List Byte) (v k : Nat) : Nat := fieldAt p (128 + 64 * v + 12 + 2 * k) 2
/-- DEMAND of a variant. -/
def varDemand (p : List Byte) (v : Nat) : Nat := fieldAt p (128 + 64 * v + 20) 4

/-- The section at an offset of the directory. -/
def sectionAt (p : List Byte) (o : Nat) : Section :=
  let b (i : Nat) : Nat := byteAt p (o + i)
  { kind := b 0, var := b 1, plan := b 2, lost := b 3, node := b 4, lcore := b 5, rgn := b 6, flags := b 7, off := fieldAt p (o + 8) 4,
    len := fieldAt p (o + 12) 4, dest := fieldAt p (o + 16) 4, crc := fieldAt p (o + 20) 4, rest := fieldAt p (o + 24) 8 }

/-- The directory. -/
def sections (p : List Byte) : List Section := (List.range (min 4096 (pkgSects p))).map (fun i => sectionAt p (pkgDir p + 32 * i))

/-- The body of a section. -/
def bodyOf (p : List Byte) (x : Section) : List Byte := slice p x.off x.len

/-- A mirror copy, and weights (Table 19-3). -/
def Section.mirror (x : Section) : Bool := bit x.flags 0
/-- WEIGHTS. -/
def Section.weights (x : Section) : Bool := bit x.flags 1 || x.kind = 4

/-- The demand records of a variant on a node (R554). -/
def demands (p : List Byte) (v node : Nat) : List Demand :=
  ((sections p).filter (fun x => x.kind = 1 && x.var = v && x.node = node)).flatMap (fun x =>
    (List.range (x.len / 16)).map (fun i =>
      let b (k : Nat) : Nat := byteAt p (x.off + 16 * i + k)
      { lcore := b 0, compute := bit (b 1) 0, wpri := b 2, npri := b 3, wenv := b 4, nenv := b 5, sfu := b 6, win := b 7 }))

/-- Nodes for which a variant holds demand records: those of any of its plans, ascending. -/
def varNodes (p : List Byte) (v : Nat) : List Nat :=
  (List.range 64).filter (fun n => (sections p).any (fun x => x.kind = 1 && x.var = v && x.node = n))

/-- The nodes whose loss a fallback plan of a variant answers. -/
def fallbacks (p : List Byte) (v : Nat) : List Nat :=
  (List.range 64).filter (fun n => (sections p).any (fun x => x.plan = 1 && x.var = v && x.lost = n))

/-- Nodes that the fallback plan for the loss of `x` names: those with a step list of it. -/
def fallbackNodes (p : List Byte) (v x : Nat) : List Nat :=
  (List.range 64).filter (fun n => (sections p).any (fun y => y.kind = 3 && y.var = v && y.plan = 1 && y.lost = x && y.node = n))

/-- Every weight section of a variant has exactly one mirror, on another node (R565). -/
def mirrored (p : List Byte) (v : Nat) : Bool :=
  let ws := (sections p).filter (fun x => x.var = v && x.kind = 4)
  ws.all (fun x => x.mirror ||
    (match ws.filter (fun y => y.mirror && y.lcore = x.lcore && y.rgn = x.rgn && y.dest = x.dest) with
     | [y] => decide (y.node ≠ x.node)
     | _ => false))

/-- Every mirror lies on another node than its original (R559, check 4). -/
def mirrorsApart (p : List Byte) (v : Nat) : Bool :=
  let ws := (sections p).filter (fun x => x.var = v && x.kind = 4)
  ws.all (fun y => !y.mirror || ws.all (fun x => x.mirror || !(y.lcore = x.lcore && y.rgn = x.rgn && y.dest = x.dest) || decide (y.node ≠ x.node)))

/-- A variant holds a fallback plan for the loss of each chip of its primary plan, and a mirror of every weight (R28). -/
def coverOk (p : List Byte) (v : Nat) : Bool :=
  (List.range 64).all (fun n => !bit (varMask p v) n || (fallbacks p v).contains n) && mirrored p v

/-- A variant record is well formed (Table 19-2, R554). -/
def varOk (p : List Byte) (v : Nat) : Bool :=
  let o := 128 + 64 * v
  let m := varMask p v
  let sum := ((varNodes p v).flatMap (demands p v)).foldl (fun n d => n + (d.wenv + d.nenv) * pairBytes) 0
  byteAt p o = v && decide (1 ≤ byteAt p (o + 1)) && decide (byteAt p (o + 1) ≤ 64) &&
    decide (((List.range 64).filter (fun n => bit m n)).length = byteAt p (o + 1)) && fieldAt p (o + 2) 2 = 0 &&
    (List.range 4).all (fun k => decide ((pkgShape p k).1 ≠ 0) || decide (varBucket p v k = 0)) &&
    varDemand p v = sum && decide (leNat (slice p (o + 24) 40) = 0)

/-- A directory entry is well formed (Tables 19-3 and 19-4): demand records, epoch declarations and routes are chip-level sections. -/
def sectionOk (p : List Byte) (x : Section) : Bool :=
  decide (1 ≤ x.kind) && decide (x.kind ≤ 9) && decide (x.var < pkgVars p) && (x.plan = 0 || x.plan = 1 || x.plan = 0xFF) &&
    (if x.plan = 1 then decide (x.lost < 64) else decide (x.lost = 0xFF)) && decide (x.node < 64) &&
    (if x.kind = 1 || decide (8 ≤ x.kind) then decide (x.lcore = 0xFF) else decide (x.lcore < 8)) && decide (x.rgn < 8) && decide (x.flags < 4) && decide (x.rest = 0) &&
    decide (pkgDir p + 32 * pkgSects p ≤ x.off) && decide (x.off + x.len ≤ pkgSigOfs p) &&
    (decide (x.kind ≠ 1) || (decide (x.len % 16 = 0) &&
      (List.range (x.len / 16)).all (fun i => decide (byteAt p (x.off + 16 * i + 1) < 2) && decide (fieldAt p (x.off + 16 * i + 8) 8 = 0)) &&
      (demands p x.var x.node).all (fun d =>
      decide (d.lcore < 8) && decide (d.wpri ≤ d.wenv) && decide (d.npri ≤ d.nenv) && decide (d.sfu ≤ 16) && decide (d.win ≤ 16))))

/-- A shape source is well formed. -/
def shapeOk (p : List Byte) (k : Nat) : Bool :=
  let (c, n, q) := pkgShape p k
  decide (c ≤ 2) && decide (n < 64) && decide (q < 4) && byteAt p (51 + 4 * k) = 0

/-- The layout rules of a package (R551). -/
def pkgLayoutOk (p : List Byte) : Bool :=
  decide (128 ≤ p.length) && fieldAt p 0 4 = 0x5244554E && byteAt p 4 = 1 && decide (pkgTier p ≤ 1) && decide (1 ≤ pkgVars p) &&
    decide (pkgVars p ≤ 8) && byteAt p 7 = 0 && decide (pkgId p ≠ 0) && fieldAt p 24 4 = p.length && decide (1 ≤ pkgSects p) &&
    decide (pkgSects p ≤ 4096) && decide (pkgDir p % 32 = 0) && decide (128 + 64 * pkgVars p ≤ pkgDir p) &&
    decide (pkgDir p + 32 * pkgSects p ≤ pkgSigOfs p) && decide (pkgSigOfs p + pkgSigLen p ≤ p.length) &&
    (List.range 4).all (shapeOk p) && decide (leNat (slice p 64 64) = 0) && (List.range (pkgVars p)).all (varOk p) &&
    (sections p).all (sectionOk p)

/-- The signature block of a package under a list of signers: key hash and tenant mask (R641). -/
def pkgSigned (p : List Byte) (signers : List (List Byte × Nat)) (tenant : Nat) : Bool :=
  let o := pkgSigOfs p
  let key := slice p o 97
  let hash := fit 48 (Config.sha384 key)
  decide (pkgSigLen p = 196) && signers.any (fun x => x.1 = hash && bit x.2 tenant) &&
    Config.ecdsaOk key (fit 48 (Config.sha384 (p.take o))) (slice p (o + 97) 96)

/-- Bits of a region's CFG that the firmware substitutes: EN, FIRST_PAIR, TENANT, and LOCK = 0 (R553, R567; `forImages`). `wide` and `narrow`
are the first pairs granted within the groups. -/
def regionCfg (cfg tenant wide narrow : Nat) : Nat :=
  let keep := cfg &&& 0x7FFFF8E2
  let first := (bits cfg 2 3 + if bits cfg 1 1 = 0 then wide else narrow) % 8
  keep + 1 + 4 * first + 256 * (tenant % 8)

/-- A logical core's place on a node: physical core, first wide and narrow pair. -/
structure Place where
  lcore : Nat
  core : Nat
  wide : Nat
  narrow : Nat
  compute : Bool
  deriving DecidableEq, Repr

/-- A region of a logical core that receives SFU table images and neither step lists nor weights: a firmware region, with TENANT = 7
(Table 9-3, DEDUCED, log entry 42). -/
def forImages (xs : List Section) (lcore r : Nat) : Bool :=
  let holds (x : Section) (k : Nat) : Bool := x.kind = k && x.lcore = lcore && x.rgn = r
  xs.any (fun x => holds x 5) && !xs.any (fun x => holds x 3 || holds x 4)

/-- A node's share of a plan of a variant: `lost` is none for the primary plan. The mapping gives each logical core of the node its
place, and `all` that of every node, for the core fields of global addresses (R553, R567). -/
def shareOf (p : List Byte) (v tenant node : Nat) (lost : Option Nat) (places : List Place) (all : List (Nat × Nat × Nat)) : Config.Share :=
  let mine := (sections p).filter (fun x => x.var = v && x.node = node)
  let sel (x : Section) : Bool := x.plan = 0xFF || (match lost with | none => x.plan = 0 | some l => x.plan = 1 && x.lost = l)
  let at_ (x : Section) : Place := (places.find? (fun q => q.lcore = x.lcore)).getD { lcore := 0, core := 0, wide := 0, narrow := 0, compute := false }
  let rgns := (mine.filter (fun x => x.kind = 2)).flatMap (fun x =>
    (Config.regionImages (bodyOf p x)).map (fun r =>
      ((at_ x).core, r.1, r.2.1, r.2.2.1,
        regionCfg r.2.2.2 (if forImages mine x.lcore r.1 then 7 else tenant) (at_ x).wide (at_ x).narrow)))
  let base (x : Section) : Nat := ((rgns.find? (fun r => r.1 = (at_ x).core && r.2.1 = x.rgn)).map (fun r => r.2.2.1)).getD 0
  let steps := mine.filter (fun x => x.kind = 3 && sel x)
  let decl := ((sections p).find? (fun x => x.kind = 8 && x.var = v && sel x)).map (fun x => Config.epochDecl node (bodyOf p x))
  let nodes := match lost with
    | none => varMask p v
    | some l => (fallbackNodes p v l).foldl (fun m n => m ||| 2 ^ n) 0
  { safetyTier := pkgTier p = 1, tenant := tenant, nodes := nodes,
    cores := (steps.map (fun x => (at_ x).core)).eraseDups,
    regions := rgns,
    lists := steps.map (fun x => ((at_ x).core, base x + x.dest, x.len / 64, (Config.stepList all (bodyOf p x)).1)),
    windows := (mine.filter (fun x => x.kind = 7 && sel x)).flatMap (fun x =>
      (Config.windowImages (bodyOf p x)).map (fun w => ((at_ x).core, w.1, w.2.1, w.2.2))),
    tables := (mine.filter (fun x => x.kind = 5)).map (fun x => ((at_ x).core, Config.sfuSlot (bodyOf p x), base x + x.dest)),
    uses := (mine.filter (fun x => x.kind = 6)).flatMap (fun x =>
      (Config.sfuUses (bodyOf p x)).map (fun u => ((at_ x).core, u.1, u.2.2.1, u.2.2.2.1))),
    bodies := (mine.filter (fun x => x.kind = 4 || x.kind = 5)).map (fun x => ((at_ x).core, base x + x.dest, x.len, x.crc)),
    staged := steps.map (fun x => ((at_ x).core, base x + x.dest, (Config.stepList all (bodyOf p x)).2)),
    flags := (decl.map (fun d => d.1)).getD [], words := (decl.map (fun d => d.2.1)).getD [], result := (decl.map (fun d => d.2.2.1)).getD none,
    spans := (decl.map (fun d => d.2.2.2)).getD [],
    measured := p.take 128 ++ slice p (pkgDir p) (32 * pkgSects p) }

end Sys2Proof.Machine
end

