-- ==== Sys2Proof/Machine/Topology.lean ====
section
/-! DEFINITION. Topology: the topology of the constellation, the default generator of route tables and the links that a plan uses (R24,
R98 to R102, R112, R578). -/

namespace Sys2Proof.Machine

/-- Nodes of a mask, ascending. -/
def nodesOf (mask : Nat) : List Nat := (List.range 64).filter (bit mask)

/-- What the generator works on: KIND, sizes, nodes of the installation, members, and link ends that are out of use. -/
structure Topo where
  kind : Nat
  xs : Nat
  ys : Nat
  nodes : Nat
  members : Nat
  down : List (Nat × Nat)
  deriving DecidableEq, Repr

/-- Coordinate of a node in dimension 0 (X) or 1 (Y): a line or a ring counts along X, a torus has X in bits 2 to 0. -/
def Topo.coord (t : Topo) (n dim : Nat) : Nat := if t.kind = 2 then (if dim = 0 then n % 8 else n / 8) else (if dim = 0 then n else 0)
/-- Size of a dimension. -/
def Topo.size (t : Topo) (dim : Nat) : Nat := if dim = 0 then t.xs else if t.kind = 2 then t.ys else 1
/-- The node with the coordinate of `n` in one dimension replaced. -/
def Topo.at_ (t : Topo) (n dim c : Nat) : Nat := if t.kind = 2 then (if dim = 0 then n / 8 * 8 + c else 8 * c + n % 8) else c
/-- The other port of a dimension. -/
def opposite (p : Nat) : Nat := if p % 2 = 0 then p + 1 else p - 1

/-- The partner of a port 0 to 3; none at the end of a line. -/
def Topo.partner (t : Topo) (n p : Nat) : Option Nat :=
  let dim := p / 2
  let size := t.size dim
  let c := t.coord n dim
  if size ≤ 1 then none
  else if p % 2 = 0 then (if c + 1 < size then some (t.at_ n dim (c + 1)) else if t.kind = 0 then none else some (t.at_ n dim 0))
  else if 0 < c then some (t.at_ n dim (c - 1)) else if t.kind = 0 then none else some (t.at_ n dim (size - 1))

/-- A link is live: both ends are. -/
def Topo.linkLive (t : Topo) (n p : Nat) : Bool :=
  match t.partner n p with
  | some m => bit t.nodes m && !t.down.contains (n, p) && !t.down.contains (m, opposite p)
  | none => false

/-- A hop on a port is possible; in a dimension of size 2 either link of the pair serves (R25, R99). -/
def Topo.hopLive (t : Topo) (n p : Nat) : Bool := t.linkLive n p || (t.size (p / 2) = 2 && t.linkLive n (opposite p))

/-- `k` hops on one port from a node; nodes passed on the way are members. -/
def Topo.walk (t : Topo) (p : Nat) : Nat → Nat → Option Nat
  | 0, n => some n
  | k + 1, n =>
    if t.hopLive n p then
      match t.partner n p with
      | some m => if k = 0 || bit t.members m then t.walk p k m else none
      | none => none
    else none

/-- The port that moves from `n` to coordinate `c` of a dimension: the shorter live way, a tie to plus (R100). -/
def Topo.dimPort (t : Topo) (n dim c : Nat) : Option Nat :=
  let size := t.size dim
  let cur := t.coord n dim
  let plus := (c + size - cur) % size
  let minus := size - plus
  let okP := (t.walk (2 * dim) plus n).isSome
  let okM := (t.walk (2 * dim + 1) minus n).isSome
  if okP && (!okM || decide (plus ≤ minus)) then some (2 * dim) else if okM then some (2 * dim + 1) else none

/-- The first port of the route from `n` to `d` that moves in one dimension and then in the other, if all of it is live. -/
def Topo.orderPort (t : Topo) (first n d : Nat) : Option Nat :=
  -- A line and a ring have one dimension, which only the first order takes.
  if t.kind ≠ 2 then (if first = 0 && decide (n ≠ d) then t.dimPort n 0 (t.coord d 0) else none)
  else
  let corner := t.at_ n first (t.coord d first)
  let leg2 := if corner = d then some 0 else t.dimPort corner (1 - first) (t.coord d (1 - first))
  if n = d then none
  else if corner = n then t.dimPort n (1 - first) (t.coord d (1 - first))
  else if leg2.isSome && (corner = d || bit t.members corner) then t.dimPort n first (t.coord d first)
  else none

/-- The port at `n` for `d`: X then Y, or what has been added for the pair. -/
def Topo.next (t : Topo) (extra : List (Nat × Nat × Nat)) (n d : Nat) : Option Nat :=
  match t.orderPort 0 n d with
  | some p => some p
  | none => (extra.find? (fun e => e.1 = n && e.2.1 = d)).map (fun e => e.2.2)

/-- A port's link is the dateline of its ring (R102). -/
def Topo.dateline (t : Topo) (n p : Nat) : Bool :=
  t.kind ≠ 0 && decide (p < 4) && decide (1 < t.size (p / 2)) &&
    (if p % 2 = 0 then t.coord n (p / 2) + 1 = t.size (p / 2) else t.coord n (p / 2) = 0)

/-- The channels of a route: node, port and DL, at most `k` of them (R102). -/
def Topo.trace (t : Topo) (extra : List (Nat × Nat × Nat)) (d : Nat) : Nat → Nat → Nat → Bool → List (Nat × Nat × Bool)
  | 0, _, _, _ => []
  | k + 1, n, dim, dl =>
    match t.next extra n d with
    | none => []
    | some p =>
      let dl := (dl && dim = p / 2) || t.dateline n p
      match t.partner n p with
      | some m => (n, p, dl) :: (if m = d then [] else t.trace extra d k m (p / 2) dl)
      | none => []

/-- The route between two nodes. -/
def Topo.path (t : Topo) (extra : List (Nat × Nat × Nat)) (a b : Nat) : List (Nat × Nat × Bool) := t.trace extra b 64 a 2 false

/-- Dependencies between channels along a route. -/
def pathDeps : List (Nat × Nat × Bool) → List ((Nat × Nat × Bool) × (Nat × Nat × Bool))
  | a :: b :: l => (a, b) :: pathDeps (b :: l)
  | _ => []

/-- Take away, `k` times, the dependencies of channels on which nothing depends. -/
def pruneDeps (k : Nat) (es : List ((Nat × Nat × Bool) × (Nat × Nat × Bool))) : List ((Nat × Nat × Bool) × (Nat × Nat × Bool)) :=
  match k with
  | 0 => es
  | k + 1 => pruneDeps k (es.filter (fun e => es.any (fun f => f.2 = e.1)))

/-- Members, ascending. -/
def Topo.memberList (t : Topo) : List Nat := nodesOf t.members

/-- The channel dependency graph of the whole table set is acyclic (R100, R101). -/
def Topo.acyclic (t : Topo) (extra : List (Nat × Nat × Nat)) : Bool :=
  let es := (t.memberList.flatMap (fun a => t.memberList.flatMap (fun b => pathDeps (t.path extra a b)))).eraseDups
  (pruneDeps 513 es).isEmpty

/-- The entries that a Y-then-X route from `n` to `d` adds: at most `k` hops, up to a node that has an entry (R100). -/
def Topo.otherOrder (t : Topo) (extra : List (Nat × Nat × Nat)) (d : Nat) : Nat → Nat → List (Nat × Nat × Nat)
  | 0, _ => []
  | k + 1, n =>
    if n = d || (t.next extra n d).isSome then []
    else
      match t.orderPort 1 n d with
      | none => []
      | some p =>
        match t.partner n p with
        | some m => (n, d, p) :: t.otherOrder extra d k m
        | none => []

/-- A route leads to its destination. -/
def Topo.arrives (t : Topo) (extra : List (Nat × Nat × Nat)) (a b : Nat) : Bool :=
  match (t.path extra a b).getLast? with
  | some c => t.partner c.1 c.2.1 == some b
  | none => false

/-- Pairs served in Y-then-X order (R100): a route is taken whole, where it leads to its destination and keeps the graph acyclic. -/
def Topo.extra (t : Topo) : List (Nat × Nat × Nat) :=
  (t.memberList.flatMap (fun a => t.memberList.map (fun b => (a, b)))).foldl (fun ex ab =>
    if ab.1 = ab.2 || (t.next ex ab.1 ab.2).isSome then ex
    else
      let ex' := ex ++ t.otherOrder ex ab.2 64 ab.1
      if t.arrives ex' ab.1 ab.2 && t.acyclic ex' then ex' else ex) []

/-! ### Broadcast trees -/

/-- Hops that a copy takes from `n` on a port: at most half of an intact ring, else to the end of the line (R100). -/
def Topo.copyHops (t : Topo) (n p : Nat) : Nat :=
  let size := t.size (p / 2)
  let step (k : Nat) : Bool := match t.walk p k n with | some m => bit t.members m | none => false
  let run := ((List.range size).drop 1).takeWhile step
  if t.kind ≠ 0 && decide (1 < size) && step size && run.length + 1 = size then (if p % 2 = 0 then size / 2 else (size - 1) / 2) else run.length

/-- The port that a hop takes: the other of a pair where its own link is out of use. -/
def Topo.hopPort (t : Topo) (n p : Nat) : Nat := if t.linkLive n p || t.size (p / 2) ≠ 2 then p else opposite p

/-- Forwards of the copies that enter a ring at `n`: node, port and the node reached. -/
def Topo.ringCopies (t : Topo) (n dim : Nat) : List (Nat × Nat × Nat) :=
  [2 * dim, 2 * dim + 1].flatMap (fun p => (List.range (t.copyHops n p)).filterMap (fun k =>
    match t.walk p k n, t.walk p (k + 1) n with
    | some a, some b => some (a, t.hopPort a p, b)
    | _, _ => none))

/-- Neighbours of a node over live links between members, ascending, with the lowest port that reaches each. -/
def Topo.neighbours (t : Topo) (n : Nat) : List (Nat × Nat) :=
  t.memberList.filterMap (fun m => ((List.range 4).find? (fun p => t.linkLive n p && t.partner n p = some m)).map (fun p => (m, p)))

/-- Shortest paths from reached members, breadth first, in the order of their node IDs; paths are listed last node first. -/
def Topo.search (t : Topo) (target : Nat) : Nat → List (List Nat) → List Nat → Option (List Nat)
  | 0, _, _ => none
  | k + 1, paths, seen =>
    match paths.find? (fun p => p.head? = some target) with
    | some p => some p
    | none =>
      let (next, seen) := paths.foldl (fun (acc : List (List Nat) × List Nat) p =>
        match p with
        | [] => acc
        | n :: _ => (t.neighbours n).foldl (fun (acc : List (List Nat) × List Nat) m =>
            if acc.2.contains m.1 then acc else (acc.1 ++ [m.1 :: p], m.1 :: acc.2)) acc) ([], seen)
      t.search target k next seen

/-- Forwards along a path that is listed last node first. -/
def Topo.pathCopies (t : Topo) : List Nat → List (Nat × Nat × Nat)
  | b :: a :: l => (a, (((t.neighbours a).find? (fun m => m.1 = b)).map (fun m => m.2)).getD 0, b) :: t.pathCopies (a :: l)
  | _ => []

/-- The broadcast tree of a source: node, port and the node reached (R100). -/
def Topo.tree (t : Topo) (src : Nat) : List (Nat × Nat × Nat) :=
  let x := t.ringCopies src 0
  let row := src :: x.map (fun e => e.2.2)
  let base := x ++ (if t.kind = 2 then row.flatMap (fun n => t.ringCopies n 1) else [])
  t.memberList.foldl (fun tr m =>
    let reached := src :: tr.map (fun e => e.2.2)
    if reached.contains m then tr
    else match t.search m 65 ((nodesOf (reached.foldl (fun k n => k ||| 2 ^ n) 0)).map (fun n => [n])) reached with
      | some p => tr ++ t.pathCopies p
      | none => tr) base

/-! ### Tables -/

/-- The entry of node `u` for node `d` (Table 3-4). -/
def Topo.entry (t : Topo) (extra : List (Nat × Nat × Nat)) (u d : Nat) : Nat :=
  if !bit t.nodes d then 0x36
  else
    let port := if u = d then 7 else (t.next extra u d).getD 6
    let pair := decide (port < 4) && t.size (port / 2) = 2
    let alt := if pair then opposite port else 6
    let tr := if bit t.members d then t.tree d else []
    let mask := (tr.filter (fun e => e.1 = u)).foldl (fun m e => m ||| 2 ^ e.2.1) 0
    let local_ := u ≠ d && tr.any (fun e => e.2.2 = u)
    port + 8 * alt + 64 * b2n pair + 256 * mask + 16384 * b2n local_ + 32768

/-- The 64 words of a node's table. -/
def Topo.table (t : Topo) (u : Nat) : List Nat :=
  let extra := t.extra
  (List.range 64).map (t.entry extra u)

/-- The topology that the links show before section 0 of the record is set: a torus when a Y port has a partner; else a ring when this
chip sees its closing link, and a line otherwise. The spec routes by the record only (DESIGN CHOICE, log entry 32). -/
def State.seenKind (s : State) : Nat :=
  let peer (p : Nat) : Option Nat := if s.get (fPeerValid p) = 1 then some (s.get (fPeerNode p)) else none
  if (peer 2).isSome || (peer 3).isSome then 2
  else if (match peer 0 with | some n => decide (n < s.node) | none => false) || (match peer 1 with | some n => decide (s.node < n) | none => false) then 1
  else 0

/-- The topology for a membership: the record's, or before section 0 is set the one that the links and the known node IDs show
(R100, R518). -/
def State.topo (s : State) (members : Nat) : Topo :=
  let down := s.loss.reports.map (fun r => (r.node, r.port))
  if s.topologySet then { kind := s.cfgField 16 1, xs := s.cfgField 17 1, ys := s.cfgField 18 1, nodes := s.cfgField 20 8, members := members, down := down }
  else
    let known := nodesOf (members ||| s.loss.reach ||| 2 ^ s.node)
    let torus := s.seenKind = 2
    { kind := s.seenKind, xs := (known.map (fun n => if torus then n % 8 else n)).foldl max 0 + 1,
      ys := if torus then (known.map (fun n => n / 8)).foldl max 0 + 1 else 1,
      nodes := known.foldl (fun m n => m ||| 2 ^ n) 0, members := members, down := down }

/-- Spur links of the record: both ends (Table 17-19). -/
def State.spurs (s : State) : List (Nat × Nat × Nat × Nat) :=
  (List.range (min 32 (s.cfgField 19 1))).map (fun i =>
    (s.cfgField (48 + 4 * i) 1, s.cfgField (49 + 4 * i) 1, s.cfgField (50 + 4 * i) 1, s.cfgField (51 + 4 * i) 1))

/-- The route-table section of an admitted package for a node (KIND 9 of Table 19-4), where the record names them (ROUTES of Table
17-19, R101, R477). The layout of its body is not in the spec. -/
def State.nuderTable (s : State) (node : Nat) : Option (List Nat) :=
  if s.cfgField 36 1 = 1 then
    (s.con.models.filter (fun m => decide (2 ≤ m.st))).findSome? (fun m =>
      let lost := m.fallback
      ((sections m.bytes).find? (fun x => x.kind = 9 && x.var = m.variant && x.node = node &&
        (x.plan = 0xFF || (match lost with | none => x.plan = 0 | some l => x.plan = 1 && x.lost = l)))).map (fun x =>
          Config.routeTable (slice m.bytes x.off x.len)))
  else none

/-- The table of a node: Nuder's where the record names it and the package has it, else the default generator's (R101, R477). -/
def State.tableOf (s : State) (t : Topo) (node : Nat) : List Nat := (s.nuderTable node).getD (t.table node)

/-- A hop on a port of a node takes a link; in a dimension of size 2 TC2 and TC3 take the other link of the pair (R99). -/
def Topo.hopTakes (t : Topo) (n p node port : Nat) : Bool :=
  let same (a b : Nat) : Bool := a = b || (t.size (a / 2) = 2 && decide (a < 4) && a / 2 = b / 2)
  (n = node && same p port) || (some n == t.partner node port && same p (opposite port))

/-- The partner of a port, spurs of the record included. -/
def State.linkEnd (s : State) (t : Topo) (n p : Nat) : Option Nat :=
  if p < 4 then t.partner n p
  else s.spurs.findSome? (fun l =>
    if l.1 = n && l.2.1 = p then some l.2.2.1 else if l.2.2.1 = n && l.2.2.2 = p then some l.1 else none)

/-- The hops of a route that tables give, at most `k` of them: node, and the entry used there. -/
def State.tableRoute (s : State) (t : Topo) (d : Nat) : Nat → Nat → List (Nat × Nat)
  | 0, _ => []
  | k + 1, n =>
    let e := (s.tableOf t n).getD d 0
    if n = d || e % 8 = 6 || e % 8 = 7 || !bit e 15 then []
    else (n, e) :: (match s.linkEnd t n (e % 8) with | some m => s.tableRoute t d k m | none => [])

/-- A plan's nodes exchange packets over a link (R112, R597): some route between two of them takes it, in either direction. -/
def State.planUses (s : State) (t : Topo) (nodes node port : Nat) : Bool :=
  let ns := nodesOf nodes
  if ns.any (fun n => (s.nuderTable n).isSome) then
    let far := s.linkEnd t node port
    ns.any (fun a => ns.any (fun b => (s.tableRoute t b 64 a).any (fun c =>
      let ports := [c.2 % 8] ++ (if bit c.2 6 then [bits c.2 3 3] else [])
      (c.1 = node && ports.contains port) || (some c.1 == far && ports.any (fun p => s.linkEnd t c.1 p == some node)))))
  else
    let extra := t.extra
    ns.any (fun a => ns.any (fun b => a ≠ b && (t.path extra a b).any (fun c => t.hopTakes c.1 c.2.1 node port)))

end Sys2Proof.Machine
end

