-- ==== Sys2Proof/Machine/Link.lean ====
section
/-! DEFINITION. Link: the Staol link port: training, frames, replay, credits, port registers and tests (02). -/

namespace Sys2Proof.Machine

/-- Enter a training state (Table 2-5): STATE, `STATE_CHG`, the entry time, and the event LINK_STATE (Table 17-14). -/
def State.enter (s : State) (p st : Nat) : State :=
  let s := (s.fill p).kmpEvent 0x8202 (leBytes 1 s.node ++ leBytes 1 p ++ leBytes 1 st ++ leBytes 1 (s.get (fLnkCause p))) none
  ((s.set (fLnkState p) st).event (aLnkEvt p) 1).onPort p (fun q => { q with since := s.now, alignDone := 0, skipDone := 0 })

/-- Show the number of held frames. -/
def State.showHeld (s : State) (p : Nat) : State := s.set (fHeld p) (s.port p).held.length

/-- Show one credit: AVAIL_v = CRED_ADV_v - ((SENT_v - CR_TOTAL_v) mod 256) (R77). -/
def State.showCredit (s : State) (p v : Nat) : State :=
  let q := s.port p
  s.set (fAvail p v) (s.get (fAdv p v) - (q.sent.getD v 0 + 256 - q.crTotal.getD v 0) % 256)

/-- A port's state with the replay buffer, SEQ state, credits and VC buffers discarded (R84, Table 2-5). The replay start times of
R73 go too, and a pending INJ_CRC stays for the first full frame after the next training (DESIGN CHOICE, log entry 30). -/
def Port.cleared (q : Port) : Port :=
  { q with held := [], freed := [], replay := none, replayTimes := [], expSeq := 0, nextSeq := 0, accSeq := 255, accV := false,
           nakPending := false, nakDue := false, reportDue := false, kRx := 0, kTx := 0, streamOn := false, building := none,
           sent := List.replicate 8 0, crTotal := List.replicate 8 0, freedTotal := List.replicate 8 0, got := List.replicate 8 0,
           crBefore := List.replicate 8 none,
           reported := List.replicate 8 0, reportNext := 0, vcBuf := List.replicate 8 [], pool := [], sending := List.replicate 8 {},
           readyRun := 0, readyTotal := 0, credSeen := 0, phase := 1, eqDone := false, peerEqDone := false,
           trainSeen := 0, polSeen := 0, alignRun := 0, laneIdSeen := false, clean0 := 0, clean1 := 0,
           reqOpen := false, answer := none, hopAt := [], hbIn := false }

/-- The boot table in route bank 0, while the ROM keeps it (R476): this chip, and the neighbours behind ACTIVE ports. -/
def State.bootTable (s : State) : State :=
  let stage := s.get ⟨0x26000400, 0, 3⟩
  if stage = 0 || stage = 7 then s
  else
    (List.range 64).foldl (fun s d =>
      let port := if d = s.node then some 7 else (List.range 6).find? (fun p => s.active p && s.get (fPeerNode p) = d)
      s.setReg (0x21009000 + 4 * d) (match port with | some p => BitVec.ofNat 32 (0x8030 + p) | none => 0x36#32)) s

/-- Clear the credit registers. -/
def State.noCredits (s : State) (p : Nat) : State :=
  (List.range 8).foldl (fun s v => (s.set (fAvail p v) 0).set (fAdv p v) 0) s

/-- A frame with its CRC; INJ_CRC inverts bit 0 (Table 2-14). -/
def Frame.sealed (f : Frame) (inj : Bool) : Frame := { f with crc := if inj then frameCrc f ^^^ 1#24 else frameCrc f }

/-- A flit that starts a HOP packet (Table 3-2): every HOP packet is one flit (R91). -/
def isHop (f : Flit) : Bool := f.extractLsb' 14 4 == 10#4

/-- The HOP flits of a frame's valid slots. -/
def hopFlits (f : Frame) : List Flit := ((List.range 4).filter (fun i => bit f.flitV i && decide (f.vcs.getD i 0 % 8 < 2))).filterMap
  (fun i => if isHop (f.slots.getD i 0#256) then some (f.slots.getD i 0#256) else none)

/-- The t1 of the open TIME_REQ is that of the frame that carries it, and of its last sending (R128). -/
def Port.stampReq (q : Port) (f : Frame) (ct : Nat) : Port :=
  if q.reqOpen && (hopFlits f).any (fun x => x.extractLsb' 128 8 == 2#8 && x.extractLsb' 136 8 == BitVec.ofNat 8 q.reqSeq) then
    { q with reqT1 := ct }
  else q

/-- The block period in which block `j` of a frame on its way out begins (Table 2-6). -/
def Building.blockAt (b : Building) (j : Nat) : Nat := b.start + (b.lane + j) / 2 * blockPeriod

/-- Block periods from entry to the present state to a time. -/
def State.periodsTo (s : State) (p t : Nat) : Nat := (t - (s.port p).since) / blockPeriod

/-- Lane-level pairs of ACTIVE that fall due by a time and have not been sent (R51). -/
def State.pairsDue (s : State) (p t : Nat) : Nat :=
  let q := s.port p
  let n := s.periodsTo p t
  (n / 16384 - q.alignDone) + (n / 4096 - q.skipDone)

/-- When the trailer of a frame on its way out begins: each lane-level pair that falls due before it delays it by a block period
(R50, R128). -/
def State.trailerAt (s : State) (p : Nat) (b : Building) : Nat :=
  let t0 := b.blockAt 17
  let next (t : Nat) : Nat := t0 + s.pairsDue p t * blockPeriod
  next (next (next t0))

/-- CT in whole ns at a time near the present. -/
def State.ctNsAt (s : State) (t : Nat) : Nat := (s.tim.ct + s.inc * (t - s.now) / 24 - s.inc * (s.now - t) / 24) / 4294967296

/-- The trailer of the frame on its way out leaves (R62, R69 to R71): the frame is sent, a new one is held, and the replay that it
ends is over. -/
def State.endFrame (s : State) (p : Nat) (b : Building) : State :=
  let f := b.f.sealed b.inj
  let s := (s.stream p [ctlBlock tyTrl (frameTrl f)]).emit (.frame p f)
  let q := (s.port p).stampReq f (s.ctNsAt (s.trailerAt p b))
  if b.again then
    let done := match q.replay with | some r => decide (q.held.length ≤ r) | none => false
    s.setPort p { q with building := none, replay := if done then none else q.replay, timerFrom := if done then s.now else q.timerFrom }
  else
    (s.setPort p { q with building := none, held := q.held ++ [b.f], nextSeq := (q.nextSeq + 1) % 256,
                          timerFrom := if q.held.isEmpty then s.now else q.timerFrom }).showHeld p

/-- A frame on its way out with its slots up to the last: a new one takes no further flit. -/
def Building.padded (b : Building) : Building :=
  let pad := 4 - b.f.slots.length
  { b with next := 4, f := { b.f with slots := b.f.slots ++ List.replicate pad 0#256, vcs := b.f.vcs ++ List.replicate pad 0 } }

/-- Frame transmission freezes (Table 2-5). A frame on its way out is sent to its end, since no NOTICE may stand inside it (R64); the
slots of a new one that have not started stay empty. A transmitter that can send no more holds a new frame as it stands, and an INJ_CRC
that the frame had taken stays pending for the next full frame (DEDUCED, log entry 30). -/
def State.freeze (s : State) (p : Nat) : State :=
  let q := s.port p
  match q.building with
  | none => s
  | some b =>
    let x := b.padded
    if s.canSend p then (s.stream p ((x.f.slots.drop b.next).flatMap slotBlocks)).endFrame p x
    else
      let q := { q with building := none, injCrc := q.injCrc || b.inj }
      if b.again then s.setPort p q
      else
        (s.setPort p { q with held := q.held ++ [x.f], nextSeq := (q.nextSeq + 1) % 256,
                              timerFrom := if q.held.isEmpty then s.now else q.timerFrom }).showHeld p

/-- Four NOTICE blocks, in any state in which the transmitter can still send (R56, R64). Outside ACTIVE they are striped as in it
(DESIGN CHOICE, log entry 30). -/
def State.notices (s : State) (p code : Nat) : State :=
  if s.canSend p then
    (((s.fill p).stream p (List.replicate 4 (ctlBlock tyNotice (noticeBody code)))).busy p 2).emit (.notice p code)
  else s

/-- The epoch is abandoned for this chip's cores of every plan whose routes used the link of a port that went DOWN (R112, R227). Of a
link between two other chips a chip learns nothing (DEDUCED, log entry 31). -/
def State.plansDown (s : State) (p : Nat) : State :=
  let t := s.topo s.loss.members
  (s.plans.filter (fun e => s.planUses t e.2.nodes s.node p)).foldl (fun s e =>
    ((List.range 8).filter (bit e.2.cores)).foldl (fun s c => s.seqAbandon c) s) s

/-- Entry to DOWN with a cause (R56, R84, R110). A swap of the route banks due at the same instant takes place first (R114). The report
of a port that was closed because it went SILENT says so (R580). -/
def State.linkDown (s : State) (p cause : Nat) : State :=
  let s := (s.swapDue.freeze p).notices p 2
  let cut := (s.port p).sending
  let s := ((s.set (fLnkCause p) cause).enter p 0).event (aLnkEvt p) 2
  let s := (((s.set (fPeerValid p) 0).set (fLock p 0) 0).set (fLock p 1) 0)
  let s := (s.onPort p Port.cleared).showHeld p
  let s := (s.noCredits p).routerDown p cut
  (s.bootTable.plansDown p).linkReport p (if (s.port p).silentAt.isSome then 2 else 1)


/-- The packets that name a port that left ACTIVE for RETRAIN take the other port of their pair when that is ACTIVE; the others wait
(R99, R110). A packet that has sent a flit keeps its VC. -/
def State.pairMoves (s : State) (p : Nat) : State :=
  let go (w : Waiting) : Option Nat := if w.pk.bcast || w.pk.kind = 10 then none else s.otherPort w.entry p
  let s := (s.fab.waiting.filter (fun w => w.out = p)).foldl (fun s w =>
    match go w with
    | some out => ({ s with fab := { s.fab with waiting := s.fab.waiting.erase w } }).reline w out
    | none => s) s
  (List.range 8).foldl (fun s v =>
    let x := (s.port p).sending.getD v {}
    match (if x.whole then go x.w else none) with
    | some out => (s.onPort p (fun q => { q with sending := q.sending.set v {} })).reline x.w out
    | none => s) s

/-- Entry to RETRAIN (Table 2-5, R59). `own` says that the cause is the port's own, which sends RETRAIN_REQ first (R56).
Frame transmission freezes; replay buffer, a replay in progress, SEQ state and credits stay (R71). -/
def State.linkRetrain (s : State) (p : Nat) (own : Bool) : State :=
  if s.active p then
    let s := s.freeze p
    let s := if own then s.notices p 1 else s
    let s := (s.enter p 5).bump (lnkBase p + 0x18)
    let s := s.onPort p (fun q => { q with phase := 2, alignRun := 0, readyRun := 0, readyTotal := 0, credSeen := 0, streamOn := false })
    s.bootTable.pairMoves p
  else s

/-- A replay starts (R70, R73): counted once; the fifth within 10 ms takes the port to DOWN with cause 7. -/
def State.replayStart (s : State) (p : Nat) : State :=
  let times := (s.now :: (s.port p).replayTimes).take 5
  let s := ((s.bump (lnkBase p + 0x14)).event (aLnkEvt p) 4).onPort p (fun q => { q with replayTimes := times, replay := some 0 })
  if times.length = 5 && decide (s.now - times.getD 4 0 < 10 * ms) then (s.safety 0x0F p).linkDown p 7 else s

/-- A lone chip that has found a neighbour is one no longer: it takes part in forming the constellation (R60, R3). -/
def State.notLone (s : State) : State :=
  if s.loss.lone then { s with loss := { s.loss with lone := false, pole := none } } else s

/-- Firmware finds a neighbour with this chip's own node ID: it clears the port's EN and logs the conflict (Table 27-12). -/
def State.dupCheck (s : State) (p : Nat) : State :=
  if s.get ⟨0x26000400, 0, 3⟩ = 7 && s.get (fPeerValid p) = 1 && s.get (fPeerNode p) = s.node then
    let s := (s.set (fLnkEn p) 0).linkDown p 1
    { s with loss := { s.loss with dup := true } }
  else s

/-- A port has become ACTIVE: packets that wait at other ports in RETRAIN take it where it is the other one of their pair (R99, R110). -/
def State.retrainMoves (s : State) : State :=
  (List.range 6).foldl (fun s n => if s.retraining n then s.pairMoves n else s) s

/-- Entry to ACTIVE from phase READY: from EQUALIZE with fresh SEQ state and credits, from RETRAIN with a replay of what
is held (Table 2-5, R70, R83), whether or not one is in progress. -/
def State.linkActive (s : State) (p : Nat) : State :=
  let q := s.port p
  let fresh (q : Port) : Port := { q with kRx := 0, kTx := 0, streamOn := false, activeSince := s.now, missMs := s.ctMs }
  if s.get (fLnkState p) = 5 then
    let t := if q.held.isEmpty then s.onPort p (fun q => { q with replay := none }) else s.replayStart p
    if t.get (fLnkState p) = 5 then ((t.enter p 4).onPort p fresh).bootTable.notLone.retrainMoves else t
  else
    let s := (s.enter p 4).onPort p (fun q =>
      fresh { q with expSeq := 0, nextSeq := 0, accSeq := 255, accV := false, held := [], freed := [], replay := none, building := none,
                     sent := List.replicate 8 0, crTotal := List.replicate 8 0, freedTotal := List.replicate 8 0, got := List.replicate 8 0,
                     crBefore := List.replicate 8 none,
                     reported := List.replicate 8 0, reportNext := 0, nakPending := false, nakDue := false, reportDue := false,
                     timerFrom := s.now })
    let s := ((s.set (fPeerNode p) q.peerNode).set (fPeerPort p) q.peerPort).set (fPeerValid p) 1
    ((List.range 8).foldl (fun s v => (s.set (fAdv p v) (q.adv.getD v 0)).set (fAvail p v) (q.adv.getD v 0)) s).bootTable.notLone.retrainMoves.dupCheck p

/-- The port is in phase READY of EQUALIZE or of RETRAIN. -/
def State.inReady (s : State) (p : Nat) : Bool :=
  (s.get (fLnkState p) = 3 || s.get (fLnkState p) = 5) && (s.port p).phase = 4

/-- The exit of phase READY (Table 2-5): every CRED_ADV, 8 consecutive READY blocks, 16 READY blocks sent. The table does not say
whether it counts per lane: the blocks of both lanes count in one run, and 16 block periods in the phase count as 16 sent (DESIGN
CHOICE, log entry 30). -/
def State.tryActive (s : State) (p : Nat) : State :=
  let q := s.port p
  if s.inReady p && q.credSeen = 255 && decide (8 ≤ q.readyRun) && decide (q.readySince + 16 * blockPeriod ≤ s.now) then s.linkActive p
  else s

/-- The exit of DETECT: both lanes locked, a TRAIN block received on both (Table 2-5). -/
def State.tryAlign (s : State) (p : Nat) : State :=
  if s.get (fLnkState p) = 1 && s.get (fLock p 0) = 1 && s.get (fLock p 1) = 1 && (s.port p).trainSeen = 3 then
    (s.enter p 2).onPort p (fun q => { q with phase := 2, alignRun := 0, laneIdSeen := false, polSeen := 0 })
  else s

/-- The exit of ALIGN to EQUALIZE, and of RETRAIN's alignment to its READY exchange (Table 2-5, R59). -/
def State.tryAligned (s : State) (p : Nat) : State :=
  let q := s.port p
  if s.get (fLnkState p) = 2 && q.polSeen = 3 && q.laneIdSeen && decide (8 ≤ q.alignRun) then
    (s.enter p 3).onPort p (fun q => { q with phase := 3, eqDone := false, peerEqDone := false, clean0 := 0, clean1 := 0 })
  else if s.get (fLnkState p) = 5 && q.phase = 2 && s.get (fLock p 0) = 1 && s.get (fLock p 1) = 1 && decide (8 ≤ q.alignRun) then
    (s.fill p).onPort p (fun q => { q with phase := 4, readySince := s.now, readyRun := 0, readyTotal := 0, credSeen := 0 })
  else s

/-- Blocks per lane without a block error that end EQUALIZE (Table 2-5). -/
def cleanBlocks : Nat := 1048576

/-- A TRAIN block in EQUALIZE before READY: the partner's EQ_DONE and preset request, and the clean blocks. -/
def State.trainEqualize (s : State) (p l : Nat) (b : Nat) : State :=
  let q := s.port p
  let both := q.eqDone && q.peerEqDone
  let q := { q with peerEqDone := bit b 14,
                    clean0 := if both then (if l = 0 then q.clean0 + 1 else q.clean0) else 0,
                    clean1 := if both then (if l = 1 then q.clean1 + 1 else q.clean1) else 0 }
  let s := ((s.setPort p q).fill p).set (fPreset p) (bits b 15 3)
  if decide (cleanBlocks ≤ q.clean0) && decide (cleanBlocks ≤ q.clean1) then
    s.onPort p (fun q => { q with phase := 4, readySince := s.now, readyRun := 0, readyTotal := 0, credSeen := 0 })
  else s

/-- A TRAIN block in phase READY: READY blocks and the credits they advertise. A CRED_ADV of 0, which Table 2-4 does not allow, is
taken as no value received (DESIGN CHOICE, log entry 30). -/
def State.trainReady (s : State) (p : Nat) (b : Nat) : State :=
  if b % 16 = 4 then
    let v := bits b 21 3
    let a := bits b 24 7
    (s.onPort p (fun q =>
      { q with readyRun := q.readyRun + 1, readyTotal := q.readyTotal + 1,
               credSeen := if a = 0 then q.credSeen else q.credSeen ||| 2 ^ v,
               adv := if a = 0 then q.adv else q.adv.set v a })).tryActive p
  else s.onPort p (fun q => { q with readyRun := 0 })

/-- A TRAIN block (R52, R55, R58, Table 2-5). `inv` says that it arrived as its bitwise complement. -/
def execTrainBlock (p : Fin 6) (l : Fin 2) (inv : Bool) (body : Body) (s : State) : Out := s.run (fun s =>
  let b := body.toNat
  let st := s.get (fLnkState p)
  let known (s : State) : State := s.onPort p (fun q => { q with peerPort := bits b 5 3, peerNode := bits b 8 6 })
  let payload := (ctlBlock tyTrain body).payload
  let s := s.onPort p (fun q => q.hear l (if b2n inv = s.get (fLanePol p l) then payload else ~~~ payload))
  .next (
    if st = 1 then
      ((known s).onPort p (fun q => { q with trainSeen := q.trainSeen ||| 2 ^ l.val })).tryAlign p
    else if st = 2 then
      let s := known s
      if bit (s.port p).polSeen l then s
      else
        let s := ((s.set (fPolInv p l) (b2n inv)).set (fLanePol p l) (b2n inv))
        (s.onPort p (fun q => { q with polSeen := q.polSeen ||| 2 ^ l.val })).tryAligned p
    else if st = 3 then
      if (s.port p).phase = 4 then (known s).trainReady p b else (known s).trainEqualize p l b
    else if st = 4 then
      if b % 16 = 4 && !(s.port p).streamOn then s else s.linkRetrain p true
    else if st = 5 then
      if decide (s.get (fPeerNode p) ≠ bits b 8 6) || decide (s.get (fPeerPort p) ≠ bits b 5 3) then s.linkDown p 10
      else if b % 16 = 4 && decide (bits b 24 7 ≠ 0) && decide (s.get (fAdv p (bits b 21 3)) ≠ bits b 24 7) then s.linkDown p 10
      else if (s.port p).phase = 4 then s.trainReady p b
      else s
    else s))

/-- The dwell of DOWN ends (Table 2-5): with EN = 1 and no test the port enters DETECT with its lanes, scramblers and elastic
buffers reset. -/
def execLinkDownDwellEnd (p : Fin 6) (s : State) : Out := s.run (fun s =>
  .next (
    if s.get (fLnkState p) = 0 && s.get (fLnkEn p) = 1 && s.get (fLnkTest p) = 0 && decide ((s.port p).since + ms ≤ s.now) then
      let s := (((s.set (fReversed p) 0).set (fPolInv p 0) 0).set (fPolInv p 1) 0)
      let s := (((s.set (fLanePol p 0) 0).set (fLanePol p 1) 0).set (fLock p 0) 0).set (fLock p 1) 0
      (s.enter p 1).onPort p (fun q => { q.cleared with elastic := 0, lane0 := {}, lane1 := {}, laneAt := s.now, trainSent := 0 })
    else s))

/-- A timeout of a training state: it counts from entry, and an exit condition that holds wins (R56). -/
def State.timeout (s : State) (p st limit cause : Nat) : State :=
  if s.get (fLnkState p) = st && decide ((s.port p).since + limit ≤ s.now) then
    let t := s.tryActive p
    if t.get (fLnkState p) = st then t.linkDown p cause else t
  else s

/-- DETECT lasts at most 20 ms (Table 2-5). -/
def execDetectTimeout (p : Fin 6) (s : State) : Out := s.run (fun s => .next (s.timeout p 1 (20 * ms) 3))

/-- ALIGN lasts at most 2 ms (Table 2-5). -/
def execAlignTimeout (p : Fin 6) (s : State) : Out := s.run (fun s => .next (s.timeout p 2 (2 * ms) 4))

/-- EQUALIZE and READY last at most 50 ms (Table 2-5). -/
def execEqualizeTimeout (p : Fin 6) (s : State) : Out := s.run (fun s => .next (s.timeout p 3 (50 * ms) 5))

/-- RETRAIN lasts at most 500 us (Table 2-5). -/
def execRetrainTimeout (p : Fin 6) (s : State) : Out := s.run (fun s => .next (s.timeout p 5 (500 * us) 6))

/-- A lane locks after 64 valid sync headers (R57). -/
def execBlockLock (p : Fin 6) (l : Fin 2) (s : State) : Out := s.run (fun s =>
  .next (if s.get (fLnkTest p) = 0 then ((s.set (fLock p l) 1).tryAlign p).tryAligned p else s))

/-- A block error on a lane: the runs of blocks without one begin anew (R48, Table 2-5). -/
def State.blockError (s : State) (p l : Nat) : State :=
  s.onPort p (fun q => { q with clean0 := if l = 0 then 0 else q.clean0, clean1 := if l = 1 then 0 else q.clean1, readyRun := 0 })

/-- Invalid sync headers on a lane; 16 within 64 blocks in ACTIVE lose its lock (R57). Each is a block error, so that the runs of
blocks without one begin anew (R48, Table 2-5). -/
def execLossOfLock (p : Fin 6) (l : Fin 2) (bad : Nat) (s : State) : Out := s.run (fun s =>
  .next (
    if s.get (fLnkTest p) = 0 then
      let s := s.set (fInvalid p l) (min 0xFFFF (s.get (fInvalid p l) + bad))
      let s := if bad = 0 then s else s.blockError p l
      if s.active p && decide (16 ≤ bad) then (s.set (fLock p l) 0).linkRetrain p true else s
    else s))

/-- An ALIGN pair (R53, R54): the bodies received on physical lanes 0 and 1 and their skew in block periods. -/
def execAlignPair (p : Fin 6) (b0 b1 : Body) (skew : Nat) (s : State) : Out := s.run (fun s =>
  let i0 := b0.toNat % 2
  let i1 := b1.toNat % 2
  let m0 := bits b0.toNat 10 8
  let m1 := bits b1.toNat 10 8
  let hit := decide (m0 = m1) && decide (skew ≤ 4)
  let st := s.get (fLnkState p)
  let s := s.onPort p (fun q => (q.hear 0 (ctlBlock tyAlign b0).payload).hear 1 (ctlBlock tyAlign b1).payload)
  .next (
    if st = 2 || st = 5 || st = 4 then
      if i0 = i1 then s.linkDown p 9
      else if st = 4 then (if hit then s.onPort p (fun q => { q with marker := m0 }) else s.linkRetrain p true)
      else
        let s := if st = 2 then s.set (fReversed p) i0 else s
        (s.onPort p (fun q => { q with laneIdSeen := true, marker := m0, alignRun := if hit then q.alignRun + 1 else 0 })).tryAligned p
    else s))

/-- A SKIP pair is deleted or repeated to bring both elastic buffers back towards their centre (R51). `fill` is their fill
against it when the pair arrives. -/
def execSkipPair (p : Fin 6) (fill : Int) (s : State) : Out := s.run (fun s =>
  let f := max (-4) (min 4 fill)
  let skip := (ctlBlock tySkip 0#56).payload
  .next (
    if s.active p then
      s.onPort p (fun q => { (q.hear 0 skip).hear 1 skip with elastic := if 0 < f then f - 1 else if f < 0 then f + 1 else 0 })
    else s))

/-- Block periods since entry to the present state. -/
def State.periods (s : State) (p : Nat) : Nat := (s.now - (s.port p).since) / blockPeriod

/-- An ALIGN pair leaves (R51, R55). -/
def State.sendAlign (s : State) (p : Nat) : State :=
  ((s.lanePair p (ctlBlock tyAlign (s.alignBody p 0)) (ctlBlock tyAlign (s.alignBody p 1))).emit
    (.lanePair p 0x2D ((s.port p).alignSent % 256))).onPort p (fun q => { q with alignSent := q.alignSent + 1, alignDone := q.alignDone + 1 })

/-- The lane-level pair of ACTIVE that is due by a time leaves: ALIGN every 16,384 and SKIP every 4,096 block periods, ALIGN first
(R51). -/
def State.sendPair (s : State) (p t : Nat) : State :=
  let q := s.port p
  let n := s.periodsTo p t
  if q.alignDone < n / 16384 then s.sendAlign p
  else if q.skipDone < n / 4096 then
    ((s.lanePair p (ctlBlock tySkip 0#56) (ctlBlock tySkip 0#56)).emit (.lanePair p 0x33 0)).onPort p (fun q => { q with skipDone := q.skipDone + 1 })
  else s

/-- A lane-level pair falls due in ACTIVE (R51), or an ALIGN pair after every 64 TRAIN blocks in ALIGN and in RETRAIN, its READY
exchange included (R55). -/
def execLaneLevelPairDue (p : Fin 6) (s : State) : Out := s.run (fun s =>
  let st := s.get (fLnkState p)
  .next (
    if s.linkOff then s
    else if st = 4 then s.sendPair p s.now
    else if (st = 2 || st = 5) && decide ((s.port p).alignDone < s.periods p / 65) then s.sendAlign p
    else s))

/-- R58: in phase READY with every CRED_ADV and 8 READY blocks received, a port-stream block takes the port to ACTIVE; before that it
ends the run of consecutive READY blocks (Table 2-5). -/
def State.streamBlock (s : State) (p : Nat) : State :=
  let q := s.port p
  if s.inReady p then
    if q.credSeen = 255 && decide (8 ≤ q.readyTotal) then s.linkActive p else s.onPort p (fun q => { q with readyRun := 0 })
  else s

/-- Port-stream blocks with these payloads were received (R46, R49, R58). -/
def State.gotBlocks (s : State) (p : Nat) (ps : List (BitVec 64)) : State :=
  s.onPort p (fun q => { q.hearStream ps with streamOn := true })

/-- An IDLE block (R58). -/
def execIdle (p : Fin 6) (s : State) : Out := s.run (fun s =>
  let t := s.streamBlock p
  .next (if t.active p then t.gotBlocks p [(ctlBlock tyIdle 0#56).payload] else t))

/-- A NOTICE block (R64, Table 2-5); reserved codes do nothing. -/
def execNotice (p : Fin 6) (code : Nat) (s : State) : Out := s.run (fun s =>
  let t := s.streamBlock p
  .next (
    if t.active p then
      let t := t.gotBlocks p [(ctlBlock tyNotice (noticeBody code)).payload]
      if code = 1 then t.linkRetrain p false else if code = 2 then t.linkDown p 8 else t
    else t))

/-- The place of a SEQ among the held frames. -/
def heldAt (q : Port) (a : Nat) : Option Nat := q.held.findIdx? (fun f => f.seq = a)

/-- Free the held frames up to place `i`; the timer restarts (R69, R71). -/
def Port.free (q : Port) (i now : Nat) : Port :=
  { q with held := q.held.drop (i + 1), freed := (((q.held.take (i + 1)).map Frame.seq).reverse ++ q.freed).take 64,
           timerFrom := now, replay := if q.held.length ≤ i + 1 then none else q.replay.map (fun r => r - (i + 1)) }

/-- A protocol error of R72 or R79. -/
def State.protoErr (s : State) (p : Nat) : State := (s.event (aLnkEvt p) 0x10).linkRetrain p true

/-- The credit report of a header (R77, R79). -/
def State.takeCredit (s : State) (p : Nat) (f : Frame) : State :=
  let v := f.crVc % 8
  if decide (s.get (fAdv p v) < ((s.port p).sent.getD v 0 + 256 - f.crTotal % 256) % 256) then s.protoErr p
  else
    (s.onPort p (fun q =>
      let before := match q.crBefore.getD v none with
        | some (t, old) => if t = s.now then (t, old) else (s.now, q.crTotal.getD v 0)
        | none => (s.now, q.crTotal.getD v 0)
      { q with crTotal := q.crTotal.set v (f.crTotal % 256), crBefore := q.crBefore.set v (some before) })).showCredit p v

/-- The place of the frame being resent, or of the next one to be resent, among the held frames (R83). -/
def Port.resending (q : Port) (r : Nat) : Nat :=
  match q.building with
  | some b => if b.again then r - 1 else r
  | none => r

/-- The ACK and the NAK of a header (R67, R70, R72, R83). A NAK names ACK + 1, or SEQ 0 with ACK_V = 0; a SEQ that is neither held nor
among the last 64 freed is a protocol error. -/
def State.takeAck (s : State) (p : Nat) (f : Frame) : State :=
  let q := s.port p
  let next := if f.ackV then (f.ack + 1) % 256 else 0
  if f.ackV && (heldAt q f.ack).isNone && !(q.freed.contains f.ack) then s.protoErr p
  else
    let s := match (if f.ackV then heldAt q f.ack else none) with
      | some i => (s.setPort p (q.free i s.now)).showHeld p
      | none => s
    let q := s.port p
    if f.nak then
      match heldAt q next with
      | none => if q.freed.contains next then s else s.protoErr p
      | some i =>
        match q.replay with
        | none => s.replayStart p
        | some r => if i < q.resending r then s.replayStart p else s
    else s

/-- The header of a frame whose check is good: ACK, NAK and the credit report (R67). -/
def State.takeHeader (s : State) (p : Nat) (f : Frame) : State :=
  let s := s.takeAck p f
  if s.active p then s.takeCredit p f else s

/-- The CRC of a frame matches (R63). -/
def crcGood (f : Frame) : Bool := decide (f.crc = frameCrc f)

/-- The check of a frame: no block in error and a matching CRC (R65, R66). -/
def frameGood (f : Frame) : Bool := !f.blockErr && crcGood f

/-- A flit enters its VC buffer (R65), which holds `bufferOf` flits (R76). Credits keep the partner within it; one that finds no room
is lost (DESIGN CHOICE, log entry 30). -/
def Port.takeFlit (q : Port) (v : Nat) (x : Flit) : Port :=
  if (q.got.getD v 0 + 256 - q.freedTotal.getD v 0) % 256 < bufferOf v then
    { q with vcBuf := q.vcBuf.modify v (fun fs => fs ++ [x]), got := q.got.set v ((q.got.getD v 0 + 1) % 256) }
  else q

/-- Hand the valid flits of an accepted frame to their VC buffers, in slot order (R65); HOP flits are timestamped (R128). A NAK not
yet sent is still reported, since R68 reports each NAK (DEDUCED, log entry 30). -/
def Port.accept (q : Port) (f : Frame) (ct : Nat) : Port :=
  let q := (List.range 4).foldl (fun (q : Port) i => if bit f.flitV i then q.takeFlit (f.vcs.getD i 0 % 8) (f.slots.getD i 0#256) else q) q
  { q with expSeq := (f.seq + 1) % 256, accSeq := f.seq % 256, accV := true, nakPending := false,
           reportDue := true, hopAt := q.hopAt ++ (hopFlits f).map (fun _ => ct) }

/-- Flits that the last packet of a receive buffer still lacks (R88). -/
def flitsLacking (fs : List Flit) : Nat := fs.foldl (fun n x => if n = 0 then (flitsPacket [x]).len - 1 else n - 1) 0

/-- The headers among the flits of an accepted frame arrive (R439). -/
def State.poolHeads (s : State) (p : Nat) (f : Frame) : State :=
  ((List.range 4).foldl (fun (x : State × Port) i =>
    let v := f.vcs.getD i 0 % 8
    let flit := f.slots.getD i 0#256
    if bit f.flitV i then (if flitsLacking (x.2.vcBuf.getD v []) = 0 then x.1.poolHead p v flit else x.1, x.2.takeFlit v flit) else x)
    (s, s.port p)).1

/-- A full frame in ACTIVE: accepted, a duplicate, or discarded with a NAK (R65, R66). The header of a frame whose CRC is good counts
even when the frame does not (R67). -/
def State.takeFull (s : State) (p : Nat) (f : Frame) : State :=
  let q := s.port p
  let s :=
    if frameGood f && bit f.flitV 0 && decide (f.seq = q.expSeq) then (s.poolHeads p f).onPort p (fun q => q.accept f s.ctNs)
    else
      let s := s.event (aLnkEvt p) 8
      let behind := (q.expSeq + 256 - f.seq % 256) % 256
      if crcGood f && decide (1 ≤ behind) && decide (behind ≤ 64) then s
      else
        let s := if frameGood f then s else (s.bump (lnkBase p + 0x10)).safety 0x0F p
        s.onPort p (fun q => if q.nakPending then q else { q with nakPending := true, nakDue := true })
  if crcGood f then s.takeHeader p f else s

/-- Blocks of a frame before the port stream: an erroneous one ends the runs of its lane (R48), a FRAME_HDR may begin the stream
(R58). -/
def State.frameBegins (s : State) (p : Nat) (f : Frame) : State :=
  if s.active p then s
  else
    let s := if f.blockErr then s.blockError p f.lane else s
    if f.headless then s else s.streamBlock p

/-- A full link frame (R58, R65 to R67). -/
def execFullFrame (p : Fin 6) (f : Frame) (s : State) : Out := s.run (fun s =>
  let f := (s.port p).unscrambled (s.active p) f
  let ps := f.payloads
  let h := f.headless
  let f := f.read false
  let t := s.frameBegins p { f with blocks := if h then [(0#2, 0#64)] else [] }
  .next (if t.active p then (t.gotBlocks p ps).takeFull p f else t))

/-- A short link frame (R58, R66, R67). A lone block that is no FRAME_HDR is no frame: a block of an unknown type outside a frame. -/
def execShortFrame (p : Fin 6) (f : Frame) (s : State) : Out := s.run (fun s =>
  let f := (s.port p).unscrambled (s.active p) f
  let ps := f.payloads
  let h := f.headless
  let lone := h && f.blocks.length = 1
  let f := f.read true
  let t := s.frameBegins p { f with blocks := if h then [(0#2, 0#64)] else [] }
  .next (
    if t.active p then
      let t := t.gotBlocks p ps
      if lone then t else if frameGood f then t.takeHeader p f else (t.bump (lnkBase p + 0x10)).safety 0x0F p
    else t))

/-- The VC of the next credit report (R78). -/
def Port.reportVc (q : Port) : Nat :=
  let changed (v : Nat) : Bool := decide (q.freedTotal.getD v 0 ≠ q.reported.getD v 0)
  if changed 0 then 0 else if changed 1 then 1 else q.reportNext % 8

/-- A frame with the header fields formed anew (R69, R78). -/
def Port.header (q : Port) (f : Frame) : Frame :=
  let v := q.reportVc
  { f with ack := q.accSeq, ackV := q.accV, nak := q.nakDue, crVc := v, crTotal := q.freedTotal.getD v 0 }

/-- The port after it has sent a header: what R68 reports is reported. A report of VC 0 or 1 out of turn leaves the round-robin of R78
where it stands, which the spec does not say (DESIGN CHOICE, log entry 30). -/
def Port.headerSent (q : Port) : Port :=
  let v := q.reportVc
  { q with nakDue := false, reportDue := false, reported := q.reported.set v (q.freedTotal.getD v 0),
           reportNext := if v = q.reportNext % 8 then (v + 1) % 8 else q.reportNext }

/-- Something waits to be reported in a header (R68). -/
def Port.hasReport (q : Port) : Bool := q.nakDue || q.reportDue || decide (q.freedTotal ≠ q.reported)

/-- A short frame is sent when a report waits and no frame is in progress (R68, Table 2-7). -/
def execShortFrameSend (p : Fin 6) (s : State) : Out := s.run (fun s =>
  let q := s.port p
  .next (
    if s.active p && !s.linkOff && q.hasReport && q.building.isNone then
      let f := (q.header { seq := q.nextSeq, short := true }).sealed false
      ((((s.fill p).stream p (frameBlocks f)).busy p 1).emit (.frame p f)).onPort p Port.headerSent
    else s))

/-- The credit that a binding at this instant sees (R77): that from before a report of the same cycle (R83). -/
def State.availNow (s : State) (p v : Nat) : Nat :=
  let q := s.port p
  let total := match q.crBefore.getD v none with
    | some (t, old) => if t = s.now then old else q.crTotal.getD v 0
    | none => q.crTotal.getD v 0
  s.get (fAdv p v) - (q.sent.getD v 0 + 256 - total) % 256

/-- The packet that goes next on a VC of an output, with its flits, and whether it still waits for the VC (R104): the one that holds
the VC, else the oldest that waits. A TC0 flit holds no VC before it is sent, so that an older one goes first. -/
def State.front (s : State) (p v : Nat) : Option (Sending × Bool) :=
  let x := (s.port p).sending.getD v {}
  let first := (oldest (s.fab.waiting.filter (fun w => w.out = p && w.vc = v))).map (fun w => (({ w := w, flits := packetFlits w.pk } : Sending), true))
  if x.flits.isEmpty then first
  else
    match first with
    | some y => if decide (v < 2) && y.1.w.pk.before x.w.pk then some y else some (x, false)
    | none => some (x, false)

/-- A VC with a flit ready and a credit (R77). -/
def State.eligible (s : State) (p v : Nat) : Bool := (s.front p v).isSome && decide (1 ≤ s.availNow p v)

/-- Of two VCs, the one whose packet goes first: the older STAMP, the lower SRC, the first named (R104). -/
def State.pickVc (s : State) (p a b : Nat) : Option Nat :=
  let pk (v : Nat) : Packet := ((s.front p v).map (fun x => x.1.w.pk)).getD {}
  if s.eligible p a then
    if s.eligible p b && (pk b).before (pk a) then some b else some a
  else if s.eligible p b then some b else none

/-- The cycle of seven slots: TC3, TC1, TC3, TC2, TC3, TC1, TC3 (R104). -/
def slotOwner (i : Nat) : Nat := [3, 1, 3, 2, 3, 1, 3].getD (i % 7) 3

/-- The classes in the cyclic order TC3, TC1, TC2 from the slot's owner (R104). -/
def classOrder (c : Nat) : List Nat := if c = 3 then [3, 1, 2] else if c = 1 then [1, 2, 3] else [2, 3, 1]

/-- The VC whose flit takes the next slot, if any flit is eligible (R80, R104). -/
def State.chooseVc (s : State) (p : Nat) : Option Nat :=
  match s.pickVc p 0 1 with
  | some v => some v
  | none => (classOrder (slotOwner (s.port p).slotPos)).findSome? (fun c => s.pickVc p (2 * c) (2 * c + 1))

/-- A flit of a packet is bound: the VC keeps the rest, and the flit has left its input buffer (R78, R84, R104). -/
def State.flitBound (s : State) (p v : Nat) (x : Sending) (waits : Bool) : State :=
  let s := if waits then { s with fab := { s.fab with waiting := s.fab.waiting.erase x.w } } else s
  let s := if waits && decide (v < 2) then s else s.onPort p (fun q => { q with sending := q.sending.set v { x with flits := x.flits.drop 1 } })
  let s := (s.markBegun x.w).leftFlits x.w 1
  (s.onPort p (fun q => { q with sent := q.sent.set v ((q.sent.getD v 0 + 1) % 256) })).showCredit p v

/-- The t3 - t2 of a TIME_RSP is that of its first sending (R128, Table 4-2). -/
def stampRsp (ct : Nat) (x : Flit) : Flit :=
  if isHop x && x.extractLsb' 128 8 == 3#8 then
    (BitVec.ofNat 32 (ct - (x.extractLsb' 160 64).toNat)) ++ x.extractLsb' 0 224
  else x

/-- The next slot of the frame on its way out starts (R62, R77, R80, R104): a new frame binds it to a flit, or leaves it empty; its
blocks leave. -/
def State.bindSlot (s : State) (p : Nat) (b : Building) : State :=
  let i := b.next
  if b.again then
    (s.onPort p (fun q => { q with building := some { b with next := i + 1 } })).stream p (slotBlocks (b.f.slots.getD i 0#256))
  else
    let skip (s : State) : State := s.onPort p (fun q => { q with slotPos := (q.slotPos + 1) % 7 })
    let out (s : State) (x : Flit) (v : Nat) (has : Bool) : State :=
      (s.onPort p (fun q => { q with building := some { b with
        next := i + 1, f := { b.f with slots := b.f.slots ++ [x], vcs := b.f.vcs ++ [v], flitV := b.f.flitV + if has then 2 ^ i else 0 } } })).stream p (slotBlocks x)
    match s.chooseVc p with
    | none => out (skip s) 0#256 0 false
    | some v =>
      match s.front p v with
      | none => out (skip s) 0#256 0 false
      | some (x, waits) =>
        let t := s.flitBound p v x waits
        out (if v < 2 then t else skip t) (stampRsp (s.ctNsAt (s.trailerAt p b)) (x.flits.headD 0#256)) v true

/-- The slots and the trailer of the frame on its way out, and the lane-level pairs that fall due before them, as their times come. -/
def State.frameTick (s : State) (p : Nat) : State :=
  let step (s : State) : State :=
    match (s.port p).building with
    | none => s
    | some b =>
      let next := b.blockAt (if b.next < 4 then 1 + 4 * b.next else 17)
      if 0 < s.pairsDue p (min s.now next) then s.sendPair p (min s.now next)
      else if next ≤ s.now then (if b.next < 4 then s.bindSlot p b else s.endFrame p b)
      else s
  (List.range 8).foldl (fun s _ => step s) s

/-- A full frame starts (R62): its header leaves, and slot 0 is bound. -/
def State.startFrame (s : State) (p : Nat) (f : Frame) (again : Bool) : State :=
  let s := s.fill p
  let q := s.port p
  let f := q.header f
  let b : Building := { f := f, start := max q.laneAt s.now, lane := q.kTx % 2, again := again, inj := q.injCrc }
  let s := ((s.stream p [ctlBlock tyHdr (frameHdr f)]).busy p 9).onPort p (fun q => { q.headerSent with injCrc := false, building := some b })
  s.bindSlot p b

/-- A full frame starts: the next frame of a replay, or a new one once a flit is ready for slot 0 and the replay buffer
has room (R62, R69 to R71). Its other slots are bound as they start (`State.frameTick`). -/
def execFrameSend (p : Fin 6) (s : State) : Out := s.run (fun s =>
  let q := s.port p
  .next (
    if s.active p && !s.linkOff && q.building.isNone then
      match q.replay with
      | some r =>
        match q.held[r]? with
        | none => s.setPort p { q with replay := none, timerFrom := s.now }
        | some f => (s.setPort p { q with replay := some (r + 1) }).startFrame p f true
      | none =>
        if decide (q.held.length < 64) && (s.chooseVc p).isSome then s.startFrame p { seq := q.nextSeq } false else s
    else s))

/-- The replay timer expires 1.0 us after its last restart while frames are held and no replay is in progress (R70, R71). -/
def execReplayTimerExpiry (p : Fin 6) (s : State) : Out := s.run (fun s =>
  let q := s.port p
  .next (
    if (s.active p || s.retraining p) && !q.held.isEmpty && q.replay.isNone && decide (q.timerFrom + us ≤ s.now) then s.replayStart p
    else s))

/-- Clear both PRBS checkers of a port (R82). -/
def State.clearPrbs (s : State) (p : Nat) : State :=
  let s := s.onPort p (fun q => { q with lane0 := { q.lane0 with check := {} }, lane1 := { q.lane1 with check := {} } })
  (List.range 2).foldl (fun s l => ((s.set (fPrbsSync p l) 0).set (fPrbsInv p l) 0).setReg (aPrbsErr p l) 0#32) s

/-- What a port under test sends (R82): PRBS31 on both lanes, or electrical idle while the serialisers are looped back. -/
def State.testSends (s : State) (p test : Nat) : State :=
  if test = 1 then (s.emit (.prbs p 0 (s.port p).lane0.prbs)).emit (.prbs p 1 (s.port p).lane1.prbs)
  else if test = 2 then s.emit (.quiet p)
  else s

/-- Show a lane's checker (R82). -/
def State.showChecker (s : State) (p l : Nat) (old new : Checker) : State :=
  let s := s.bumpBy (aPrbsErr p l) (new.errs - old.errs)
  (s.set (fPrbsSync p l) (b2n new.sync)).set (fPrbsInv p l) (b2n new.inv)

/-- `n` bit times of near-end loopback: each lane's generator at its own checker (R82). -/
def State.loopTick (s : State) (p n : Nat) : State :=
  if s.get (fLnkTest p) = 2 then
    let q := s.port p
    let r0 := loopBits n q.lane0.prbs q.lane0.check
    let r1 := loopBits n q.lane1.prbs q.lane1.check
    ((s.setPort p { q with lane0 := { q.lane0 with prbs := r0.1, check := r0.2 }, lane1 := { q.lane1 with prbs := r1.1, check := r1.2 } }).showChecker
      p 0 q.lane0.check r0.2).showChecker p 1 q.lane1.check r1.2
  else s

/-- What a cycle of the control clock, 24 bit times, brings a port: slots and trailers of a frame, and the loopback test. -/
def State.portTick (s : State) (p : Nat) : State := (s.frameTick p).loopTick p 24

/-- The round-trip history of the time servo goes and its parent is chosen anew (R129, R147). -/
def State.newParent (s : State) : State := { s with tim := { s.tim with rts := [], choiceMs := none } }

/-- Link-port reset (R85). -/
def State.linkReset (s : State) (p : Nat) : State :=
  let s := if s.get (fLnkState p) = 0 then (s.set (fLnkCause p) 2).onPort p (fun q => { q.cleared with since := s.now })
           else s.linkDown p 2
  let s := if s.get (fLnkTest p) = 0 then s else s.set (fLnkCause p) 11
  let s := ((s.noCredits p).showHeld p).setReg (aLnkEvt p) 0#32
  let s := (s.setReg (lnkBase p + 8) 0#32).setReg (lnkBase p + 0x10) 0#32
  let s := (s.setReg (lnkBase p + 0x14) 0#32).setReg (lnkBase p + 0x18) 0#32
  let s := if s.get ⟨0x23000020, 2, 3⟩ = p then s.newParent else s
  let s := s.resetRegs (0x23001200 + 0x10 * p) (0x23001210 + 0x10 * p)
  (List.range 2).foldl (fun s l => (s.set (fInvalid p l) 0).setReg (aPrbsErr p l) 0#32) s

/-- TEST is written (R82). -/
def State.linkTest (s : State) (p new : Nat) : State :=
  let old := s.get (fLnkTest p)
  if old = 0 && decide (new ≠ 0) then
    let s := s.clearPrbs p
    let s := if s.get (fLnkState p) = 0 then s.set (fLnkCause p) 11 else s.linkDown p 11
    (s.set (fLnkTest p) new).testSends p new
  else
    let s := s.set (fLnkTest p) new
    if new = 0 && decide (old ≠ 0) then s.onPort p (fun q => { q with since := s.now })
    else if new = old then s else s.testSends p new

/-- EN is written (Table 2-14): 0 takes the port to DOWN with cause 1. -/
def State.linkEn (s : State) (p : Nat) (en : Bool) : State :=
  let s := s.set (fLnkEn p) (b2n en)
  if en || decide (s.get (fLnkState p) = 0) then s else s.linkDown p 1

/-- A write of `LNK_P_n_CTL` (Table 2-14): the fields act together, EN = 0 before RETRAIN (R83). RST = 1 with EN = 0 resets the port
first and shows cause 2: the spec does not say which of the two causes stays (DESIGN CHOICE, log entry 30). -/
def State.linkCtlWrite (s : State) (p v : Nat) : State :=
  let s := if bit v 1 then s.linkReset p else s
  let s := s.linkTest p (bits v 4 2)
  let s := s.linkEn p (bit v 0)
  let s := if bit v 2 then s.linkRetrain p true else s
  if bit v 3 then s.onPort p (fun q => { q with injCrc := true }) else s

/-- EN of a port is written (R56, Table 2-14). -/
def execLnkEn (p : Fin 6) (en : Bool) (s : State) : Out := s.run (fun s => .next (s.linkEn p en))

/-- RST is written 1 (R85). -/
def execLnkRst (p : Fin 6) (s : State) : Out := s.run (fun s => .next (s.linkReset p))

/-- RETRAIN is written 1: no effect outside ACTIVE (Table 2-14). -/
def execLnkRetrain (p : Fin 6) (s : State) : Out := s.run (fun s => .next (s.linkRetrain p true))

/-- INJ_CRC is written 1: the next full frame sent carries an inverted CRC bit 0 (Table 2-14, R83). -/
def execInjCrc (p : Fin 6) (s : State) : Out := s.run (fun s => .next (s.onPort p (fun q => { q with injCrc := true })))

/-- TEST is written (R82). -/
def execLnkTest (p : Fin 6) (t : Fin 4) (s : State) : Out := s.run (fun s => .next (s.linkTest p t))

/-- A lane's checker without SYNC finds PRBS31 or its complement on its pads: 64 bits that its seed predicts (R82). In loopback the
checker hears the lane's own generator, and its SYNC comes of itself (`State.loopTick`). -/
def execPrbsSync (p : Fin 6) (l : Fin 2) (inv : Bool) (s : State) : Out := s.run (fun s =>
  .next (
    if s.get (fLnkTest p) = 1 && s.get (fPrbsSync p l) = 0 then
      ((s.onPort p (fun q => q.onLane l (fun x => { x with check := { x.check with sync := true, inv := inv, recent := [] } }))).set (fPrbsSync p l) 1).set
        (fPrbsInv p l) (b2n inv)
    else s))

/-- Bits at a lane's checker with SYNC, each wrong or not: a wrong one counts, and the 32nd within 64 clears SYNC and begins a new seed
(R82). -/
def execPrbsSyncLoss (p : Fin 6) (l : Fin 2) (wrong : List Bool) (s : State) : Out := s.run (fun s =>
  let x := (s.port p).lane l
  .next (
    if (s.get (fLnkTest p) = 1 || s.get (fLnkTest p) = 2) && x.check.sync then
      let y := x.hearBits (s.get (fLnkTest p) = 2) wrong
      (s.onPort p (fun q => q.onLane l (fun _ => y))).showChecker p l x.check y.check
    else s))

/-- This end's receiver has finished adaptation and asks for a transmit preset (Tables 2-4, 2-5). -/
def execReceiverAdaptationDone (p : Fin 6) (preset : Fin 8) (s : State) : Out := s.run (fun s =>
  .next (
    if s.get (fLnkState p) = 3 && (s.port p).phase = 3 then (s.fill p).onPort p (fun q => { q with eqDone := true, presetReq := preset })
    else s))

end Sys2Proof.Machine
end

