-- ==== Sys2Proof/Machine/Time.lean ====
section
/-! DEFINITION. Time: constellation time over the links, the servo, FSYNC outputs, clock monitors and clock gating (04). -/

namespace Sys2Proof.Machine

/-- `CLK_STAT`: ROOT_LOCK, XTAL_OK, ETH_LOCK. -/
def fRootLock : Fld := ⟨0x23000000, 0, 1⟩
/-- XTAL_OK. -/
def fXtalOk : Fld := ⟨0x23000000, 1, 1⟩
/-- ETH_LOCK. -/
def fEthLock : Fld := ⟨0x23000000, 2, 1⟩
/-- `CLK_GATE`. -/
def aGate : Nat := 0x23000004
/-- `CLK_GATE_STAT`. -/
def aGateStat : Nat := 0x23000008
/-- LOCKED of `CLK_SYNC_STAT`. -/
def fLocked : Fld := ⟨0x23000020, 0, 1⟩
/-- MEMBER. -/
def fMember : Fld := ⟨0x23000020, 1, 1⟩
/-- PARENT. -/
def fParent : Fld := ⟨0x23000020, 2, 3⟩
/-- DEPTH. -/
def fDepth : Fld := ⟨0x23000020, 5, 6⟩
/-- LAST_O. -/
def fLastO : Fld := ⟨0x23000020, 16, 16⟩
/-- ROOT of `CLK_SYNC_CTL`. -/
def fRoot : Fld := ⟨0x23000028, 0, 1⟩
/-- EN of `CLK_SYNC_CTL`. -/
def fSyncEn : Fld := ⟨0x23000028, 1, 1⟩
/-- RATE of `CLK_EPOCH_CFG`. -/
def fRate : Fld := ⟨0x23000040, 0, 1⟩
/-- RUN of `CLK_EPOCH_CFG`. -/
def fRun : Fld := ⟨0x23000040, 1, 1⟩

/-- Nearest integer to `a / b`, ties to even, `b > 0`. -/
def roundDiv (a : Int) (b : Int) : Int :=
  let q := a / b
  let r := 2 * (a - q * b)
  if r < b then q else if b < r then q + 1 else if q % 2 = 0 then q else q + 1

/-- Limit a value to ±`m`. -/
def clampTo (m v : Int) : Int := if m < v then m else if v < -m then -m else v

/-- Set INC from an applied correction in 1/128 ppm (R130): nominal times 1 + applied * 10^-6, rounded to nearest. -/
def State.applyRate (s : State) (applied : Int) : State :=
  s.setReg64 0x23000018 (10737418240 + roundDiv (10737418240 * clampTo 64000 applied) 128000000).toNat

/-- Show FREQ in 0.001 ppm, rounded to nearest (R145, R263). -/
def State.showFreq (s : State) : State := s.setReg 0x23000024 (BitVec.ofInt 32 (roundDiv (s.tim.freq * 1000) 128))

/-- Time passes by one CTRL_CLK cycle: constellation time advances by INC (R122). -/
def State.later (s : State) : State := { s with now := s.now + 24, tim := { s.tim with ct := s.tim.ct + s.inc } }

/-- Constellation time of the provisional phase is set to another value (R124, R125, R130), in 2^-32 ns. What was recorded in the
old time of the last sample, the partners and their heartbeats moves with it; an exchange in progress is discarded. -/
def State.ctSet (s : State) (ct : Nat) : State :=
  let old := s.ctNs
  let t : State := { s with tim := { s.tim with ct := ct } }
  let at_ (x : Nat) : Nat := ((x : Int) + t.ctNs - old).toNat
  let t : State := { t with tim := { t.tim with lastSample := at_ s.tim.lastSample, choiceMs := none } }
  (List.range 6).foldl (fun t p =>
    let q := t.port p
    t.setPort p { q with pAt := q.pAt.map at_, missMs := ((q.missMs : Int) + t.ctMs - s.ctMs).toNat, reqOpen := false, answer := none,
                         reqMs := none, rspMs := none, hbMs := none, hopSent := q.hopSent.map (fun x => x + t.ctNs - old) }) t

/-! ## HOP exchanges (R91, R127) -/

/-- A HOP packet may leave a port: 100 us of CT after the one before (R91). -/
def State.hopClear (s : State) (p : Nat) : Bool :=
  match (s.port p).hopSent with
  | none => true
  | some t => decide (t + 100000 ≤ (s.ctNs : Int))

/-- CT mod 1 ms has reached an instant in this cycle of the control clock, whose CT advances by at most 2.502 ns (R91, R127, R130). -/
def State.atInstant (s : State) (ns : Nat) : Bool := decide (ns ≤ s.ctNs % 1000000) && decide (s.ctNs % 1000000 < ns + 3)

/-- Send a HOP packet on a port: it goes in line at that output of the router (R91). -/
def State.hopSend (s : State) (p : Nat) (data : List Byte) : State :=
  (s.onPort p (fun q => { q with hopSent := some (s.ctNs : Int) })).line
    { dst := s.get (fPeerNode p), src := s.node, tc := 0, kind := 10, len := 1, nbytes := data.length, ten := 7, stamp := s.stamp, data := data } 6 0 p 0

/-- Take a consumed HOP packet: its arrival CT in ns; a command whose packet is not on record came now. -/
def State.tookHop (s : State) (p : Nat) (data : List Byte) : State × Nat :=
  match s.fab.hops.find? (fun h => h.1 = p && h.2.1 = data) with
  | some h => ({ s with fab := { s.fab with hops := s.fab.hops.erase h } }, h.2.2)
  | none => (s, s.ctNs)

/-- Take a beacon out of the list of beacons that left the sink queue (R106). -/
def State.took (s : State) (b : Packet) : State := { s with fab := { s.fab with taken := s.fab.taken.erase b } }

/-- At each whole millisecond a TIME_REQ leaves every ACTIVE port (R127). -/
def execTimeReqSend (p : Fin 6) (s : State) : Out := s.run (fun s =>
  let q := s.port p
  .next (
    if s.active p && s.get fSyncEn = 1 && q.reqMs ≠ some s.ctMs && s.atInstant 0 && s.hopClear p then
      let n := (q.reqSeq + 1) % 256
      (s.setPort p { q with reqSeq := n, reqT1 := s.ctNs, reqOpen := true, reqMs := some s.ctMs }).hopSend p
        (leBytes 1 2 ++ leBytes 1 n ++ leBytes 14 0)
    else s))

/-- A TIME_REQ arrives: SEQ and arrival time wait for the answer (R127). One that comes while an earlier one still waits cannot leave
within 200 us of its arrival, since a port sends at most one TIME_RSP per millisecond and both wait for one instant: it is not answered. -/
def execTimeReq (p : Fin 6) (data : List Byte) (s : State) : Out := s.run (fun s =>
  let (s, at_) := s.tookHop p data
  let waits : Bool := match (s.port p).answer with | some x => decide (at_ ≤ x.2 + 200000) | none => false
  .next (if waits then s else s.onPort p (fun q => { q with answer := some (byteAt data 1, at_) })))

/-- The windows of a millisecond in which a TIME_RSP leaves (R127). -/
def rspWindow (ns : Nat) : Bool :=
  let x := ns % 1000000
  (decide (100000 ≤ x) && decide (x ≤ 400000)) || (decide (600000 ≤ x) && decide (x ≤ 900000))

/-- The TIME_RSP leaves at the first allowed instant, or is dropped 200 us after the arrival (R127, R146). -/
def execTimeRspSend (p : Fin 6) (s : State) : Out := s.run (fun s =>
  let q := s.port p
  .next (
    match q.answer with
    | none => s
    | some (seq, t2) =>
      if 200000 < s.ctNs - t2 then s.setPort p { q with answer := none }
      else if s.active p && s.get fSyncEn = 1 && rspWindow s.ctNs && q.rspMs ≠ some s.ctMs && s.hopClear p then
        (s.setPort p { q with answer := none, rspMs := some s.ctMs }).hopSend p
          (leBytes 1 3 ++ leBytes 1 seq ++ leBytes 1 (s.get fDepth + 64 * s.get fLocked + 128 * s.get fRoot) ++ leBytes 1 0 ++
            leBytes 8 t2 ++ leBytes 4 (s.ctNs - t2))
      else s))

/-! ## FSYNC levels -/

/-- An FSYNC output. -/
def State.fs (s : State) (k : Nat) : Fsync := tblGet (fun _ => {}) s.tim.fsync k

/-- The state with an FSYNC output replaced. -/
def State.setFs (s : State) (k : Nat) (f : Fsync) : State := { s with tim := { s.tim with fsync := tblSet (fun _ => {}) s.tim.fsync k f } }

/-- Drive an FSYNC pin. -/
def State.fsPin (s : State) (k : Nat) (level : Bool) : State :=
  let f := s.fs k
  if f.pin = level then s else (s.setFs k { f with pin := level }).emit (.pin ("FSYNC_" ++ toString k) level)

/-- FSYNC_k is driven low and a pulse is not completed (R138). -/
def State.fsLow (s : State) (k : Nat) : State := (s.setFs k { s.fs k with pulse := none }).fsPin k false

/-- Every FSYNC output is driven low (R138, R144). -/
def State.fsAllLow (s : State) : State := (List.range 4).foldl (fun s k => s.fsLow k) s

/-- No run of good or of far samples is in progress (R131). -/
def State.noRuns (s : State) : State := { s with tim := { s.tim with good := 0, far := 0 } }

/-- The time servo loses LOCKED: FSYNC goes low, and a member raises a safety event (R131, R138, Table 4-8). -/
def State.lockLost (s : State) : State :=
  if s.get fLocked = 1 then
    let t := (s.set fLocked 0).fsAllLow.noRuns
    if s.get fMember = 1 then t.safety 0x07 1 else t
  else s

/-! ## Epoch and FSYNC edge times (R133, R136) -/

/-- The master frame rate in force. -/
def State.rate (s : State) : Nat := if s.tim.rate25 then 25 else 30

/-- boundary(n) in ns (R133). -/
def State.boundary (s : State) (n : Nat) : Nat := s.tim.baseCt + (n - s.tim.baseN) * 1000000000 / s.rate

/-- MULT of an FSYNC configuration. -/
def fsMult (cfg : Nat) : Nat := 2 ^ bits cfg 2 2

/-- An FSYNC configuration that R138 calls invalid under a master rate. -/
def fsBad (rate cfg ofs : Nat) : Bool :=
  let width := bits cfg 4 14
  bits cfg 2 2 = 3 || width = 0 || decide (10000 < width) ||
    decide (1000000000 / (rate * fsMult cfg) < ofs % 33554432 + 1000 * width)

/-- Time of FSYNC edge j (R136). -/
def State.edgeTime (s : State) (k j : Nat) : Nat :=
  let f := s.fs k
  let m := fsMult f.cfg
  s.tim.baseCt + (j - s.tim.baseN * m) * 1000000000 / (s.rate * m) + f.ofs % 33554432

/-- The edges of FSYNC_k in epoch `n` and their times, under the configuration in force, whether or not the output is held low; the
reserved MULT gives none (R136; DESIGN CHOICE, log entry 38). -/
def State.epochEdges (s : State) (k n : Nat) : List (Nat × Nat) :=
  let m := fsMult (s.fs k).cfg
  if m = 8 then [] else (List.range m).map (fun i => (n * m + i, s.edgeTime k (n * m + i)))

/-- The edges of FSYNC_k whose time has passed pass without a pulse, at most four in an epoch (R136, R137). -/
def State.fsSkip (s : State) (k : Nat) : State :=
  (List.range 4).foldl (fun s _ =>
    let f := s.fs k
    if s.edgeTime k f.edge < s.ctNs then s.setFs k { f with edge := f.edge + 1 } else s) s

/-- The crystal or the root PLL is lost: the always-on domain holds the safety and frame-sync outputs low until the reset (R144). -/
def State.clockBad (s : State) : Bool := s.tim.xtalLost || s.tim.rootLost

/-- An output is held low (R138, R144, R578). -/
def State.fsHeld (s : State) (k : Nat) : Bool :=
  decide (s.get fMember = 0) || !s.isMember || decide (s.get fLocked = 0) || decide (s.get fRun = 0) || !bit (s.fs k).cfg 0 || (s.fs k).err || s.clockBad

/-- An output between pulses: low while it is held, else at the inactive level of POL (R138, Table 4-6). -/
def State.fsRest (s : State) (k : Nat) : State :=
  if (s.fs k).pulse.isNone then s.fsPin k (!s.fsHeld k && bit (s.fs k).cfg 1) else s

/-- The chip is LOCKED: FSYNC outputs are released and run again from the next edge on (R131, R138). -/
def State.lock (s : State) : State := (List.range 4).foldl (fun s k => (s.fsSkip k).fsRest k) (s.set fLocked 1)

/-- Write ROOT (R131): the root is LOCKED and at depth 0 at once; when ROOT is cleared LOCKED clears. -/
def State.setRoot (s : State) (root : Bool) : State :=
  if root then
    let s := if s.get fLocked = 1 then s else s.lock
    ((s.set fRoot 1).set fDepth 0).set fParent 7
  else if s.get fRoot = 1 then ((s.set fRoot 0).lockLost).set fDepth 63 else s

/-- A change of the master frame rate is on its way to its boundary B: its operation runs, its beacon has been taken, or the register holds
the new rate (R134, R719). -/
def State.ratePending (s : State) : Bool := s.con.rateOp.isSome || s.tim.rateAt.isSome || decide (s.get fRate ≠ b2n s.tim.rate25)

/-! ## The servo (R129 to R131) -/

/-- An accepted sample with offset `o2 / 2` ns and round trip `rt` (R129 to R131). LAST_O is rounded to nearest (R263). -/
def State.servo (s : State) (o2 rt : Int) : State :=
  let o := clampTo 32767 (roundDiv o2 2)
  let s := s.set fLastO (unsigned 16 o)
  let s := { s with tim := { s.tim with rts := (rt :: s.tim.rts).take 16, lastSample := s.ctNs, sampled := true } }
  let prov := s.get fMember = 0
  let s :=
    if prov && decide (2000 < o2.natAbs) then
      s.ctSet ((s.tim.ct : Int) + o2 * 2147483648).toNat
    else
      let f := s.tim.freq + o2
      ({ s with tim := { s.tim with freq := f } } : State).showFreq.applyRate (f + 16 * o2)
  let good := if o2.natAbs ≤ 40 then s.tim.good + 1 else 0
  let far := if 80 < o2.natAbs then s.tim.far + 1 else 0
  let s := { s with tim := { s.tim with good := good, far := far } }
  if s.get fLocked = 0 && decide (16 ≤ good) then s.lock
  else if s.get fLocked = 1 && decide (8 ≤ far) then s.lockLost
  else s

/-- A TIME_RSP arrives (R126, R129): every answer shows the partner's state; one from the parent may be a sample. -/
def execTimeRsp (p : Fin 6) (data : List Byte) (s : State) : Out := s.run (fun s =>
  let (s, t4) := s.tookHop p data
  let b2 := byteAt data 2
  let locked := bit b2 6
  let root := bit b2 7
  let t2 := fieldAt data 4 8
  let turn := fieldAt data 12 4
  let q := s.port p
  let match_ := q.reqOpen && decide (byteAt data 1 = q.reqSeq)
  let s := s.setPort p { q with pLocked := locked, pRoot := root, pDepth := b2 % 64, pAt := some s.ctNs,
                                reqOpen := q.reqOpen && !match_ }
  let rt : Int := (t4 : Int) - q.reqT1 - turn
  let o2 : Int := ((t2 : Int) - q.reqT1) - ((t4 : Int) - (t2 + turn))
  let best := s.tim.rts.foldl min (s.tim.rts.headD 0)
  let near := s.tim.rts.isEmpty || decide (rt ≤ best + 10)
  .next (
    if s.get fRoot = 0 && decide (s.get fParent = p.val) && match_ && (locked || root) && decide (turn ≤ 200000) && near
    then s.servo o2 rt
    else s))

/-- A partner that counts as LOCKED for the choice of R126: it answered within 3 ms and showed LOCKED. -/
def State.timeSource (s : State) (p : Nat) : Bool :=
  let q := s.port p
  s.active p && q.pLocked && (match q.pAt with | some t => decide (s.ctNs - t ≤ 3000000) | none => false)

/-- The better of two partners: the smaller DEPTH, the lower node, the lower port (R126). -/
def State.betterParent (s : State) (a b : Nat) : Bool :=
  let da := (s.port a).pDepth
  let db := (s.port b).pDepth
  decide (da < db) || (decide (da = db) && (decide (s.get (fPeerNode a) < s.get (fPeerNode b)) ||
    (decide (s.get (fPeerNode a) = s.get (fPeerNode b)) && decide (a < b))))

/-- The parent that R126 chooses; 7 is none. -/
def State.bestParent (s : State) : Nat :=
  ((List.range 6).filter s.timeSource).foldl (fun m p => if m = 7 || s.betterParent p m then p else m) 7

/-- Every millisecond a chip that is not the root chooses its parent; with no sample since the last choice, applied is FREQ
(R126, R129, R130). DEPTH saturates at 63: the spec gives its 6 bits no value past that; without a parent, and after ROOT is cleared, it
is 63 again, its reset value (DESIGN CHOICE, log entry 33). -/
def execParentChoice (s : State) : Out := s.run (fun s =>
  .next (
    if s.get fRoot = 0 && s.get fSyncEn = 1 && s.tim.choiceMs ≠ some s.ctMs then
      let n := s.bestParent
      let s := if s.tim.sampled then s else s.applyRate s.tim.freq
      let s := { s with tim := { s.tim with sampled := false, choiceMs := some s.ctMs } }
      let s := if s.get fParent = n then s
        else ({ s with tim := { s.tim with rts := [] } } : State).onPort n (fun q => { q with reqOpen := false })
      (s.set fParent n).set fDepth (if n = 7 then 63 else min 63 ((s.port n).pDepth + 1))
    else s))

/-- 10 ms without an accepted sample clear LOCKED (R131). -/
def execLockedLoss (s : State) : Out := s.run (fun s =>
  .next (if s.get fRoot = 0 && s.get fLocked = 1 && decide (10000000 ≤ s.ctNs - s.tim.lastSample) then s.lockLost else s))

/-! ## FSYNC outputs (R136 to R138) -/

/-- The written configuration of FSYNC_k takes effect and is evaluated; the next edge is the first of epoch `n` (R138). -/
def State.fsBoundary (s : State) (n k : Nat) : State :=
  let a := 0x23000050 + 8 * k
  let cfg := (s.reg a).toNat % 262144
  let ofs := (s.reg (a + 4)).toNat
  let bad := fsBad s.rate cfg ofs
  let old := s.fs k
  let m := if bits cfg 2 2 = 3 then 1 else fsMult cfg
  let s := (s.setFs k { old with cfg := cfg, ofs := ofs, err := bad, edge := n * m }).set ⟨a, 31, 1⟩ (b2n bad)
  let s := if bit cfg 0 then s else s.fsLow k
  s.fsRest k

/-- CT has reached the time of the next edge: the pulse begins, or the edge passes while the output is held low (R136 to R138). -/
def execFsyncEdge (k : Fin 4) (s : State) : Out := s.run (fun s =>
  let f := s.fs k
  .next (
    if f.pulse.isSome || decide (s.ctNs < s.edgeTime k f.edge) || decide ((s.tim.epoch + 1) * fsMult f.cfg ≤ f.edge) then s
    else if s.fsHeld k then s.setFs k { f with edge := f.edge + 1 }
    else
      (s.setFs k { f with pulse := some (s.edgeTime k f.edge), width := bits f.cfg 4 14, edge := f.edge + 1 }).fsPin k (!bit f.cfg 1)))

/-- The pulse has lasted WIDTH microseconds (R136). -/
def execFsyncPulseEnd (k : Fin 4) (s : State) : Out := s.run (fun s =>
  let f := s.fs k
  .next (
    match f.pulse with
    | some t =>
      if t + 1000 * f.width ≤ s.ctNs then (s.setFs k { f with pulse := none }).fsPin k (!s.fsHeld k && bit f.cfg 1) else s
    | none => s))

/-! ## Clock monitors (R143, R144) -/

/-- `OW_VALID_A` and `OW_VALID_B` are driven low. -/
def State.owLow (s : State) : State :=
  if s.saf.running then
    ((({ s with saf := { s.saf with running := false, mismatch := false } } : State).set ⟨0x24000018, 0, 1⟩ 0).emit (.pin "OW_VALID_A" false)).emit
      (.pin "OW_VALID_B" false)
  else s

/-- A clock monitor finds a fault: its bit and a safety event, where it is enabled (R143). -/
def State.monitor (s : State) (m code : Nat) : State :=
  if bit (s.reg 0x23000084).toNat m then (s.event 0x23000080 (2 ^ m)).safety code m else s

/-- A watchdog reset is due 1 ms from now, with its origin. A reset that is already due stands; where a lockstep mismatch and a clock loss
come together one reset records both: the clock loss as ORIGIN, the mismatch as REASON, in the second byte (R484; log entry 49). -/
def State.resetFor (s : State) (origin : Nat) : State :=
  let due := match s.tim.resetDue with
    | none => (s.now, origin)
    | some (t, o) => (t, if (o = 1 && origin = 5) || (o = 5 && origin = 1) then 0x105 else o)
  { s with tim := { s.tim with resetDue := some due } }

/-- The always-on domain takes over after the loss of the crystal or the root PLL (R144). -/
def State.clockLost (s : State) : State :=
  s.owLow.fsAllLow.resetFor 5

/-- A divided clock is outside its limits for two windows, or FREQ is beyond 300 ppm (R143, Table 4-4). -/
def execClockMonitorFault (m : Fin 9) (s : State) : Out := s.run (fun s =>
  .next (
    if m.val = 5 then (({ s with tim := { s.tim with rootLost := true } } : State).set fRootLock 0 |>.monitor 5 0x05).clockLost
    else if m.val = 6 then (s.set fEthLock 0).monitor 6 0x06
    else if m.val = 7 then (({ s with tim := { s.tim with xtalLost := true } } : State).set fXtalOk 0 |>.monitor 7 0x05).clockLost
    else if m.val = 8 then (if 38400 < s.tim.freq.natAbs then s.monitor 8 0x07 else s)
    else s.monitor m 0x06))

/-- A PLL lock detector reports loss of lock (R143, R144). -/
def execPllLockLoss (root : Bool) (s : State) : Out := s.run (fun s =>
  .next (
    if root then (({ s with tim := { s.tim with rootLost := true } } : State).set fRootLock 0 |>.monitor 5 0x05).clockLost
    else (s.set fEthLock 0).monitor 6 0x06))

/-- 64 backup periods without a crystal edge (R144). -/
def execCrystalLoss (s : State) : Out := s.run (fun s =>
  .next ((({ s with tim := { s.tim with xtalLost := true } } : State).set fXtalOk 0 |>.monitor 7 0x05).clockLost))

/-! ## Clock gating and reads of CT (R121, R123) -/

/-- A core is idle for its clock gate: sequencer, DMA engine and thread groups (R121). -/
def State.coreIdle (s : State) (c : Nat) : Bool :=
  let st := s.get (fSeqState c)
  let k := s.core c
  (st = 0 || st = 5) && (List.range 8).all (fun ch => (s.chan c ch).cur.isNone && (s.chan c ch).queue.isEmpty) &&
    k.tg.launches.isEmpty && k.seq.tensor.isEmpty && decide (s.busyNotes c = 0)

/-- A write of `CLK_GATE`: set bits open their gates; cleared bits of blocks other than cores close them, a core's gate waits
until it is idle (R121). -/
def State.gateWrite (s : State) (v : Word) : State :=
  let g := v &&& 0xFFFF#32
  let now := s.reg aGateStat
  (s.setReg aGate g).setReg aGateStat (g ||| (now &&& 0xFF#32))

/-- `CLK_GATE` is written (R121). -/
def execClkGateWrite (v : Word) (s : State) : Out := s.run (fun s => .next (s.gateWrite v))

/-- A core whose gate bit is clear has become idle: its gate closes (R121). -/
def execCoreGateClose (c : Fin 8) (s : State) : Out := s.run (fun s =>
  .next (if !bit (s.reg aGate).toNat c && s.coreIdle c then s.setReg aGateStat (s.reg aGateStat &&& ~~~ BitVec.ofNat 32 (2 ^ c.val)) else s))

/-- A read of `CLK_CT_LO` latches the upper half (R123): the low word read. -/
def State.ctLoRead (s : State) : State × Word :=
  let n := s.ctNs
  (({ s with tim := { s.tim with ctHi := n / 4294967296 } } : State), BitVec.ofNat 32 n)

/-- `CLK_CT_LO` is read (R123). -/
def execClkCtLoRead (s : State) : Out := s.run (fun s => .next s.ctLoRead.1)

/-- STATE of `PWR_MODE`: 0 ACTIVE, 1 IDLE, 2 PARK. -/
def fMode : Fld := ⟨0x23002018, 0, 2⟩

/-- The chip changes its power mode. -/
def State.mode (s : State) (m : Nat) : State := (s.set fMode m).event 0x2300202C 4

/-- Firmware takes the chip from IDLE back to ACTIVE before it writes to a core: every core gate opens (R698). -/
def State.wake (s : State) : State := if s.get fMode = 1 then (s.gateWrite (s.reg aGate ||| 0xFF#32)).mode 0 else s

/-- The clock of a block that a gate bit covers runs. -/
def State.clocked (s : State) (bit_ : Nat) : Bool := bit (s.reg aGateStat).toNat bit_

end Sys2Proof.Machine
end

