-- ==== Sys2Proof/Machine/Secded.lean ====
section
/-! DEFINITION. Secded: the safety log and the hardware safe state, and the SECDED codes of the control complex's memories, which need
them (16, 21). -/

namespace Sys2Proof.Machine

/-! ### The fault log and the safe state (R617) -/

/-- Change the safety state. -/
def State.onSaf (s : State) (f : SafetyState → SafetyState) : State := { s with saf := f s.saf }

/-- LATCH of `SAF_SAFE_STAT`. -/
def fLatch : Fld := ⟨0x24000004, 0, 1⟩
/-- ORIGIN of `SAF_SAFE_STAT`. -/
def fLatchOrigin : Fld := ⟨0x24000004, 8, 8⟩
/-- The class of an event: 0 A, 1 B, 2 C, 3 D, 4 X, 5 E (Table 21-1, Table 21-2). The detail tells the bad bank of 0x0B and the
fourth error of 0x0C. -/
def eventClass (code detail : Nat) : Nat :=
  if [0x01, 0x02, 0x04, 0x05, 0x08, 0x15].contains code then 0
  else if [0x03, 0x06, 0x07, 0x09, 0x0A, 0x0D, 0x0E, 0x11].contains code then 1
  else if code = 0x0B || code = 0x0C then (if 0x100 ≤ detail % 2147483648 then 1 else 2)
  else if code = 0x0F || code = 0x12 then 2
  else if code = 0x13 || code = 0x14 then 3
  else if code = 0x10 then 4
  else 5

/-- The class code of the fault log: A is 0, B 1, C 2, D 3, X 4, E 5 (Table 21-4). -/
def logEntry (s : State) (code detail : Nat) : FaultEntry := { ct := s.ctNs, code := code, cls := eventClass code detail, detail := detail }

/-- The hardware safe state (R617): the latch, all outputs low, transmission stopped, a watchdog reset 1 ms later. -/
def State.classA (s : State) (code : Nat) : State :=
  if s.get fLatch = 1 then (if s.linkOff then s.resetFor code else s)
  else
    let s := s.kmpEvent 0x8702 (leBytes 1 s.node) none
    (((s.set fLatch 1).set fLatchOrigin code).owLow.fsAllLow).resetFor code

/-- The code that a test of Table 21-5 expects. -/
def testCode (t : Nat) : Nat := [0, 0x01, 0x04, 0x06, 0x0B, 0x0D, 0x0E, 0x10, 0x15].getD t 0

/-- Log an event; one that a test expects carries detail bit 31 (R626, R629). The always-on domain keeps the last four of class A or
B. -/
def State.logEvent (s : State) (code detail : Nat) : State :=
  let tested : Bool := match s.saf.test with | some (t, _) => testCode t = code | none => false
  let e := logEntry s code (detail % 2147483648 + if tested then 2147483648 else 0)
  s.onSaf (fun f => { f with
    log := (f.log ++ [e]).drop ((f.log.length + 1) - 64)
    kept := if e.cls ≤ 1 then (f.kept ++ [e]).drop ((f.kept.length + 1) - 4) else f.kept
    test := if tested then none else f.test })

/-! ### The control complex -/

/-- Change the control complex. -/
def State.onCtl (s : State) (f : ControlState → ControlState) : State := { s with ctl := f s.ctl }

/-- A lockstep mismatch or a double-bit error in the safety partition stops the pair; the always-on domain records it, drives the outputs
low and issues a watchdog reset (R472). -/
def State.pairFail (s : State) (code detail : Nat) : State :=
  (((s.onCtl (fun c => { c with stopped := true })).event 0x24000000 (2 ^ (code - 1))).logEvent code detail).classA code

/-! ### SECDED (R469) -/

/-- Marks of words `lo` to `lo + n - 1` of a memory: 0 control SRAM, 1 L2, 2 to 4 the L1 of SC_0 to SC_2 (Table 16-3). -/
def eccHit (u lo n : Nat) (e : Nat × Nat × Bool) : Bool := e.1 = u && decide (lo ≤ e.2.1) && decide (e.2.1 < lo + n)

/-- One word that does not match its code is read (R469): a single-bit error is corrected and counted; a double-bit error is recorded
and raises its safety event, whose reaction stops the pair for the safety partition. -/
def State.eccError (s : State) (e : Nat × Nat × Bool) : State :=
  if e.2.2 then
    let s := (s.setReg 0x24001004 (BitVec.ofNat 32 (e.2.1 % 4194304 + 4194304 * e.1))).event 0x24001004 0x80000000
    if e.1 = 0 && decide (0x70000 ≤ e.2.1) then s.pairFail 0x02 e.2.1 else s.safety 0x03 e.2.1
  else ({ s with mem := { s.mem with ecc := s.mem.ecc.filter (fun x => x ≠ e) } } : State).bump 0x24001000

/-- Words of a memory are read. -/
def State.eccRead (s : State) (u lo n : Nat) : State := (s.mem.ecc.filter (eccHit u lo n)).foldl State.eccError s

/-- Words of a memory are written whole, with valid check bits. -/
def State.eccWrite (s : State) (u lo n : Nat) : State :=
  { s with mem := { s.mem with ecc := s.mem.ecc.filter (fun e => !eccHit u lo n e) } }

/-- A line of the L2; a line that it does not hold has no holder. -/
def State.l2Line (s : State) (l : Nat) : CacheLine := (tblGet (fun _ => none) s.ctl.lines l).getD {}

/-- The state with a line in the L2. -/
def State.setL2 (s : State) (l : Nat) (k : CacheLine) : State := s.onCtl (fun c => { c with lines := tblSet (fun _ => none) c.lines l (some k) })

/-- The L2 holds a line. -/
def State.l2Has (s : State) (l : Nat) : Bool := (tblGet (fun _ => none) s.ctl.lines l).isSome

/-- The memory that an access to a word of control SRAM goes to: the L2, where it holds the line of the firmware region, else the SRAM
(R467, R468). -/
def State.sramUnit (s : State) (w : Nat) : Nat := if decide (w < 0x60000) && s.l2Has (w / 8) then 1 else 0

/-- Marks of words `lo` to `lo + n - 1` of control SRAM, in the memory that an access to them goes to. -/
def State.sramHit (s : State) (lo n : Nat) (e : Nat × Nat × Bool) : Bool := eccHit (s.sramUnit e.2.1) lo n e

/-- Words of control SRAM are read. -/
def State.sramWords (s : State) (lo n : Nat) : State := (s.mem.ecc.filter (s.sramHit lo n)).foldl State.eccError s

/-- Bytes of control SRAM are read. -/
def State.sramEcc (s : State) (o n : Nat) : State := s.sramWords (o / 8) ((o + n + 7) / 8 - o / 8)

/-- Bytes of control SRAM are written: words written whole get valid check bits, words written in part are read first. -/
def State.sramEccWrite (s : State) (o n : Nat) : State :=
  let lo := (o + 7) / 8
  let hi := (o + n) / 8
  let s := if o % 8 = 0 then s else s.sramWords (o / 8) 1
  let s := if (o + n) % 8 = 0 then s else s.sramWords hi 1
  { s with mem := { s.mem with ecc := s.mem.ecc.filter (fun e => !s.sramHit lo (hi - lo) e) } }

end Sys2Proof.Machine
end

