-- ==== Sys2Proof/Machine/Barrier.lean ====
section
/-! DEFINITION. Barrier: the epoch barrier of each plan, as a chip of the plan and as the pole (15, R449 to R452). -/

namespace Sys2Proof.Machine

/-- A plan's barrier on this chip. -/
def State.plan (s : State) (p : Nat) : PlanEpoch := tblGet (fun _ => {}) s.plans p
/-- The state with a plan's barrier replaced. -/
def State.setPlan (s : State) (p : Nat) (e : PlanEpoch) : State := { s with plans := tblSet (fun _ => {}) s.plans p e }
/-- Change a plan's barrier. -/
def State.onPlan (s : State) (p : Nat) (f : PlanEpoch → PlanEpoch) : State := s.setPlan p (f (s.plan p))

/-- A service core reaches bytes at a chip-local address of control SRAM: not those of the safety partition once its fence is set
(R467). -/
def State.sramReached (s : State) (a n : Nat) : Bool :=
  isSram a && isSram (a + n - 1) && !((s.reg 0x24001010).getLsbD 0 && decide (0x1380000 < a + n))

/-- Firmware reads bytes at a chip-local address, of a palette through its ingress or of the control SRAM with its code checked: none
where the access is refused or the data is poisoned (R152, R164, R467, R469). -/
def State.localGet (s : State) (a n : Nat) : State × Option (List Byte) :=
  match palCore a with
  | some c => s.ingressGet c (a % 16777216) n
  | none =>
    if s.sramReached a n then (s.sramEcc (a - 0x1000000) n, some (tblGets byteZero s.mem.sram (a - 0x1000000) n)) else (s, none)

/-- Firmware writes bytes at a chip-local address. -/
def State.localPut (s : State) (a : Nat) (bs : List Byte) : State :=
  match palCore a with
  | some c => s.ingressPut c (a % 16777216) bs
  | none =>
    if s.sramReached a bs.length then
      let s := s.sramEccWrite (a - 0x1000000) bs.length
      { s with mem := { s.mem with sram := tblSets byteZero s.mem.sram (a - 0x1000000) bs } }
    else s

/-- The word that firmware reads at a chip-local address. -/
def State.localWord (s : State) (a : Nat) : Option Nat := (s.localGet a 4).2.map leNat

/-- Every completion flag of a plan on this chip has reached its target for epoch `n` (R449). -/
def State.flagsReached (s : State) (e : PlanEpoch) (n : Nat) : Bool :=
  e.flags.all (fun f => match s.localWord f.1 with
    | some x => reached x ((f.2.2 + f.2.1 * n) % 4294967296)
    | none => false)

/-- What reading the completion flags of a plan leaves: the parity errors that it meets (R164, R165). -/
def State.readFlags (s : State) (e : PlanEpoch) : State := e.flags.foldl (fun s f => (s.localGet f.1 4).1) s

/-- A beacon of the barrier (Table 15-3). -/
def barrierBeacon (ty plan n : Nat) : List Byte := beaconBytes ty ([0#8] ++ leBytes 2 plan) n

/-- An epoch belongs to a plan. -/
def PlanEpoch.covers (e : PlanEpoch) (n : Nat) : Bool :=
  decide (e.nodes ≠ 0) && decide (e.first ≤ n) && (match e.end_ with | some m => decide (n < m) | none => true)

/-- EPOCH_READY, at most once per plan and epoch, once the flags have reached their targets (R449). -/
def execEpochReadySend (plan n : Nat) (s : State) : Out := s.run (fun s =>
  let e := s.plan plan
  let new := match e.sentReady with | some m => decide (m < n) | none => true
  .next (
    if e.covers n && bit e.nodes s.node && new && s.flagsReached e n then
      ((s.readFlags e).setPlan plan { e with sentReady := some n }).toPole (barrierBeacon 0x10 plan n)
    else s.readFlags e))

/-- The next epoch of a plan that the pole has not decided. -/
def PlanEpoch.undecided (e : PlanEpoch) : Nat := match e.decided with | some d => d + 1 | none => e.first

/-- The pole decides the next epoch of a plan and broadcasts it: exactly one decision per epoch, in ascending order (R450). -/
def State.decideEpoch (s : State) (plan : Nat) (abandon : Bool) : State :=
  let e := s.plan plan
  let n := e.undecided
  let s := s.setPlan plan { e with decided := some n, ready := e.ready.filter (fun r => n < r.2), failed := e.failed.filter (fun k => n < k) }
  let s := s.broadcast (barrierBeacon (if abandon then 0x12 else 0x11) plan n)
  if abandon then s.deliverEvent 0x8204 s.node (leBytes 2 plan ++ leBytes 8 n) none else s

/-- Abandon the next epochs of a plan while they cannot succeed, at most `k` of them (R596). -/
def State.settleFailed (s : State) (plan : Nat) : Nat → State
  | 0 => s
  | k + 1 =>
    let e := s.plan plan
    if e.covers e.undecided && e.failed.contains e.undecided then (s.decideEpoch plan true).settleFailed plan k else s

/-- Decide the next epochs of a plan and settle what follows. -/
def State.decided (s : State) (plan : Nat) (abandon : Bool) : State :=
  (s.decideEpoch plan abandon).settleFailed plan ((s.plan plan).failed.length)

/-- Abandon every undecided epoch of a plan up to `n`, ascending, trying `k` of them (R450, R591, R597). -/
def State.abandonTo (s : State) (plan n : Nat) : Nat → State
  | 0 => s
  | k + 1 =>
    let e := s.plan plan
    if e.covers e.undecided && decide (e.undecided ≤ n) then (s.decideEpoch plan true).abandonTo plan n k else s

/-- Abandon every undecided epoch of a plan up to `n`. -/
def State.abandonThrough (s : State) (plan n : Nat) : State := s.abandonTo plan n (n + 1 - (s.plan plan).undecided)

/-- The pole takes an EPOCH_READY; one for a decided epoch is ignored (R450). -/
def execEpochReady (b : Packet) (s : State) : Out := s.run (fun s =>
  let s := s.took b
  let plan := fieldAt b.data 2 2
  let n := fieldAt b.data 8 8
  let e := s.plan plan
  .next (
    if s.isPole && e.covers n && decide (e.undecided ≤ n) && bit e.nodes b.src && !e.ready.contains (b.src, n) then
      s.setPlan plan { e with ready := e.ready ++ [(b.src, n)] }
    else s))

/-- Every chip of a plan has reported READY for an epoch. -/
def PlanEpoch.allReady (e : PlanEpoch) (n : Nat) : Bool :=
  (List.range 64).all (fun x => !bit e.nodes x || e.ready.contains (x, n))

/-- The pole commits the next epoch of a plan once it holds every READY; at boundary(n + 2) the deadline wins (R450, R459). -/
def execEpochCommitSend (plan : Nat) (s : State) : Out := s.run (fun s =>
  let e := s.plan plan
  let n := e.undecided
  .next (
    if s.isPole && e.covers n && e.allReady n && decide (s.ctNs < s.boundary (n + 2)) then s.decided plan false else s))

/-- Commit the next epochs of a plan up to `n` whose every READY the pole holds, ascending, at most `k` of them: the earlier of the two
events of R450 came before boundary(n + 2). -/
def State.commitReady (s : State) (plan n : Nat) : Nat → State
  | 0 => s
  | k + 1 =>
    let e := s.plan plan
    if e.covers e.undecided && decide (e.undecided ≤ n) && e.allReady e.undecided then (s.decided plan false).commitReady plan n k else s

/-- boundary(n) has arrived at the pole: epochs up to n - 2 are abandoned, but those whose READYs it all holds, as long as the one before
is decided in time; epochs below the one that a loss has named are abandoned at their own boundary (R450, R591). -/
def State.commitDeadline (s : State) (n : Nat) : State :=
  s.plans.foldl (fun s p =>
    let e := s.plan p.1
    let s := if 2 ≤ n then (s.commitReady p.1 (n - 2) (n - 1 - e.undecided)).abandonThrough p.1 (n - 2) else s
    if n < e.abandonTo then s.abandonThrough p.1 n else s) s

/-- EPOCH_FAIL at the pole: the epoch is abandoned at once, or as soon as those before it are decided (R596, R606). -/
def State.poleFail (s : State) (plan n : Nat) : State :=
  let e := s.plan plan
  if e.covers n && decide (e.undecided ≤ n) then
    (s.setPlan plan { e with failed := n :: e.failed }).settleFailed plan (e.failed.length + 1)
  else s

/-- Write an epoch word, word 1 first (R451, Table 15-4). -/
def State.epochWord (s : State) (a n : Nat) (bad : Bool) : State :=
  (s.localPut (a + 4) (leBytes 4 (b2n bad + 2 * (n % 2)))).localPut a (leBytes 4 n)

/-- Apply decisions in ascending order, at most `k` of them: those that arrived early wait (R451, R459). -/
def State.applyHeld (s : State) (plan : Nat) : Nat → State
  | 0 => s
  | k + 1 =>
    let e := s.plan plan
    let n := match e.applied with | some m => m + 1 | none => e.first
    match e.held.find? (fun h => h.1 = n) with
    | none => s
    | some h =>
      let s := s.setPlan plan { e with applied := some n, held := e.held.erase h, log := ((n, h.2) :: e.log).take 64 }
      (e.words.foldl (fun s a => s.epochWord a n h.2) s).applyHeld plan k

/-- A chip takes a decision of the pole; one for an epoch it has decided is ignored (R451, R590). -/
def State.takeDecision (s : State) (plan n : Nat) (bad : Bool) : State :=
  let e := s.plan plan
  let old := match e.applied with | some m => decide (n ≤ m) | none => decide (n < e.first)
  if e.nodes = 0 || old || e.held.any (fun h => h.1 = n) then s
  else
    let e := { e with held := (n, bad) :: e.held }
    (s.setPlan plan e).applyHeld plan e.held.length

/-- The fate of an epoch as this chip has applied it: whether it was abandoned. -/
def State.fate (s : State) (plan n : Nat) : Option Bool := ((s.plan plan).log.find? (fun d => d.1 = n)).map (fun d => d.2)

end Sys2Proof.Machine
end

