-- ==== Sys2Proof/Machine/Params.lean ====
section
/-! DEFINITION. Params: the shadowed parameter sets of ground stages (0 to 3) and feeds (4 to 11), Table 14-3. -/

namespace Sys2Proof.Machine

/-- Camera registers of a pipeline (R374). -/
def camReg (p off : Nat) : Nat := 0x20000000 + 0x1000 * p + off
/-- Ground-stage registers of a pipeline (R408). -/
def grdReg (p off : Nat) : Nat := 0x20100000 + 0x10000 * p + off
/-- Registers of a feed (R434). -/
def feedReg (f off : Nat) : Nat := 0x20201000 + 0x800 * f + off

/-- A camera pipeline beside its registers. -/
def State.cam (s : State) (p : Nat) : CamPipe := tblGet (fun _ => {}) s.vid.cams p
/-- The state with a camera pipeline replaced. -/
def State.setCam (s : State) (p : Nat) (c : CamPipe) : State := { s with vid := { s.vid with cams := tblSet (fun _ => {}) s.vid.cams p c } }
/-- Change a camera pipeline. -/
def State.onCam (s : State) (p : Nat) (f : CamPipe → CamPipe) : State := s.setCam p (f (s.cam p))
/-- A feed beside its registers. -/
def State.feed (s : State) (f : Nat) : FeedRun := tblGet (fun _ => {}) s.vid.feeds f
/-- The state with a feed replaced. -/
def State.setFeed (s : State) (f : Nat) (x : FeedRun) : State := { s with vid := { s.vid with feeds := tblSet (fun _ => {}) s.vid.feeds f x } }
/-- Change a feed. -/
def State.onFeed (s : State) (f : Nat) (g : FeedRun → FeedRun) : State := s.setFeed f (g (s.feed f))
/-- A parameter set beside its registers. -/
def State.pset (s : State) (t : Nat) : ParamSet := tblGet (fun _ => {}) s.vid.sets t
/-- The state with a parameter set replaced. -/
def State.setPset (s : State) (t : Nat) (x : ParamSet) : State := { s with vid := { s.vid with sets := tblSet (fun _ => {}) s.vid.sets t x } }

/-- Width and height of a camera (Table 12-7). -/
def State.camW (s : State) (p : Nat) : Nat := bits (s.reg (camReg p 0xC)).toNat 0 13
/-- HEIGHT. -/
def State.camH (s : State) (p : Nat) : Nat := bits (s.reg (camReg p 0xC)).toNat 16 13
/-- PIX_DT. -/
def State.pixDt (s : State) (p : Nat) : Nat := bits (s.reg (camReg p 8)).toNat 4 6

/-- Commit registers of a set: 0 TGT_LO, 8 CTL, 0xC STAT, 0x10 APPLIED_FRAME, 0x18 LATE_CNT (Tables 14-4, 14-6). -/
def commitReg (t off : Nat) : Nat := if t < 4 then grdReg t (0x100 + off) else feedReg (t - 4) (0xE0 + off)
/-- STATE of COMMIT_STAT: 0 OPEN, 1 ARMED, 2 SYNC. -/
def fSetState (t : Nat) : Fld := ⟨commitReg t 0xC, 0, 2⟩
/-- APPLIED_ID of COMMIT_STAT. -/
def fAppliedId (t : Nat) : Fld := ⟨commitReg t 0xC, 16, 16⟩

/-- The set that an address shadows, if any (R407, R428). -/
def shadowSet (a : Nat) : Option Nat :=
  if 0x20100000 ≤ a ∧ a < 0x20140000 then
    let o := a % 0x10000
    if o = 0 ∨ o = 4 ∨ o = 8 ∨ (0x2000 ≤ o ∧ o < 0x2100) ∨ (0x4000 ≤ o ∧ o < 0x6208) ∨ (0x8000 ≤ o ∧ o < 0xC000) then
      some ((a - 0x20100000) / 0x10000)
    else none
  else if 0x20201000 ≤ a ∧ a < 0x20205000 then
    let o := (a - 0x20201000) % 0x800
    if (0x80 ≤ o ∧ o < 0xDC) ∨ (0x200 ≤ o ∧ o < 0x400 ∧ 0x40 ≤ o % 0x80) then some (4 + (a - 0x20201000) / 0x800) else none
  else none

/-- The shadow words of a set as an active bank: every word that is not zero. -/
def State.shadowBank (s : State) (t : Nat) : Table Word :=
  let listed := s.regs.filter (fun e => shadowSet e.1 = some t && e.2 ≠ 0#32)
  let a := if t < 4 then grdReg t 0 else feedReg (t - 4) 0xD0
  tblSet wordZero listed a (s.reg a)

/-- A word of the active ground set of a pipeline, by register offset; zero after reset (R437). -/
def State.grdActive (s : State) (p off : Nat) : Nat := (tblGet wordZero (s.cam p).active (grdReg p off)).toNat
/-- A word of the active feed set, by register offset. -/
def State.feedActive (s : State) (f off : Nat) : Nat := (tblGet wordZero (s.feed f).active (feedReg f off)).toNat

/-- Static-map entries of the shadow are strictly ascending and inside the image (R386). -/
def mapOk (w h : Nat) : List Nat → Bool
  | [] => true
  | a :: as =>
    decide (a < 16777216) && decide (a % 4096 < w) && decide (a / 4096 < h) &&
      (match as with | [] => true | b :: _ => decide (a < b)) && mapOk w h as

/-- The first failing check of Table 13-6 for the shadow ground set; 0 when all hold. -/
def State.grdSetCause (s : State) (p : Nat) : Nat :=
  let ctl := (s.reg (grdReg p 0)).toNat
  let count := bits (s.reg (grdReg p 4)).toNat 0 13
  if 4096 < count then 1
  else if mapOk (s.camW p) (s.camH p) ((List.range count).map (fun e => (s.reg (grdReg p (0x8000 + 4 * e))).toNat)) = false then 2
  else if bit ctl 3 && (decide (s.camW p < 2) || decide (s.camH p < 2)) then 3
  else if s.pixDt p = 0x1E && (decide (ctl % 32 ≠ 0) || decide (bits ctl 16 12 ≠ 0) || decide (bits (s.reg (grdReg p 0x18)).toNat 8 2 ≠ 0)) then 4
  else 0

/-- An FP32 word that is finite. -/
def finite32 (w : Nat) : Bool := match f32 w with | .fin _ _ _ => true | _ => false

/-- The feed-set rule: every FP32 field finite and QSCALE above zero (R430). -/
def State.feedSetOk (s : State) (f : Nat) : Bool :=
  let w (o : Nat) : Nat := (s.reg (feedReg f o)).toNat
  (List.range 12).all (fun i => finite32 (w (0x80 + 4 * i))) && (List.range 9).all (fun i => finite32 (w (0xB0 + 4 * i))) &&
    (FVal.fin false 0 0).lt (f32 (w 0xD0))

/-- An event bit of a feed's EVT register; of these a ground set reports SET_LATE only, in the first bit after those that Table 13-7
names (log entry 38). -/
def State.setEvent (s : State) (t bit_ : Nat) : State :=
  if 4 ≤ t then s.event (feedReg (t - 4) 0x40) (2 ^ bit_)
  else if bit_ = 4 then s.event (grdReg t 0xC0) 0x20
  else s

/-- The active set has been copied into the shadow (Table 14-3). -/
def State.setSync (s : State) (t : Nat) : State := if s.get (fSetState t) = 2 then s.set (fSetState t) 0 else s

/-- COMMIT (Table 14-3): T and ID are captured and the checks start. In SYNC the access stalls until OPEN. -/
def State.setCommit (s : State) (t : Nat) : State :=
  let s := s.setSync t
  if s.get (fSetState t) = 1 then s.setEvent t 6
  else (s.setPset t { tgt := s.reg64 (commitReg t 0), id := bits (s.reg (commitReg t 8)).toNat 16 16 }).set (fSetState t) 1

/-- Commit a parameter set with its ID and target. -/
def State.commitSet (s : State) (t id tgt : Nat) : State :=
  ((s.setReg64 (commitReg t 0) tgt).setReg (commitReg t 8) (BitVec.ofNat 32 (65536 * id))).setCommit t

/-- A boundary of frame `j` (R413, R429): an armed and checked set that is due will be applied at it. -/
def State.setBoundary (s : State) (t j : Nat) : State :=
  let x := s.pset t
  if s.get (fSetState t) = 1 && x.checked.isSome && x.due.isNone && decide (x.tgt ≤ j) then s.setPset t { x with due := some j } else s

/-- The boundary applies the set or refuses it (Table 14-3). -/
def State.setApply (s : State) (t : Nat) : State :=
  let x := s.pset t
  match x.due, x.checked with
  | some j, some true =>
    let bank := s.shadowBank t
    let s := if t < 4 then s.onCam t (fun c => { c with active := bank }) else s.onFeed (t - 4) (fun f => { f with active := bank })
    let s := ((s.set (fAppliedId t) x.id).setReg64 (commitReg t 0x10) j).set (fSetState t) 2
    let s := if x.tgt < j then (s.bump (commitReg t 0x18)).setEvent t 4 else s
    s.setPset t {}
  | some _, some false =>
    let s := if t < 4 then (s.event (grdReg t 0xC0) 0x10).set ⟨grdReg t 0xC4, 8, 4⟩ (s.grdSetCause t) else s.setEvent t 5
    (s.set (fSetState t) 0).setPset t {}
  | _, _ => s

/-- An armed set returns to OPEN without being applied: ABORT, EN cleared, or the tenant released (R430). -/
def State.setDisarm (s : State) (t : Nat) : State := if s.get (fSetState t) = 1 then (s.set (fSetState t) 0).setPset t {} else s

/-- ABORT: an armed set returns to OPEN; a boundary that already applies it goes first (Table 14-3, R436). -/
def State.setAbort (s : State) (t : Nat) : State :=
  (s.setApply t).setDisarm t

/-- A write of a shadowed word (Table 14-3): ignored in ARMED, held until OPEN in SYNC. -/
def State.shadowWrite (s : State) (t : Nat) (put : State → State) : State :=
  let s := s.setSync t
  if s.get (fSetState t) = 1 then s.setEvent t 7 else put s

/-- COMMIT of a parameter set. -/
def execParamSetCommit (t : Fin 12) (s : State) : Out := s.runGate (if t.val < 4 then 8 + t else 12) (fun s => .next (s.setCommit t))

/-- ABORT of a parameter set. -/
def execParamSetAbort (t : Fin 12) (s : State) : Out := s.runGate (if t.val < 4 then 8 + t else 12) (fun s => .next (s.setAbort t))

/-- The checks of an armed set finish (R430). -/
def execParamSetChecksDone (t : Fin 12) (s : State) : Out := s.run (fun s =>
  .next (
    if s.get (fSetState t) = 1 then
      let ok := if t.val < 4 then decide (s.grdSetCause t = 0) else s.feedSetOk (t - 4)
      s.setPset t { s.pset t with checked := some ok }
    else s))

/-- The boundary that is due applies the set or refuses it. -/
def execParamSetApply (t : Fin 12) (s : State) : Out := s.run (fun s => .next (s.setApply t))

/-- The copy of the active set into the shadow ends. -/
def execParamSetSyncDone (t : Fin 12) (s : State) : Out := s.run (fun s => .next (s.setSync t))

end Sys2Proof.Machine
end

