-- ==== Sys2Proof/Machine/Ring.lean ====
section
/-! DEFINITION. Ring: stripes, and the writer of stripe rings, headers and verdicts for ground destinations (4 * p + d) and
vision outputs (16 + f) (R395 to R402, R423). -/

namespace Sys2Proof.Machine

/-- A destination beside its registers. -/
def State.dest (s : State) (w : Nat) : RingDest := tblGet (fun _ => {}) s.vid.dests w
/-- The state with a destination replaced. -/
def State.setDest (s : State) (w : Nat) (d : RingDest) : State := { s with vid := { s.vid with dests := tblSet (fun _ => {}) s.vid.dests w d } }
/-- Change a destination. -/
def State.onDest (s : State) (w : Nat) (f : RingDest → RingDest) : State := s.setDest w (f (s.dest w))

/-- The configuration of a destination. -/
structure RingCfg where
  en : Bool
  first : Nat
  last : Nat
  sr : Nat
  halo : Nat
  height : Nat
  rowBytes : Nat
  stride : Nat
  ringLog : Nat
  win : Nat
  hdrLog : Nat
  hwin : Nat
  ring : Nat
  hdr : Nat
  chunk : Nat
  ten : Nat
  issuer : Nat
  deriving DecidableEq, Repr

/-- Stripe height of a code (R395). -/
def stripeRows (code : Nat) : Nat := if code = 0 then 16 else if code = 1 then 32 else 64

/-- Planes of a vision output: the selected ones in ascending order (R418). -/
def planesOf (mask : Nat) : List Nat := (List.range 4).filter (fun n => bit mask n)

/-- Bytes of one plane's segment of a vision row, padded to a multiple of 32 (R418). -/
def planeBytes (fmt ow : Nat) : Nat :=
  let n := if fmt = 0 then ow else if fmt = 1 then 2 * ow else bs8Run ((ow + 15) / 16 * 16)
  (n + 31) / 32 * 32

/-- `STAT` of a destination: HELD and FAILED. -/
def ringStat (w : Nat) : Nat := if w < 16 then grdReg (w / 4) (0x5C + 0x20 * (w % 4)) else feedReg (w - 16) 0x428
/-- HELD of a destination. -/
def fRingHeld (w : Nat) : Fld := ⟨ringStat w, 0, 16⟩
/-- FAILED of a destination. -/
def fRingFailed (w : Nat) : Fld := ⟨ringStat w, 31, 1⟩

/-- The configuration that the registers give a destination (Tables 13-7, 14-4). -/
def State.ringCfg (s : State) (w : Nat) : RingCfg :=
  let r (a : Nat) : Nat := (s.reg a).toNat
  if w < 16 then
    let p := w / 4
    let a := grdReg p (0x40 + 0x20 * (w % 4))
    let st := r (grdReg p 0x18)
    { en := bit (r a) 0, first := bits (r a) 8 8, last := bits (r a) 16 8, sr := stripeRows (bits st 0 2), halo := bits st 4 4,
      height := s.camH p, rowBytes := 2 * s.camW p, stride := r (grdReg p 0x1C), ringLog := bits (r (a + 4)) 0 5,
      win := bits (r (a + 4)) 8 4, hdrLog := bits (r (a + 4)) 16 5, hwin := bits (r (a + 4)) 24 4, ring := s.reg64 (a + 8),
      hdr := s.reg64 (a + 0x10), chunk := r (a + 0x18), ten := bits (r (camReg p 0x18)) 0 3, issuer := 8 + p }
  else
    let f := w - 16
    let v := r (feedReg f 0x400)
    let sr := stripeRows (bits v 9 2)
    let oh := bits (r (feedReg f 0x404)) 16 13
    { en := bit v 0, first := 0, last := (oh + sr - 1) / sr - 1, sr := sr, halo := bits v 11 4, height := oh,
      rowBytes := (planesOf (bits v 3 4)).length * planeBytes (bits v 7 2) (bits (r (feedReg f 0x404)) 0 13),
      stride := r (feedReg f 0x408), ringLog := bits (r (feedReg f 0x410)) 0 5, win := bits (r (feedReg f 0x410)) 8 4,
      hdrLog := bits (r (feedReg f 0x410)) 16 5, hwin := bits (r (feedReg f 0x410)) 24 4, ring := s.reg64 (feedReg f 0x414),
      hdr := s.reg64 (feedReg f 0x41C), chunk := r (feedReg f 0x424), ten := 7, issuer := 12 }

/-- First and last row of a destination (R396). -/
def RingCfg.row0 (c : RingCfg) : Nat := c.first * c.sr - c.halo
/-- Last row of a destination. -/
def RingCfg.row1 (c : RingCfg) : Nat := min c.height ((c.last + 1) * c.sr + c.halo) - 1
/-- ROWS_d. -/
def RingCfg.rows (c : RingCfg) : Nat := c.row1 + 1 - c.row0
/-- NS_d. -/
def RingCfg.stripes (c : RingCfg) : Nat := c.last + 1 - c.first
/-- First and last present row of stripe `k` (R395). -/
def RingCfg.top (c : RingCfg) (k : Nat) : Nat := k * c.sr - c.halo
/-- Last present row of stripe `k`. -/
def RingCfg.bottom (c : RingCfg) (k : Nat) : Nat := min c.height ((k + 1) * c.sr + c.halo) - 1
/-- Data-ring offset of a row of the frame with count `f` (R396). -/
def RingCfg.offset (c : RingCfg) (f y : Nat) : Nat := (c.rows * f + (y - c.row0)) * c.stride % 2 ^ c.ringLog
/-- SEQ of entry `e` of a frame (R399). -/
def RingCfg.seq (c : RingCfg) (id e : Nat) : Nat := (id * (c.stripes + 1) + e + 1) % 4294967296

/-- Destinations of a writer: those of pipeline `p` of the ground stage, or the one of a feed. -/
def writerDests (g : Nat) : List Nat := if g < 4 then (List.range 4).map (fun d => 4 * g + d) else [12 + g]

/-- The writer of a destination: 0 to 3 a ground stage, 4 + f a feed. -/
def writerOf (w : Nat) : Nat := if w < 16 then w / 4 else w - 12

/-- Destinations of a writer that run. -/
def State.liveDests (s : State) (g : Nat) : List Nat := (writerDests g).filter (fun w => (s.ringCfg w).en && !(s.dest w).failed)

/-- An event or a counter of a ground stage; a feed has none of them (Table 13-7). -/
def State.grdEvent (s : State) (g bits_ cnt : Nat) : State :=
  if g < 4 then
    let s := s.event (grdReg g 0xC0) bits_
    if cnt = 0 then s else s.bump (grdReg g cnt)
  else s

/-- A destination fails (R402): its writer stops. -/
def State.ringFail (s : State) (w : Nat) : State :=
  ((s.setDest w { failed := true }).set (fRingFailed w) 1).grdEvent (writerOf w) 8 0

/-- The chip's request of credit for a destination's data or header window (R397). -/
def State.ringRequest (s : State) (w : Nat) (hdr : Bool) (units : Nat) : State :=
  let c := s.ringCfg w
  let base := if hdr then c.hdr else c.ring
  let core := (palCore (gLocal base)).getD 0
  s.issue { dst := gNode base, kind := 4, nbytes := 6, issuer := c.issuer, ten := c.ten, addr := gLocal base,
            data := leBytes 2 ((if hdr then c.hwin else c.win) + 16 * core) ++ leBytes 4 (32 * units) } (.ringCredit w hdr)

/-- Request the data credit that R200 asks for, if it asks for any. -/
def State.ringAsk (s : State) (w : Nat) : State :=
  let c := s.ringCfg w
  let d := s.dest w
  let n := min c.chunk d.remain
  if c.en && !d.failed && d.pend = 0 && decide (2 * s.get (fRingHeld w) < c.chunk) && decide (0 < n) then
    (s.setDest w { d with pend := n, remain := d.remain - n }).ringRequest w false n
  else s

/-- Credit of a destination arrives (R201, R397): a grant also ends the wait of R402. -/
def State.ringGrant (s : State) (w : Nat) (hdr : Bool) (units : Nat) : State :=
  let d := s.dest w
  if hdr then s.setDest w { d with heldH := d.heldH + units, pendH := d.pendH - units, waited := if units = 0 then d.waited else 0 }
  else ((s.setDest w { d with pend := d.pend - units, waited := if units = 0 then d.waited else 0 }).set (fRingHeld w)
    (s.get (fRingHeld w) + units)).ringAsk w

/-- A destination waits for credit (R402). -/
def RingDest.waiting (d : RingDest) : Bool := decide (0 < d.pend) || decide (0 < d.pendH)

/-- An epoch boundary falls while a destination waits for credit (R402). -/
def State.ringBoundary (s : State) (w : Nat) : State := s.onDest w (fun d => if d.waiting then { d with waited := d.waited + 1 } else d)

/-- A frame opens at a destination: REMAIN is reloaded with the units of its rows, whatever is left of it (R397). -/
def State.ringOpen (s : State) (w : Nat) : State :=
  let c := s.ringCfg w
  s.onDest w (fun d => { d with remain := (c.rows * c.stride + 31) / 32, lost := [], stripe := c.first })

/-- Rows of a writer that stand in its output buffer, each once: frame and number, and the bytes not yet written at every destination. -/
def State.bufferedRows (s : State) (g : Nat) : List ((Nat × Nat) × Nat) :=
  let rows := (s.liveDests g).flatMap (fun w => (s.dest w).rows)
  let left (k : Nat × Nat) : Nat :=
    (rows.filter (fun r => (r.frame, r.y) = k)).foldl (fun n r => max n (r.data.length - r.done)) 0
  ((rows.map (fun r => (r.frame, r.y))).eraseDups).map (fun k => (k, left k))

/-- A row of frame count `f` reaches the writer (R396, R398): it takes its place at every destination whose range holds it,
as data or as a dropped row. -/
def State.ringRow (s : State) (g f y : Nat) (data : List Byte) (lost : Bool) : State :=
  let ws := (s.liveDests g).filter (fun w => decide ((s.ringCfg w).row0 ≤ y) && decide (y ≤ (s.ringCfg w).row1))
  let full := decide (131072 < (s.bufferedRows g).foldl (fun n r => n + r.2) data.length)
  let s := if !lost && full && !ws.isEmpty then s.grdEvent g 4 0xD4 else s
  let gone := lost || full
  ws.foldl (fun s w => s.onDest w (fun d =>
    { d with rows := d.rows ++ [({ frame := f, y := y, data := if gone then [] else data, dropped := gone } : RingRow)],
             lost := if gone then d.lost ++ [y] else d.lost })) s

/-- Queue an entry for the header ring; a queue of 64 entries that is full fails the destination (R402). -/
def State.ringHead (s : State) (w : Nat) (h : RingHead) : State :=
  if 64 ≤ (s.dest w).heads.length then s.ringFail w else s.onDest w (fun d => { d with heads := d.heads ++ [h] })

/-- The header of stripe `k` (Table 13-3). -/
def stripeWords (c : RingCfg) (i : StripeInfo) (lost : List Nat) (k : Nat) : List Nat :=
  let inside (y : Nat) : Bool := decide (c.top k ≤ y) && decide (y ≤ c.bottom k)
  let void := i.void || lost.any inside
  let bad := min 255 (i.badRows.filter inside).length
  [c.seq i.id (k - c.first), 2 * b2n void + 4 * i.mos + 256 * bad + 65536 * k, i.id % 4294967296, i.id / 4294967296,
   i.fsT % 4294967296, i.fsT / 4294967296, i.tag % 65536 + 65536 * i.gstep, c.offset i.count (c.top k),
   c.top k + 65536 * (c.bottom k + 1 - c.top k), 0, 0, 0, 0, 0, 0, 0]

/-- The verdict of a frame (Table 13-3). -/
def verdictWords (c : RingCfg) (i : StripeInfo) (flags sig : Nat) : List Nat :=
  [c.seq i.id c.stripes, 1 + 2 * b2n i.void + 4 * i.mos + 256 * min 255 i.badRows.length + 0xFFFF0000, i.id % 4294967296,
   i.id / 4294967296, i.fsT % 4294967296, i.fsT / 4294967296, i.tag % 65536 + 65536 * i.gstep, 0, 0, flags, sig, 0, 0, 0, 0, 0]

/-- Queue the headers of the stripes whose last present row is at most `y` (R395, R399). -/
def State.ringStripes (s : State) (w y : Nat) (i : StripeInfo) : Nat → State
  | 0 => s
  | n + 1 =>
    let c := s.ringCfg w
    let d := s.dest w
    if d.failed || decide (c.last < d.stripe) || decide (y < c.bottom d.stripe) then s
    else
      let h : RingHead := { frame := i.count, entry := d.stripe - c.first, last := c.bottom d.stripe, words := stripeWords c i d.lost d.stripe }
      ((s.ringHead w h).onDest w (fun d => { d with stripe := d.stripe + 1 })).ringStripes w y i n

/-- Row `y` of the open frame has left step 5 or has been lost: it is queued and the stripes it completes get their headers. -/
def State.ringPut (s : State) (g y : Nat) (data : List Byte) (lost : Bool) (i : StripeInfo) : State :=
  let s := s.ringRow g i.count y data lost
  (s.liveDests g).foldl (fun s w => s.ringStripes w y i ((s.ringCfg w).stripes)) s

/-- The entries of a frame that wait become void (R400). -/
def State.ringVoid (s : State) (g f : Nat) : State :=
  (s.liveDests g).foldl (fun s w => s.onDest w (fun d => { d with heads := d.heads.map (fun (h : RingHead) =>
    if h.frame = f then { h with words := h.words.set 1 ((h.words.getD 1 0) ||| 2) } else h) })) s

/-- The frame's record has latched: rows from `y` on that never came are dropped, every stripe gets its header and the frame
its verdict (R399 to R401). -/
def State.ringEnd (s : State) (g y height : Nat) (i : StripeInfo) (flags sig : Nat) : State :=
  let s := if i.void then s.ringVoid g i.count else s
  let s := (List.range (height - y)).foldl (fun s k => s.ringPut g (y + k) [] true i) s
  (s.liveDests g).foldl (fun s w =>
    let c := s.ringCfg w
    s.ringHead w { frame := i.count, entry := c.stripes, last := c.row1, words := verdictWords c i flags sig }) s

/-- One WRITE_STREAM packet of a destination (R397). -/
def RingCfg.packet (c : RingCfg) (base off : Nat) (data : List Byte) : Packet :=
  { dst := gNode base, tc := 1, kind := 0, nbytes := data.length, ten := c.ten, addr := gLocal base + off, data := data }

/-- Present one packet of a destination to the injection stage, under the number of its writer (R397). -/
def State.ringSend (s : State) (w base off : Nat) (data : List Byte) : State :=
  s.present (8 + writerOf w) 0 none ((s.ringCfg w).packet base off data) none

/-- Write as much of the row in front as its credit allows: packets of at most 512 bytes that cross no 512-byte boundary and
no ring end, then the part of ROW_STRIDE that is left unwritten (R397, R398). -/
def State.ringRowWrite (s : State) (w : Nat) : Nat → State
  | 0 => s
  | n + 1 =>
    let c := s.ringCfg w
    let d := s.dest w
    match d.rows with
    | [] => s
    | r :: rest =>
      let held := s.get (fRingHeld w)
      let len := r.data.length
      let put (s : State) (units bytes : Nat) : State :=
        let k := r.done + bytes
        ((s.set (fRingHeld w) (held - units)).onDest w (fun d =>
          { d with rows := if c.stride ≤ k then rest else { r with done := k } :: rest })).ringAsk w
      if r.done < len then
        let off := (c.offset r.frame r.y + r.done) % 2 ^ c.ringLog
        let whole := min (len - r.done) (min (512 - off % 512) (2 ^ c.ringLog - off))
        let need := (whole + 31) / 32
        if need ≤ held then
          let s := s.ringSend w c.ring off ((r.data.drop r.done).take whole)
          (put s need (if r.done + whole < len then whole else 32 * need)).ringRowWrite w n
        else if 0 < held && decide (c.chunk ≤ 2 * held) then
          let s := s.ringSend w c.ring off ((r.data.drop r.done).take (32 * held))
          (put s held (32 * held)).ringRowWrite w n
        else s
      else
        let k := min held ((c.stride - r.done + 31) / 32)
        if k = 0 then (if c.stride ≤ r.done then s.onDest w (fun d => { d with rows := rest }) else s)
        else (put s k (32 * k)).ringRowWrite w n

/-- Write the entry in front of the header queue, once its rows are written or consumed and 2 units of credit are held
(R397, R399, R400). `verdict` says which kind of entry the step writes. -/
def State.ringHeadWrite (s : State) (w : Nat) (verdict : Bool) : State :=
  let c := s.ringCfg w
  let d := s.dest w
  match d.heads with
  | [] => s
  | h :: rest =>
    if (h.entry = c.stripes) ≠ verdict || d.rows.any (fun r => r.frame = h.frame && decide (r.y ≤ h.last)) then s
    else if d.heldH < 2 then
      if d.pendH = 0 then (s.setDest w { d with pendH := 2 }).ringRequest w true 2 else s
    else
      let word1 := (h.words.getD 1 0) ||| (if verdict && d.voidSent.contains h.frame then 2 else 0)
      let void := bit word1 1
      let off := ((c.stripes + 1) * h.frame + h.entry) * 64 % 2 ^ c.hdrLog
      let s := s.ringSend w c.hdr off ((h.words.set 1 word1).flatMap (fun x => leBytes 4 x))
      let s := s.setDest w { d with heads := rest, heldH := d.heldH - 2,
                                    voidSent := if verdict then d.voidSent.filter (fun f => f ≠ h.frame)
                                                else if void then h.frame :: d.voidSent else d.voidSent }
      if void && !verdict then s.grdEvent (writerOf w) 2 0xD8 else s

/-- The writer sends a row's packets, after the credit request that is due (R397). -/
def execStripeRowWrite (w : Fin 24) (s : State) : Out := s.run (fun s => .next ((s.ringAsk w).ringRowWrite w 300))

/-- The writer writes a stripe's header (R399). -/
def execStripeHeaderWrite (w : Fin 24) (s : State) : Out := s.run (fun s => .next (s.ringHeadWrite w false))

/-- The writer writes a frame's verdict (R399). -/
def execVerdictWrite (w : Fin 24) (s : State) : Out := s.run (fun s => .next (s.ringHeadWrite w true))

/-- A destination without a grant across 2 boundaries, or with a full header queue, fails (R402). -/
def execDestFail (w : Fin 24) (s : State) : Out := s.run (fun s =>
  let d := s.dest w
  .next (if !d.failed && ((d.waiting && decide (2 ≤ d.waited)) || decide (64 ≤ d.heads.length)) then s.ringFail w else s))

end Sys2Proof.Machine
end

