-- ==== Sys2Proof/Machine/Ground.lean ====
section
/-! DEFINITION. Ground: the pixel path of a ground stage (R378 to R393) and the obscuration diagnostic (R394). -/

namespace Sys2Proof.Machine

/-- A code of Table 13-7 for a period: 1, 2 or 4. -/
def periodOf (code : Nat) : Nat := if code = 0 then 1 else if code = 1 then 2 else 4

/-- PH and PW of a pipeline (R382). -/
def State.ph (s : State) (p : Nat) : Nat := periodOf (bits (s.reg (grdReg p 0x14)).toNat 0 2)
/-- PW. -/
def State.pw (s : State) (p : Nat) : Nat := periodOf (bits (s.reg (grdReg p 0x14)).toNat 2 2)

/-- Colour phase of pixel (y, x) (R382). -/
def State.phase (s : State) (p y x : Nat) : Nat := bits (s.reg (grdReg p 0x10)).toNat (8 * (y % s.ph p) + 2 * (x % s.pw p)) 2

/-- Saturate an intermediate value (R379). -/
def satS (v : Int) : Int := max (-131072) (min 131071 v)

/-- A switch of the active CTL: 0 BL_EN, 1 DPC_S_EN, 2 DPC_D_EN, 3 LSC_EN, 4 STAT_EN. -/
def State.grdOn (s : State) (p i : Nat) : Bool := bit (s.grdActive p 0) i
/-- GSTEP in force. -/
def State.gstep (s : State) (p : Nat) : Nat := bits (s.grdActive p 0) 8 4

/-- Step 1: black level (R384). -/
def State.blackLevel (s : State) (p y x v : Nat) : Int :=
  if s.grdOn p 0 then
    let e := s.grdActive p (0x2000 + 4 * (4 * s.gstep p + s.phase p y x))
    satS (roundDiv (((v : Int) - (e % 65536 : Nat)) * (e / 65536 : Nat)) 32768)
  else v

/-- Columns of the static map in row `y` (R386). -/
def State.deadColumns (s : State) (p y : Nat) : List Nat :=
  let n := bits (s.grdActive p 4) 0 13
  (s.cam p).active.filterMap (fun e =>
    if e.1 ≥ grdReg p 0x8000 && e.1 < grdReg p (0x8000 + 4 * n) && decide (e.2.toNat / 4096 = y) then some (e.2.toNat % 4096) else none) ++
  (if y = 0 && decide (0 < n) && s.grdActive p 0x8000 = 0 then [0] else [])

/-- Mean of candidates, rounded to nearest even (R387). -/
def meanOf (xs : List Int) : Option Int :=
  if xs.isEmpty then none else some (roundDiv (xs.foldl (· + ·) 0) xs.length)

/-- Step 2 for the pixel at `x` (R387 to R389): `done` holds the corrected values so far, newest first, `above` the corrected
row one period above, `row` the values before correction. -/
def State.dpcPixel (s : State) (p pw : Nat) (dead : List Nat) (above : Option (List Int)) (row : List Int) (w x : Nat) (done : CorrRow) : CorrRow :=
  let v := row.getD x 0
  let left := if pw ≤ x then [done.out.getD (pw - 1) 0] else []
  let up (dx : Int) : List Int :=
    match above with
    | none => []
    | some r => if 0 ≤ (x : Int) + dx ∧ (x : Int) + dx < w then [r.getD ((x : Int) + dx).toNat 0] else []
  let right := if x + pw < w then [row.getD (x + pw) 0] else []
  let goodRight := if dead.contains (x + pw) then [] else right
  let fix (d : CorrRow) : CorrRow :=
    match meanOf (left ++ up 0 ++ goodRight) with
    | some m => { d with out := m :: d.out }
    | none => { d with out := v :: d.out, none_ := d.none_ + 1 }
  if s.grdOn p 1 && dead.contains x then fix { done with st := done.st + 1 }
  else if s.grdOn p 2 && !dead.contains x then
    let ns := left ++ right ++ up (-(pw : Int)) ++ up 0 ++ up pw
    let mx := ns.foldl max (ns.headD 0)
    let mn := ns.foldl min (ns.headD 0)
    let t : Int := (s.grdActive p 8 % 65536 : Nat) + max mx 0 * (bits (s.grdActive p 4) 16 8 : Nat) / 256
    if 3 ≤ ns.length && (decide (mx + t < v) || decide (v < mn - t)) then fix { done with dy := done.dy + 1 }
    else { done with out := v :: done.out }
  else { done with out := v :: done.out }

/-- Step 2 for a row (R386 to R389). A pixel of the static map is no candidate RT and is not tested, whatever DPC_S_EN is (DEDUCED, log
entry 38). -/
def State.dpcRow (s : State) (p y : Nat) (row : List Int) : CorrRow :=
  let above := if s.ph p ≤ y then some ((s.cam p).corr.getD (s.ph p - 1) {}).out else none
  let dead := if s.grdOn p 1 || s.grdOn p 2 then s.deadColumns p y else []
  let d := (List.range row.length).foldl (fun d x => s.dpcPixel p (s.pw p) dead above row row.length x d) {}
  { d with out := d.out.reverse }

/-- n / d in FP32, rounded to nearest even, for 0 ≤ n and 0 < d. -/
def quot32 (n d : Nat) : Nat :=
  let q := n * 2 ^ 64 / d
  let r := n * 2 ^ 64 % d
  toF32 (.fin false (2 * q + (if r = 0 then 0 else 1)) (-65))

/-- An unsigned gain with 14 fraction bits as FP32 (R390). -/
def gain32 (v : Nat) : Nat := toF32 (.fin false v (-14))

/-- Gain G[phase][i][j] of the active grid, as FP32 (R390). -/
def State.lscGain (s : State) (p ph i j : Nat) : Nat :=
  let b := 2 * ((ph * 33 + i) * 33 + j)
  gain32 (bits (s.grdActive p (0x4000 + b / 4 * 4)) (8 * (b % 4)) 16)

/-- Grid cell and fraction of a coordinate (R390). -/
def lscCell (x w : Nat) : Nat × Nat :=
  let j := 32 * x / (w - 1)
  if j = 32 then (31, 0x3F800000) else (j, quot32 (32 * x - j * (w - 1)) (w - 1))

/-- a + t * (b - a), each step rounded (R390, R416). -/
def lerp32 (t a b : Nat) : Nat := fadd a (fmul t (fadd b (a ^^^ 0x80000000)))
-- b - a is the sum of b and the negated a.

/-- Step 3: lens shading (R390). -/
def State.lensShade (s : State) (p y x : Nat) (v : Int) : Int :=
  if s.grdOn p 3 then
    let (j, fu) := lscCell x (s.camW p)
    let (i, fv) := lscCell y (s.camH p)
    let ph := s.phase p y x
    let g (a b : Nat) : Nat := s.lscGain p ph a b
    let top := lerp32 fu (g i j) (g i (j + 1))
    let bot := lerp32 fu (g (i + 1) j) (g (i + 1) (j + 1))
    ((FVal.ofInt v).mul (f32 (lerp32 fv top bot))).toInt (-131072) 131071
  else v

/-- Zone of a coordinate: the last `c` with floor(c * n / 8) ≤ x (R391). -/
def zoneOf (n x : Nat) : Nat := ((List.range 8).filter (fun c => decide (c * n / 8 ≤ x))).length - 1

/-- Add to a zone sum, saturating (R392). -/
def addZone (z : Table Nat) (i v : Nat) : Table Nat := tblSet (fun _ => 0) z i (min 0xFFFFFFFF (tblGet (fun _ => 0) z i + v))

/-- Step 4: the zone sums of a row (R391, R392). -/
def State.rowStats (s : State) (p y : Nat) (row : List Int) : Table Nat :=
  let z := (s.cam p).zones
  let pw := s.pw p
  let want := bits (s.reg (grdReg p 0x14)).toNat 4 2
  match (List.range pw).find? (fun c => s.phase p y c = want) with
  | none => z
  | some c0 =>
    let n := (row.length + pw - 1 - c0) / pw
    let u (i : Nat) : Int := row.getD (c0 + i * pw) 0
    let sh := bits (s.grdActive p 0) 5 3
    (List.range n).foldl (fun z i =>
      let zone := 8 * zoneOf (s.camH p) y + zoneOf (s.camW p) (c0 + i * pw)
      let z := if 1 ≤ i ∧ i + 1 < n then addZone z (2 * zone) ((2 * u i - u (i - 1) - u (i + 1)).natAbs / 2 ^ sh) else z
      if 4 ≤ i ∧ i + 4 < n then
        let h := 2 * (u (i - 1) + u i + u (i + 1)) - (u (i - 4) + u (i - 3) + u (i - 2)) - (u (i + 2) + u (i + 3) + u (i + 4))
        addZone z (2 * zone + 1) (h.natAbs / 2 ^ sh)
      else z) z

/-- Step 5: pedestal and output format (R380): two bytes per sample. -/
def State.groundOut (s : State) (p : Nat) (v : Int) : List Byte :=
  let o := (max 0 (min 65535 (v + (bits (s.grdActive p 0) 16 12 : Nat)))).toNat
  let fmt := bits (s.reg (grdReg p 0x18)).toNat 8 2
  leBytes 2 (if fmt = 0 then o else if fmt = 1 then toLog12 o else if fmt = 2 then fp16.encode true (u16Val o) else bf16.encode true (u16Val o))

/-- A corrected row `y` enters the zone sums and the counters and gets its output format: the state, and the row's bytes (R378, R391,
R396). The writer writes bytes 0 to 2 * WIDTH - 1 of a row. -/
def State.groundPut (s : State) (p y : Nat) (d : CorrRow) : State × List Byte :=
  let z := if s.grdOn p 4 then s.rowStats p y d.shaded else (s.cam p).zones
  let out := d.shaded.flatMap (s.groundOut p)
  let s := s.onCam p (fun c => { c with zones := z, corr := (d :: c.corr).take 4 })
  (((s.bumpBy (grdReg p 0xC8) d.st).bumpBy (grdReg p 0xCC) d.dy).bumpBy (grdReg p 0xD0) d.none_, out.take (2 * s.camW p))

/-- A row of U16 samples passes the ground stage up to step 5 (R378). -/
def State.groundRow (s : State) (p y : Nat) (vs : List Nat) : State × List Byte :=
  let black := (List.range vs.length).map (fun (x : Nat) => s.blackLevel p y x (vs.getD x 0))
  let d := s.dpcRow p y black
  s.groundPut p y { d with shaded := (List.range vs.length).map (fun (x : Nat) => s.lensShade p y x (d.out.getD x 0)) }

/-- A line that ingress replaced by the line one period above passes every correction as the row it copies, so that each gives what it
gave there (R409). -/
def State.groundCopy (s : State) (p y : Nat) : State × List Byte := s.groundPut p y ((s.cam p).corr.getD (s.ph p - 1) {})

/-- The zone sums latch with the record (R393): the newest bank becomes the previous one. -/
def State.statsLatch (s : State) (p id : Nat) (void : Bool) : State :=
  if s.grdOn p 4 then
    let z := (s.cam p).zones
    let s := (List.range 128).foldl (fun s i =>
      (s.setReg (grdReg p (0x1200 + 4 * i)) (s.reg (grdReg p (0x1000 + 4 * i)))).setReg (grdReg p (0x1000 + 4 * i))
        (BitVec.ofNat 32 (tblGet (fun _ => 0) z i))) s
    let s := ((s.setReg64 (grdReg p 0xE0) id).setReg (grdReg p 0xE8) (BitVec.ofNat 32 (b2n void))).event (grdReg p 0xC0) 1
    s.onCam p (fun c => { c with zones := [], obs := if void then c.obs else { c.obs with fresh := true } })
  else s.onCam p (fun c => { c with zones := [] })

/-! ## Obscuration (R394) -/

/-- E1 or E2 of a zone in the newest bank. -/
def State.zoneSum (s : State) (p z e : Nat) : Nat := (s.reg (grdReg p (0x1000 + 8 * z + 4 * e))).toNat

/-- One frame's step of the diagnostic (R394): the new record. The mean and the move of a baseline round to nearest even (R263). -/
def State.obscureStep (s : State) (p : Nat) : Obscure :=
  let e (k z : Nat) : Nat := s.zoneSum p z k
  let o : Obscure := { (s.cam p).obs with fresh := false }
  if o.st = 1 then
    let n := o.learnt + 1
    let done := decide (o.learn ≤ n)
    let mean (b : List Nat) (k : Nat) : List Nat := (List.range 64).map (fun z =>
      let sum := b.getD z 0 + 256 * e k z
      if done then (roundDiv sum n).toNat else sum)
    { o with learnt := n, b1 := mean o.b1 0, b2 := mean o.b2 1, st := if done then 0 else 1 }
  else
    let dull (z : Nat) : Bool := decide (256 * o.divDull * e 0 z < o.b1.getD z 0)
    let zs := (List.range 64).filter dull
    let move (b : List Nat) (k : Nat) : List Nat := (List.range 64).map (fun z =>
      let v := b.getD z 0
      if dull z then v else ((v : Int) + roundDiv (256 * (e k z : Int) - v) 256).toNat)
    let low := (zs.filter (fun z => decide (256 * o.divLow * e 1 z < o.b2.getD z 0))).length
    let bad : Nat := if o.zonesOn ≤ zs.length then o.bad + 1 else 0
    let good : Nat := if zs.length < o.zonesOff then o.good + 1 else 0
    let n : Nat := if s.tim.rate25 then o.frames25 else o.frames30
    let st := if o.st = 0 && decide (n ≤ bad) then (if zs.length < 2 * low then 3 else 2)
      else if 2 ≤ o.st && decide (n ≤ good) then 0 else o.st
    { o with b1 := move o.b1 0, b2 := move o.b2 1, bad := bad, good := good, dull := zs.length, st := st }

/-- CAMERA_STATE (Table 17-14): 0 clear, 1 learning, 2 soiled, 3 blinded, 4 frozen. -/
def State.cameraState (s : State) (p st : Nat) : State :=
  let t := bits (s.reg (camReg p 0x18)).toNat 0 3
  s.kmpEvent 0x8401 (leBytes 1 s.node ++ leBytes 1 p ++ leBytes 1 st) (if t < 4 then some t else none)

/-- Firmware evaluates a frame's zone sums (R394): a newly obscured camera is a safety event of mechanism 0x14. -/
def execObscurationCheck (p : Fin 4) (s : State) : Out := s.run (fun s =>
  let o := (s.cam p).obs
  .next (
    if s.grdOn p 4 && o.fresh && s.reg (grdReg p 0xE8) = 0#32 then
      let n := s.obscureStep p
      let s := s.onCam p (fun c => { c with obs := n })
      let s := if n.st ≠ o.st then s.cameraState p n.st else s
      if 2 ≤ n.st && decide (o.st < 2) then s.safety 0x14 p else s
    else s))

end Sys2Proof.Machine
end

