-- ==== Sys2Proof/Machine/Camera.lean ====
section
/-! DEFINITION. Camera: frames, lines, frame records, the settings engine and the switching of a camera pipeline (12). -/

namespace Sys2Proof.Machine

/-- `CAM_p_EVT`. -/
def aCamEvt (p : Nat) : Nat := camReg p 0x20
/-- EN of `CAM_p_CTL`. -/
def fCamEn (p : Nat) : Fld := ⟨camReg p 0, 0, 1⟩
/-- RX of `CAM_p_STAT`: 0 OFF, 1 STOP, 2 HS, 3 ULPS. -/
def fCamRx (p : Nat) : Fld := ⟨camReg p 0x1C, 0, 3⟩
/-- IN_FRAME of `CAM_p_STAT`. -/
def fInFrame (p : Nat) : Fld := ⟨camReg p 0x1C, 3, 1⟩
/-- FSYNC_SEL of `CAM_p_FRAME`. -/
def fFsyncSel (p : Nat) : Fld := ⟨camReg p 0x10, 0, 2⟩
/-- SYNCED. -/
def fSynced (p : Nat) : Fld := ⟨camReg p 0x10, 2, 1⟩
/-- GROUP. -/
def fGroup (p : Nat) : Fld := ⟨camReg p 0x10, 3, 4⟩
/-- SET_DELAY. -/
def fDelay (p : Nat) : Fld := ⟨camReg p 0x10, 7, 2⟩
/-- PHASE_ROWS. -/
def fPhaseRows (p : Nat) : Fld := ⟨camReg p 0x10, 9, 2⟩
/-- BAD_LINE_MAX. -/
def fBadMax (p : Nat) : Fld := ⟨camReg p 0x10, 16, 8⟩
/-- PIX_VC of `CAM_p_FILT`. -/
def fPixVc (p : Nat) : Fld := ⟨camReg p 8, 0, 4⟩
/-- EMB_VC. -/
def fEmbVc (p : Nat) : Fld := ⟨camReg p 8, 10, 4⟩
/-- EMB_EN of `CAM_p_FILT`. -/
def fEmbEn (p : Nat) : Fld := ⟨camReg p 8, 14, 1⟩
/-- QUEUED, BUSY and LAST_ID of `CAM_p_SET_STAT`. -/
def fQueued (p : Nat) : Fld := ⟨camReg p 0x98, 0, 3⟩
/-- BUSY. -/
def fSetBusy (p : Nat) : Fld := ⟨camReg p 0x98, 3, 1⟩
/-- LAST_ID. -/
def fLastId (p : Nat) : Fld := ⟨camReg p 0x98, 16, 16⟩

/-- A pipeline receives: EN is set and its clock runs. -/
def State.camOn (s : State) (p : Nat) : Bool := s.get (fCamEn p) = 1 && s.clocked (8 + p)

/-- A one-bit error of a packet header was corrected (Table 12-9). -/
def State.eccFixed (s : State) (p : Nat) (ecc : Bool) : State := if ecc then s.bump (camReg p 0x40) else s

/-- A packet that no filter keeps (R355). -/
def State.camDiscard (s : State) (p : Nat) : State := s.bump (camReg p 0x5C)

/-- A packet has the virtual channel PIX_VC (R355). -/
def State.onPixVc (s : State) (p : Nat) (h : CsiHead) : Bool := decide (h.vc.val = s.get (fPixVc p))

/-- The filter keeps or ignores a packet (R355). -/
def State.camKeeps (s : State) (p : Nat) (h : CsiHead) : Bool :=
  (s.onPixVc p h && (decide (h.dt.val ≤ 3) || decide (h.dt.val = s.pixDt p))) ||
    (decide (h.vc.val = s.get (fEmbVc p)) && decide (h.dt.val = 0x12) && decide (s.get (fEmbEn p) = 1))

/-! ## Edges and windows (R360) -/

/-- MIN and MAX of `CAM_p_FS_WIN` in ns. -/
def State.fsWin (s : State) (p : Nat) : Nat × Nat :=
  let w := (s.reg (camReg p 0x14)).toNat
  (1000 * (w % 65536), 1000 * (w / 65536))

/-- Time of edge j of the pipeline's FSYNC output: as it was awaited, else by the configuration in force. -/
def State.camEdge (s : State) (p j : Nat) : Nat :=
  (((s.cam p).edges.find? (fun e => e.1 = j)).map (fun e => e.2)).getD (s.edgeTime (s.get (fFsyncSel p)) j)

/-- The present instant lies in the window of the edge at time `t` (R360). -/
def State.inWindow (s : State) (p t : Nat) : Bool := decide (t + (s.fsWin p).1 ≤ s.ctNs) && decide (s.ctNs ≤ t + (s.fsWin p).2)

/-- The awaited edge in whose window the present instant lies, if any. -/
def State.windowEdge (s : State) (p : Nat) : Option (Nat × Nat) := (s.cam p).edges.find? (fun e => s.inWindow p e.2)

/-! ## Frame records (R361, R364, R365, R369, R372) -/

/-- The tag in force at frame `j`: the ID of the last set in effect, 0 for none (R369). -/
def CamPipe.tag (c : CamPipe) (j : Nat) : Nat :=
  (c.marks.findSome? (fun m => if m.1 ≤ j then m.2 else none)).getD 0

/-- A set has failed and no whole set has taken effect since, at frame `j` (R370). -/
def CamPipe.setFail (c : CamPipe) (j : Nat) : Bool :=
  match c.marks.find? (fun m => decide (m.1 ≤ j)) with
  | some (_, none) => true
  | _ => false

/-- A field of the embedded data: enabled, offset and length (R371). -/
def State.embField (s : State) (p f : Nat) : Bool × Nat × Nat :=
  let w := (s.reg (camReg p (0xA0 + 4 * f))).toNat
  (bit w 14, bits w 0 12, bits w 12 2 + 1)

/-- The value of an embedded field, most significant byte first; none beyond the received bytes. -/
def embValue (bs : List Byte) (off len : Nat) : Option Nat :=
  if off + len ≤ bs.length then some (leNat ((slice bs off len).reverse)) else none

/-- Enabled fields that an image defines, with the expected value truncated to the field's length (R371, R372). -/
def State.embWanted (s : State) (p : Nat) (img : List (Option Nat)) : List (Nat × Nat × Nat) :=
  (List.range 8).filterMap (fun f =>
    let (en, off, len) := s.embField p f
    match img.getD f none with
    | some v => if en then some (off, len, v % 256 ^ len) else none
    | none => none)

/-- The outcome of Table 12-6: TAG, flag bits, and whether it is a mismatch. -/
def State.embOutcome (s : State) (p : Nat) (c : CamPipe) (tag : Nat) : Nat × Nat × Bool :=
  let wanted (i : Nat × List (Option Nat)) := s.embWanted p i.2
  let matches_ (i : Nat × List (Option Nat)) : Bool :=
    !(wanted i).isEmpty && (wanted i).all (fun x => embValue c.emb x.1 x.2.1 = some x.2.2)
  let beyond := c.images.any (fun i => (wanted i).any (fun x => (embValue c.emb x.1 x.2.1).isNone))
  if s.get (fEmbEn p) = 0 || c.images.all (fun i => (wanted i).isEmpty) then (tag, 0, false)
  else if beyond then (tag, 0x40, true)
  else if c.images.any (fun i => i.1 = tag && matches_ i) then (tag, 0x10, false)
  else match c.images.filter matches_ with
    | [i] => (i.1, 0x20, true)
    | _ => (tag, 0x40, true)

/-- What the ground stage's entries carry of a frame. -/
def State.stripeInfo (s : State) (p : Nat) (f : CamFrame) (tag : Nat) (void : Bool) : StripeInfo :=
  { id := f.id, fsT := f.fsT, tag := tag, gstep := s.gstep p, mos := bits (s.reg (grdReg p 0x14)).toNat 8 3, count := f.count,
    badRows := f.badRows, void := void }

/-- Rows of the frame that wait in the output buffer, or are written in part, count as dropped (R401): what is left of them is consumed. -/
def State.ringDropWaiting (s : State) (g f : Nat) : State :=
  (s.liveDests g).foldl (fun s w => s.onDest w (fun d => { d with rows := d.rows.map (fun (r : RingRow) =>
    if r.frame = f then { r with dropped := true, data := r.data.take r.done } else r) })) s

/-- A frame void with cause 1: its rows are dropped, its stripe headers are void and its verdict follows (R397, R401). -/
def State.ringNoFrame (s : State) (p : Nat) (i : StripeInfo) (flags sig : Nat) : State :=
  ((s.liveDests p).foldl (fun s w => s.ringOpen w) s).ringEnd p 0 (s.camH p) i flags sig

/-- Latch the record of a frame with a void cause, 0 for a good frame (R361, R364, R365, R369, R372, R393, R401). The ring entries of an
edge without a frame follow those of a frame that is still open (R399). -/
def State.latchRecord (s : State) (p : Nat) (f : CamFrame) (cause : Nat) : State :=
  let c := s.cam p
  let void := decide (cause ≠ 0)
  let sig := (~~~ f.sig).toNat
  let (tag, emb, mismatch) := if void then (c.tag f.id, 0, false) else s.embOutcome p c (c.tag f.id)
  let frozen := !void && c.lastSig == some sig
  let flags := b2n void + 2 * cause + emb + 128 * b2n (c.setFail f.id) + 256 * b2n frozen + 512 * b2n f.drop + 65536 * min 255 f.bad
  let s := s.event (aCamEvt p) (1 + 2 * b2n void + 512 * b2n mismatch + 1024 * b2n frozen)
  let s := if void then s.bump (camReg p 0x50) else s
  let s := if mismatch then s.bump (camReg p 0x64) else s
  let s := if frozen then (((s.bump (camReg p 0x68)).safety 0x13 p).cameraState p 4) else s
  let close := if s.get (fSynced p) = 1 then s.camEdge p (f.id + 1) - 1000 * ((s.reg (camReg p 0x84)).toNat % 65536)
    else s.ctNs + 1000 * ((s.reg (camReg p 0x84)).toNat / 65536)
  let s := s.setCam p
    { s.cam p with record := [f.id % 4294967296, f.id / 4294967296, f.fsT % 4294967296, f.fsT / 4294967296, tag, flags, sig],
                   lastSig := if void then c.lastSig else some sig, latched := c.latched + 1,
                   voids := if void then (f.id :: c.voids).take 8 else c.voids, blank := some (f.id, close) }
  let s := s.statsLatch p f.id void
  let s := if cause = 6 then s.ringDropWaiting p f.count else s
  let i := s.stripeInfo p f tag void
  if cause = 1 then
    if c.cur.isSome then s.onCam p (fun c => { c with late := c.late ++ [(i, flags, sig)] }) else s.ringNoFrame p i flags sig
  else s.ringEnd p f.rows (s.camH p) i flags sig

/-- Close the open frame with a cause; `skip` says that packets are discarded up to the next FS. The ring entries that waited for its own
follow. -/
def State.closeFrame (s : State) (p cause : Nat) (skip : Bool) : State :=
  match (s.cam p).cur with
  | none => s
  | some f =>
    let s := s.latchRecord p f cause
    let late := (s.cam p).late
    let s := (s.onCam p (fun c => { c with cur := none, skip := skip, emb := [], late := [] })).set (fInFrame p) 0
    late.foldl (fun s x => s.ringNoFrame p x.1 x.2.1 x.2.2) s

/-- The sensor frame number of an FS, whether or not it opens a frame: the state, and whether the number jumped (R366). -/
def State.frameNumber (s : State) (p num : Nat) : State × Bool :=
  let c := s.cam p
  let drop := decide (num ≠ 0) && decide (c.lastNum ≠ 0) && decide (num ≠ c.lastNum + 1) && decide (num ≠ 1)
  let s := s.setCam p { c with lastNum := if num = 0 then c.lastNum else num }
  (if drop then (s.event (aCamEvt p) 0x20).bump (camReg p 0x54) else s, drop)

/-- Open a frame under an ID, that of the edge at the given time with SYNCED = 1 (R360, R362, R397, R429). -/
def State.openFrame (s : State) (p id : Nat) (edge : Option Nat) (drop : Bool) : State :=
  let c := s.cam p
  let s := s.setCam p
    { c with cur := some { id := id, count := c.latched, fsT := s.ctNs, drop := drop, edge := edge }, skip := false, lines := [], emb := [],
             corr := [], zones := [], lastEdge := edge,
             edges := match edge with | some t => c.edges.erase (id, t) | none => c.edges }
  let s := (s.set (fInFrame p) 1).setBoundary p id
  (s.liveDests p).foldl (fun s w => s.ringOpen w) s

/-- The window of an awaited edge closes without an FS: the boundary of its frame, and a void record with cause 1, whose zone sums are
zero (R361, R393, R409, R429). -/
def State.noFrame (s : State) (p : Nat) (e : Nat × Nat) : State :=
  let c := s.cam p
  let s := ((s.setBoundary p e.1).setApply p).onCam p (fun c => { c with zones := [] })
  (s.latchRecord p { id := e.1, count := c.latched + b2n c.cur.isSome, fsT := 0, edge := some e.2 } 1).onCam p (fun d =>
    { d with edges := d.edges.erase e, zones := c.zones })

/-- Every window that has closed by now has its record (R375). -/
def State.windowsPast (s : State) (p : Nat) : State :=
  ((s.cam p).edges.filter (fun e => decide (e.2 + (s.fsWin p).2 < s.ctNs))).foldl (fun s e => s.noFrame p e) s

/-- An FS with SYNCED = 1 (R360, R361): it opens the frame of the edge in whose window it lies. A second one in the window of an open frame
voids that frame; one in the window of a frame that has ended, or in none, starts nothing, and the latter is counted. -/
def State.syncStart (s : State) (p : Nat) (drop : Bool) : State :=
  match (s.cam p).cur, s.windowEdge p with
  | some f, w =>
    if f.edge.any (s.inWindow p) then s.closeFrame p 2 true
    else
      let s := s.closeFrame p 3 true
      match w with
      | some (j, t) => s.openFrame p j (some t) drop
      | none => s.bump (camReg p 0x6C)
  | none, some (j, t) => s.openFrame p j (some t) drop
  | none, none =>
    let t := s.onCam p (fun c => { c with skip := true })
    if (s.cam p).lastEdge.any (s.inWindow p) then t else t.bump (camReg p 0x6C)

/-- A CSI-2 FS packet with its sensor frame number (R355, R360 to R362, R366). -/
def execFrameStart (p : Fin 4) (num : Nat) (h : CsiHead) (s : State) : Out := s.run (fun s =>
  .next (
    if s.camOn p then
      let s := s.eccFixed p h.ecc
      if s.onPixVc p h then
        let (s, drop) := s.frameNumber p num
        if s.get (fSynced p) = 0 then
          let s := s.closeFrame p 3 false
          (s.openFrame p (s.cam p).count none drop).onCam p (fun c => { c with count := c.count + 1 })
        else (s.windowsPast p).syncStart p drop
      else s.camDiscard p
    else s))

/-- A CSI-2 FE packet closes the open frame (R355, R361). -/
def execFrameEnd (p : Fin 4) (h : CsiHead) (s : State) : Out := s.run (fun s =>
  .next (
    if s.camOn p then
      let s := s.eccFixed p h.ecc
      if !s.onPixVc p h then s.camDiscard p
      else match (s.cam p).cur with
      | none => s
      | some f =>
        let cause := match f.void with
          | some v => v
          | none => if f.rows < s.camH p then 3 else if s.get (fBadMax p) < f.bad then 4 else 0
        s.closeFrame p cause true
    else s))

/-- The FS window of the next awaited edge closes without an FS (R361, R429). -/
def execFsWindowClose (p : Fin 4) (s : State) : Out := s.run (fun s =>
  .next (
    match (s.cam p).edges with
    | e :: _ => if s.camOn p && s.get (fSynced p) = 1 && decide (e.2 + (s.fsWin p).2 ≤ s.ctNs) then s.noFrame p e else s
    | [] => s))

/-- An FE of a pipeline stands in the queue of commands: it falls in the same cycle (R436). -/
def State.endWaits (s : State) (p : Fin 4) : Bool :=
  s.pending.any (fun i => match i with | .frameEnd q h => q = p && s.onPixVc p h | _ => false)

/-- A group member's frame is still open at edge_j + DEADLINE (R431). An FE in the same cycle wins (R436). -/
def execGroupDeadline (p : Fin 4) (s : State) : Out := s.run (fun s =>
  let d := (s.reg (grdReg p 0xEC)).toNat % 65536
  .next (
    match (s.cam p).cur with
    | some f =>
      if s.get (fGroup p) ≠ 0 && d ≠ 0 && s.get (fSynced p) = 1 && f.edge.any (fun t => decide (t + 1000 * d ≤ s.ctNs)) && !s.endWaits p then
        s.closeFrame p 3 true
      else s
    | none => s))

/-! ## Lines (R354 to R359) -/

/-- Bits per pixel of a data type (Table 12-2). -/
def dtBits (dt : Nat) : Nat :=
  if dt = 0x1E then 16 else if dt = 0x2A then 8 else if dt = 0x2B then 10 else if dt = 0x2C then 12 else if dt = 0x2D then 14
  else if dt = 0x2E then 16 else 0

/-- Multiple that WIDTH must be of (Table 12-2). -/
def dtStep (dt : Nat) : Nat := if dt = 0x1E || dt = 0x2C then 2 else if dt = 0x2B || dt = 0x2D then 4 else 1

/-- Raw codes of one packing group (CSI-2; PRESUMED, log entry 37): the high parts first, then the low parts packed from
the first pixel up; RAW16 sends the high byte first. -/
def rawGroup (dt : Nat) (b : List Byte) : List Nat :=
  let n (i : Nat) : Nat := byteAt b i
  if dt = 0x2B then (List.range 4).map (fun i => 4 * n i + bits (n 4) (2 * i) 2)
  else if dt = 0x2C then [16 * n 0 + n 2 % 16, 16 * n 1 + n 2 / 16]
  else if dt = 0x2D then
    let low := n 4 + 256 * n 5 + 65536 * n 6
    (List.range 4).map (fun i => 64 * n i + bits low (6 * i) 6)
  else if dt = 0x2E then [256 * n 0 + n 1]
  else [n 0]

/-- Bytes of one packing group. -/
def rawGroupBytes (dt : Nat) : Nat := if dt = 0x2B then 5 else if dt = 0x2C then 3 else if dt = 0x2D then 7 else if dt = 0x2E then 2 else 1

/-- The U16 samples of a pixel line (R256, R354, R381). -/
def unpackLine (dt : Nat) (data : List Byte) : List Nat :=
  let g := rawGroupBytes dt
  let w := if dt = 0x1E then 8 else dtBits dt
  (List.range (data.length / g)).flatMap (fun i => (rawGroup dt (slice data (g * i) g)).map (rawToU16 w))

/-- A good pixel line's payload enters the signature (R365); the final inversion is the record's. -/
def sigNext (sig : Word) (data : List Byte) : Word := crc32cFrom sig data

/-- A pixel line (R355 to R359, R365, R378). `ovf` says that the ingress FIFO overflows in it. -/
def execPixelLine (p : Fin 4) (data : List Byte) (crcErr laneErr ovf : Bool) (h : CsiHead) (s : State) : Out := s.run (fun s =>
  .next (
    if s.camOn p then
      let s := (s.eccFixed p h.ecc).setApply p
      let c := s.cam p
      let dt := s.pixDt p
      if !s.onPixVc p h || decide (h.dt.val ≠ dt) then s.camDiscard p
      else match c.cur with
      | none => s.camDiscard p
      | some f =>
        if f.void.isSome then s
        else if s.camH p ≤ f.rows then s.camDiscard p
        else if ovf then
          (((s.setCam p { c with cur := some { f with void := some 5 } }).event (aCamEvt p) 0x10).bump (camReg p 0x58)).ringVoid p f.count
        else
          let s := if crcErr then (s.event (aCamEvt p) 8).bump (camReg p 0x48) else s
          let samples := s.camW p * (if dt = 0x1E then 2 else 1)
          let bad := crcErr || laneErr || decide (data.length ≠ s.camW p * dtBits dt / 8)
          let period := periodOf (s.get (fPhaseRows p))
          let line := if bad then (if f.rows < period then List.replicate samples 0 else c.lines.getD (period - 1) []) else unpackLine dt data
          let s := if bad then s.bump (camReg p 0x4C) else s
          let f' := { f with rows := f.rows + 1, bad := f.bad + b2n bad, badRows := if bad then f.badRows ++ [f.rows] else f.badRows,
                             sig := if bad then f.sig else sigNext f.sig data }
          let s := s.setCam p { c with cur := some f', lines := (line :: c.lines).take 4 }
          let (s, out) := if bad && decide (period ≤ f.rows) then s.groundCopy p f.rows else s.groundRow p f.rows line
          s.ringPut p f.rows out false (s.stripeInfo p f' (c.tag f.id) false)
    else s))

/-- An embedded line: its bytes are numbered on (R355, R356). A footer whose CRC fails is counted, and the bytes stand (Table 12-1; DEDUCED,
log entry 38). -/
def execEmbeddedLine (p : Fin 4) (data : List Byte) (h : CsiHead) (s : State) : Out := s.run (fun s =>
  .next (
    if s.camOn p then
      let s := s.eccFixed p h.ecc
      if (s.cam p).cur.isNone || s.get (fEmbEn p) = 0 || decide (h.vc.val ≠ s.get (fEmbVc p)) then s.camDiscard p
      else (if h.crcErr then (s.event (aCamEvt p) 8).bump (camReg p 0x48) else s).onCam p (fun c => { c with emb := (c.emb ++ data).take 4096 })
    else s))

/-- A line start or line end packet of PIX_VC is ignored (R355). -/
def execLineStart (p : Fin 4) (h : CsiHead) (s : State) : Out := s.run (fun s =>
  .next (if s.camOn p then (if s.onPixVc p h then s.eccFixed p h.ecc else (s.eccFixed p h.ecc).camDiscard p) else s))

/-- A packet that no filter keeps (R355): one that the filter would keep is no such packet, and nothing happens. -/
def execPacketDiscard (p : Fin 4) (h : CsiHead) (s : State) : Out := s.run (fun s =>
  .next (if s.camOn p && !s.camKeeps p h then (s.eccFixed p h.ecc).camDiscard p else s))

/-- A header with an uncorrectable ECC error (R357, Table 12-9). -/
def execUncorrectableHeader (p : Fin 4) (s : State) : Out := s.run (fun s =>
  .next (if s.camOn p then (s.event (aCamEvt p) 4).bump (camReg p 0x44) else s))

/-- A lane of the receiver changes state (R353). -/
def execDphyLaneStateChange (p rx : Fin 4) (s : State) : Out := s.run (fun s =>
  .next (if s.camOn p && rx.val ≠ 0 then s.set (fCamRx p) rx else s))

/-- A read of `CAM_p_FREC_ID_LO` takes a snapshot of the whole record (R364): the word read. -/
def State.frecRead (s : State) (p : Nat) : State × Word :=
  let r := (s.cam p).record
  ((List.range 7).foldl (fun s i => s.setReg (camReg p (0x100 + 4 * i)) (BitVec.ofNat 32 (r.getD i 0))) s, BitVec.ofNat 32 (r.getD 0 0))

/-- `CAM_p_FREC_ID_LO` is read. -/
def execFrecIdLoRead (p : Fin 4) (s : State) : Out := s.runGate (8 + p) (fun s => .next (s.frecRead p).1)

/-! ## Switching (R374, R406) -/

/-- The checks of R374. -/
def State.camChecks (s : State) (p : Nat) : Bool :=
  let ctl := (s.reg (camReg p 0)).toNat
  let w := s.camW p
  let h := s.camH p
  let dt := s.pixDt p
  let lanes := 2 ^ bits ctl 1 2
  let map := (s.reg (camReg p 4)).toNat
  let used := (List.range lanes).map (fun i => bits map (2 * i) 2)
  let (lo, hi) := s.fsWin p
  let m := fsMult (s.reg (0x23000050 + 8 * s.get (fFsyncSel p))).toNat
  decide (1 ≤ w) && decide (w ≤ 4096) && decide (1 ≤ h) && decide (h ≤ 4096) && decide (dtBits dt ≠ 0) && decide (w % dtStep dt = 0) &&
    decide (bits ctl 1 2 ≠ 3) && decide (80 ≤ bits ctl 16 12) && decide (bits ctl 16 12 ≤ 2500) &&
    (List.range lanes).all (fun i => used.contains i) &&
    (s.get (fSynced p) = 0 ||
      (decide (lo < hi) && decide (hi < 1000000000 / (s.rate * m)) && decide (w * h * s.rate * m ≤ 250000000)))

/-- A ring address fits its size and lies in one palette with bits 57 to 48 zero (Table 13-5, cause 5). -/
def ringAddrOk (a log : Nat) : Bool :=
  decide (8 ≤ log) && decide (log ≤ 20) && decide (a % 2 ^ log = 0) && (palCore (gLocal a)).isSome && decide (gMid a = 0)

/-- The first failing check of Table 13-5; 0 when all hold. -/
def State.grdCause (s : State) (p : Nat) : Nat :=
  let mc := (s.reg (grdReg p 0x14)).toNat
  let map := (s.reg (grdReg p 0x10)).toNat
  let st := (s.reg (grdReg p 0x18)).toNat
  let ds := ((List.range 4).map (fun d => s.ringCfg (4 * p + d))).filter (fun c => c.en)
  let nst := (s.camH p + stripeRows (bits st 0 2) - 1) / stripeRows (bits st 0 2)
  let stray := (List.range 16).any (fun i => (decide (s.ph p ≤ i / 4) || decide (s.pw p ≤ i % 4)) && decide (bits map (2 * i) 2 ≠ 0))
  if bits mc 0 2 = 3 || bits mc 2 2 = 3 || decide (bits mc 0 2 ≠ s.get (fPhaseRows p)) || stray || decide (6 < bits mc 8 3) then 1
  else if bits st 0 2 = 3 || decide (8 < bits st 4 4) then 2
  else if decide ((s.reg (grdReg p 0x1C)).toNat < 2 * s.camW p) || decide ((s.reg (grdReg p 0x1C)).toNat % 32 ≠ 0) then 3
  else if ds.any (fun c => decide (c.last < c.first)) ||
      (List.range 256).any (fun k => (ds.filter (fun c => decide (c.first ≤ k) && decide (k ≤ c.last))).length ≠ (if k < nst then 1 else 0)) then 4
  else if ds.any (fun c => !ringAddrOk c.ring c.ringLog || !ringAddrOk c.hdr c.hdrLog || decide (gNode c.ring ≠ gNode c.hdr) ||
      decide (2 ^ c.ringLog < (c.sr + 2 * c.halo) * c.stride)) then 5
  else if s.pixDt p = 0x1E && decide (bits st 8 2 ≠ 0) then 6
  else 0

/-- CFG_ERR of `CAM_p_CTL`. -/
def State.camCfgErr (s : State) (p : Nat) : State := s.event (camReg p 0) 0x80000000

/-- EN is set: the checks of R374 and R406, then the pipeline starts from nothing (R362, R369, R374, R396). -/
def State.camStart (s : State) (p : Nat) : State :=
  let cause := s.grdCause p
  if s.camChecks p && cause = 0 then
    let c := s.cam p
    let edges := if s.get (fSynced p) = 1 && s.get fRun = 1 then
        (s.epochEdges (s.get (fFsyncSel p)) s.tim.epoch).filter (fun e => decide (s.ctNs ≤ e.2))
      else []
    let s := s.setCam p { edges := edges, record := c.record, queue := c.queue, run := c.run, active := c.active, obs := c.obs }
    let s := (List.range 4).foldl (fun s d => (s.setDest (4 * p + d) {}).setReg (ringStat (4 * p + d)) 0#32) s
    ((s.set (fCamEn p) 1).set (fCamRx p) 1).set (fInFrame p) 0
  else if cause = 0 then s.camCfgErr p
  else (s.camCfgErr p).set ⟨grdReg p 0xC4, 0, 4⟩ cause

/-- Show the settings queue. -/
def State.showSets (s : State) (p : Nat) : State :=
  let c := s.cam p
  (s.set (fQueued p) c.queue.length).set (fSetBusy p) (b2n c.run.isSome)

/-- EN is cleared: an open frame is void with cause 6, an armed set returns to OPEN, the settings queue is flushed (R361,
R375, R430). -/
def State.camStop (s : State) (p : Nat) : State :=
  if s.get (fCamEn p) = 0 then s
  else
    let s := s.closeFrame p 6 true
    let s := s.setDisarm p
    let s := s.onCam p (fun c => { c with queue := [], blank := none, marks := [], images := [], image := List.replicate 8 none, skip := true })
    (((s.set (fCamEn p) 0).set (fCamRx p) 0).set (fInFrame p) 0).showSets p

/-- A write of `CAM_p_CTL` (R374): while EN = 1 it can only clear EN; CFG_ERR is W1C. -/
def State.camCtlWrite (s : State) (p : Nat) (v : Nat) : State :=
  let s := if bit v 31 && !(s.justRaised (camReg p 0)).getLsbD 31 then s.set ⟨camReg p 0, 31, 1⟩ 0 else s
  let cfg := v % 2 ^ 28 / 2 ^ 16 * 2 ^ 16 + bits v 1 2 * 2
  if s.get (fCamEn p) = 1 then
    let old := (s.reg (camReg p 0)).toNat % 2 ^ 28 / 2 * 2
    let s := if cfg = old then s else s.camCfgErr p
    if bit v 0 then s else s.camStop p
  else
    let s := s.setReg (camReg p 0) ((s.reg (camReg p 0) &&& 0x80000000#32) ||| BitVec.ofNat 32 cfg)
    if bit v 0 then s.camStart p else s

/-- EN of `CAM_p_CTL` is written. -/
def execCamEn (p : Fin 4) (en : Bool) (s : State) : Out := s.runGate (8 + p) (fun s =>
  .next (if en then (if s.get (fCamEn p) = 1 then s else s.camStart p) else s.camStop p))

/-- Tenant release of a pipeline (R373). -/
def State.camRelease (s : State) (p : Nat) : State :=
  let s := ((s.camStop p).setDisarm p).onCam p (fun c => { c with queue := [] })
  (s.showSets p).resetRegs (camReg p 0x18) (camReg p 0x1C)

/-! ## The settings engine (R367 to R371) -/

/-- The settings RAM word of an entry. -/
def State.setEntry (s : State) (p e : Nat) : Nat × Nat := ((s.reg (camReg p (0x800 + 8 * e))).toNat, (s.reg (camReg p (0x804 + 8 * e))).toNat)

/-- An entry belongs to a set. -/
def SetDesc.holds (d : SetDesc) (e : Nat) : Bool := decide (d.first ≤ e) && decide (e ≤ d.first + d.count)

/-- COMMIT (R368, R375): the descriptor is queued, or refused when the queue is full, the set runs past entry 255 or its ID
is the reserved 0. A set keeps its place in the queue until it is written (Table 15-1). -/
def State.setQueue (s : State) (p : Nat) : State :=
  let w := (s.reg (camReg p 0x88)).toNat
  let d : SetDesc := { first := bits w 0 8, count := bits w 8 8, id := bits w 16 16, tgt := s.reg64 (camReg p 0x8C) }
  if 4 ≤ (s.cam p).queue.length + b2n (s.cam p).run.isSome || 255 < d.first + d.count || d.id = 0 then s.event (aCamEvt p) 0x1000
  else (s.onCam p (fun c => { c with queue := c.queue ++ [d] })).showSets p

/-- FLUSH (R375). -/
def State.setFlush (s : State) (p : Nat) : State := (s.onCam p (fun c => { c with queue := [] })).showSets p

/-- A settings set is committed. -/
def execSetCommit (p : Fin 4) (s : State) : Out := s.runGate (8 + p) (fun s => .next (s.setQueue p))

/-- The settings queue is emptied. -/
def execSetFlush (p : Fin 4) (s : State) : Out := s.runGate (8 + p) (fun s => .next (s.setFlush p))

/-- A write of a settings entry, refused while it belongs to a queued or busy set (R375). -/
def State.setramWrite (s : State) (p e : Nat) (hi : Bool) (v : Word) : State :=
  let c := s.cam p
  let busy := c.queue.any (fun d => d.holds e) || (match c.run with | some r => r.desc.holds e | none => false)
  if busy then s.event (aCamEvt p) 0x1000
  else if hi then s.setReg (camReg p (0x804 + 8 * e)) v else s.setReg (camReg p (0x800 + 8 * e)) (v &&& 0xFFFF3FFF#32)

/-- A settings RAM word is written. -/
def execSetramWrite (p : Fin 4) (e : Fin 256) (hi : Bool) (v : Word) (s : State) : Out :=
  s.runGate (8 + p) (fun s => .next (s.setramWrite p e hi v))

/-- SCL period in ns (Table 12-7). -/
def State.sclPeriod (s : State) (p : Nat) : Nat :=
  let c := (s.reg (camReg p 0x80)).toNat % 4
  if c = 0 then 10000 else if c = 1 then 2500 else 1000

/-- A set's estimate in ns (R369). -/
def State.setEstimate (s : State) (p : Nat) (d : SetDesc) : Nat :=
  s.sclPeriod p * ((List.range (d.count + 1)).foldl (fun n i =>
    let w := (s.setEntry p (d.first + i)).1
    n + 9 * (3 + bits w 7 1 + bits w 8 2) + 3) 0)

/-- The blanking in which a set is due: T - 1 - D (R369). -/
def State.setDue (s : State) (p : Nat) (d : SetDesc) : Int := (d.tgt : Int) - 1 - s.get (fDelay p)

/-- The engine starts the head set that is due and fits (R369). -/
def execSetStart (p : Fin 4) (s : State) : Out := s.run (fun s =>
  let c := s.cam p
  .next (
    match c.run, c.queue with
    | none, d :: rest =>
      let go (win : Option (Nat × Nat)) : State := (s.setCam p { c with run := some { desc := d, win := win }, queue := rest }).showSets p
      if s.get (fCamEn p) = 0 then go none
      else match c.blank with
        | some (k, close) =>
          if s.setDue p d ≤ (k : Int) && decide (s.ctNs + s.setEstimate p d < close) then go (some (k, close)) else s
        | none => s
    | _, _ => s))

/-- A set stops (R370): a NACK seen twice, or a stuck bus. -/
def State.setStop (s : State) (p : Nat) : State :=
  match (s.cam p).run with
  | none => s
  | some r =>
    let t := bits (s.reg (camReg p 0x18)).toNat 0 3
    let s := s.event (aCamEvt p) 0x900
    let s := s.kmpEvent 0x8402 (leBytes 1 s.node ++ leBytes 1 p ++ leBytes 2 r.desc.id) (if t < 4 then some t else none)
    (s.onCam p (fun c => { c with run := none, marks := match r.win with
      | some (k, _) => (k + 1 + s.get (fDelay p), none) :: c.marks
      | none => c.marks })).showSets p

/-- The bytes of an entry's write: address with W, register address, data, each most significant byte first (R368). -/
def entryBytes (lo hi : Nat) : List Byte :=
  leBytes 1 (2 * (lo % 128)) ++ (leBytes (1 + bits lo 7 1) (lo / 65536)).reverse ++ (leBytes (bits lo 8 2 + 1) hi).reverse

/-- One entry's I2C write ends (R368, R370). -/
def execI2cEntryWrite (p : Fin 4) (acked : Bool) (s : State) : Out := s.run (fun s =>
  let c := s.cam p
  .next (
    match c.run with
    | none => s
    | some r =>
      if r.desc.count < r.at_ then s
      else
        let e := s.setEntry p (r.desc.first + r.at_)
        let s := s.emit (.i2c p (entryBytes e.1 e.2) true)
        if acked then s.setCam p { c with run := some { r with at_ := r.at_ + 1, retried := false } }
        else if r.retried then s.setStop p
        else s.setCam p { c with run := some { r with retried := true } }))

/-- The expected image after a set (R371): the DATA of its last entry with VERIFY_EN for each field. -/
def State.setImage (s : State) (p : Nat) (d : SetDesc) (img : List (Option Nat)) : List (Option Nat) :=
  (List.range (d.count + 1)).foldl (fun img i =>
    let e := s.setEntry p (d.first + i)
    if bit e.1 13 then img.set (bits e.1 10 3) (some e.2) else img) img

/-- A set has been written whole (R369 to R371). -/
def execSetWritten (p : Fin 4) (s : State) : Out := s.run (fun s =>
  let c := s.cam p
  .next (
    match c.run with
    | none => s
    | some r =>
      if r.at_ ≤ r.desc.count then s
      else
        let d := r.desc
        let s := (s.event (aCamEvt p) 0x40).set (fLastId p) d.id
        match r.win with
        | none => (s.setCam p { c with run := none }).showSets p
        | some (k, close) =>
          let past := decide (close < s.ctNs)
          let late := past || decide (s.setDue p d < (k : Int))
          let s := if late then (s.event (aCamEvt p) 0x80).bump (camReg p 0x60) else s
          let img := s.setImage p d c.image
          let eff := k + (if past then 2 else 1) + s.get (fDelay p)
          (s.setCam p { c with run := none, image := img, images := ((d.id, img) :: c.images).take 5,
                               marks := (eff, some d.id) :: c.marks }).showSets p))

/-- A blanking window closes (R369). -/
def execBlankingClose (p : Fin 4) (s : State) : Out := s.run (fun s =>
  .next (
    match (s.cam p).blank with
    | some (_, close) => if close ≤ s.ctNs then s.onCam p (fun c => { c with blank := none }) else s
    | none => s))

/-- SCL of a pipeline's bus is held low for more than 1 ms (R367, R370). -/
def State.camStuck (s : State) (p : Nat) : State :=
  ((s.emit (.i2c p [] true)).event (aCamEvt p) 0x800).setStop p

end Sys2Proof.Machine
end

