-- ==== Sys2Proof/Machine/Feed.lean ====
section
/-! DEFINITION. Feed: the output formatter's feeds, their display, coding and vision outputs, glaze layers and the CSI-2
transmitter (14). -/

namespace Sys2Proof.Machine

/-! ## Configuration (Table 14-4) -/

/-- A feed register's number. -/
def State.feedWord (s : State) (f off : Nat) : Nat := (s.reg (feedReg f off)).toNat
/-- EN of `OUT_FEED_f_CFG`. -/
def fFeedEn (f : Nat) : Fld := ⟨feedReg f 0, 0, 1⟩
/-- STATE of `OUT_FEED_f_STAT`: 0 OFF, 1 WAIT, 2 FRAME. -/
def fFeedState (f : Nat) : Fld := ⟨feedReg f 0x34, 0, 2⟩
/-- `OUT_FEED_f_EVT`. -/
def aFeedEvt (f : Nat) : Nat := feedReg f 0x40

/-- WIDTH of a feed. -/
def State.feedW (s : State) (f : Nat) : Nat := bits (s.feedWord f 0) 2 13
/-- HEIGHT. -/
def State.feedH (s : State) (f : Nat) : Nat := bits (s.feedWord f 0) 15 13
/-- NPL: 3 or 4. -/
def State.feedNpl (s : State) (f : Nat) : Nat := if bit (s.feedWord f 0) 1 then 4 else 3
/-- Bytes of a source row that hold pixels (R412). -/
def State.feedRowBytes (s : State) (f : Nat) : Nat := 2 * s.feedNpl f * s.feedW f
/-- Factor of a D code. -/
def boxD (code : Nat) : Nat := if code = 0 then 1 else if code = 1 then 2 else 4
/-- `OUT_FEED_f_S_k_CFG`. -/
def State.streamCfg (s : State) (f k : Nat) : Nat := s.feedWord f (0x100 + 0x40 * k)
/-- EN of a stream. -/
def State.streamOn (s : State) (f k : Nat) : Bool := bit (s.streamCfg f k) 0
/-- The vision output is enabled. -/
def State.visionOn (s : State) (f : Nat) : Bool := bit (s.feedWord f 0x400) 0
/-- The CSI-2 transmitter sends the feed's coding picture (Table 14-6). -/
def State.csiOn (s : State) (f : Nat) : Bool := bit (s.reg 0x20300000).toNat 0 && bit (s.reg 0x20300004).toNat f

/-- A scaled geometry: D, OW and OH. -/
structure Geom where
  d : Nat
  ow : Nat
  oh : Nat
  deriving DecidableEq, Repr

/-- Display geometry. -/
def State.dispGeom (s : State) (f : Nat) : Geom :=
  let g := s.feedWord f 0x11C
  { d := boxD (bits g 0 2), ow := bits g 2 13, oh := bits g 15 13 }
/-- Vision geometry. -/
def State.visGeom (s : State) (f : Nat) : Geom :=
  let g := s.feedWord f 0x404
  let code := bits (s.feedWord f 0x400) 1 2
  { d := if code = 3 then 2 ^ Config.visBox.val else boxD code, ow := bits g 0 13, oh := bits g 16 13 }

/-- A geometry within the range of R416. -/
def Geom.fits (g : Geom) (w h : Nat) : Bool :=
  let w' := w / g.d
  let h' := h / g.d
  decide (w' ≤ 2 * g.ow) && decide (g.ow ≤ w') && decide (h' ≤ 2 * g.oh) && decide (g.oh ≤ h') && decide (0 < g.ow) && decide (0 < g.oh)

/-- The first failing check of Table 14-5; 0 when all hold. The checks of causes 3 to 5 ask for no output that is enabled: an output turns
on only while its feed runs (Table 17-27), when its fields no longer change (R428). -/
def State.feedCause (s : State) (f : Nat) : Nat :=
  let w := s.feedW f
  let h := s.feedH f
  let log := s.feedWord f 4 % 32
  let stride := s.feedWord f 8
  let v := s.feedWord f 0x400
  let vc := s.ringCfg (16 + f)
  let src := s.reg64 (feedReg f 0x10)
  let free := s.reg64 (feedReg f 0x18)
  let pixels (g : Nat) : Nat := s.feedW g * s.feedH g * s.rate * 2 ^ bits (s.feedWord g 0x30) 0 2
  let live := (List.range 8).filter (fun g => decide (g ≠ f) && decide (s.get (fFeedEn g) = 1))
  let badStream (k : Nat) : Bool :=
    decide (bits (s.streamCfg f k) 24 7 < 96) || decide (bits (s.streamCfg f k) 24 7 > 127) ||
      decide (s.feedWord f (0x118 + 0x40 * k) % 16384 < 576) || decide (9000 < s.feedWord f (0x118 + 0x40 * k) % 16384)
  if w < 2 || 4096 < w || h < 2 || 4096 < h || stride < s.feedRowBytes f || stride % 32 ≠ 0 || log < 8 || 20 < log then 1
  else if (s.streamOn f 1 || s.csiOn f) && (decide (w % 4 ≠ 0) || decide (h % 2 ≠ 0)) then 2
  else if bits (s.feedWord f 0x11C) 0 2 = 3 || (s.dispGeom f).ow % 2 ≠ 0 || (s.dispGeom f).oh % 2 ≠ 0 || !(s.dispGeom f).fits w h then 3
  else if bits v 3 4 = 0 || (bit v 6 && decide (s.feedNpl f = 3)) || bits v 7 2 = 3 || bits v 9 2 = 3 || 8 < bits v 11 4 ||
      !(s.visGeom f).fits w h || vc.stride < vc.rowBytes then 4
  else if !ringAddrOk src log || decide (free % 4 ≠ 0) || (palCore (gLocal free)).isNone || decide (gMid free ≠ 0) || badStream 0 || badStream 1 ||
      !ringAddrOk vc.ring vc.ringLog || !ringAddrOk vc.hdr vc.hdrLog || gNode vc.ring ≠ gNode vc.hdr ||
      2 ^ vc.ringLog < (vc.sr + 2 * vc.halo) * vc.stride then 5
  else if 500000000 < (f :: live).foldl (fun n g => n + pixels g) 0 then 6
  else 0

/-! ## Pixels (R415 to R418) -/

/-- a / d in FP32, rounded to nearest even, for a finite `a` and d > 0. -/
def fdivNat (a d : Nat) : Nat :=
  match f32 a with
  | .fin n m e => toF32 (.fin n (2 * (m * 2 ^ 64 / d) + (if m * 2 ^ 64 % d = 0 then 0 else 1)) (e - 65))
  | v => toF32 v

/-- FP32 of a natural number. -/
def natF32 (n : Nat) : Nat := toF32 (.fin false n 0)

/-- A source pixel of a plane as FP32 (R412); absent rows read as zero. -/
def State.srcPix (s : State) (f n y x : Nat) : Nat :=
  let row := tblGet (fun _ => []) (s.feed f).rows y
  toF32 (fp16.decode (fieldAt row (2 * (n * s.feedW f + x)) 2))

/-- Step 2: the mean of a D × D block, summed in raster order (R416). -/
def State.boxPix (s : State) (f d n y x : Nat) : Nat :=
  if d = 1 then s.srcPix f n y x
  else
    let ps := (List.range (d * d)).map (fun i => s.srcPix f n (y * d + i / d) (x * d + i % d))
    fmul (ps.tail.foldl fadd (ps.headD 0)) (toF32 (.fin false 1 (if d = 2 then -2 else -4)))

/-- The source position of an output coordinate: integer part, next, and fraction (R416). -/
def bilinearAt (i o n : Nat) : Nat × Nat × Nat :=
  let x := fadd (fdivNat (fmul (toF32 (.fin false (2 * i + 1) (-1))) (natF32 n)) o) (fneg 0x3F000000)
  let x := if (f32 x).lt (.fin false 0 0) then 0 else if (f32 (natF32 (n - 1))).lt (f32 x) then natF32 (n - 1) else x
  let i0 := match f32 x with
    | .fin _ m e => if 0 ≤ e then m * 2 ^ e.toNat else m / 2 ^ (-e).toNat
    | _ => 0
  (i0, min (i0 + 1) (n - 1), fadd x (fneg (natF32 i0)))

/-- Steps 2 and 3: plane `n` of output pixel (Y, X); with OW = W′ and OH = H′ it is its box value (R416). -/
def State.scaledPix (s : State) (f : Nat) (g : Geom) (n y x : Nat) : Nat :=
  let w' := s.feedW f / g.d
  let h' := s.feedH f / g.d
  if g.ow = w' && g.oh = h' then s.boxPix f g.d n y x
  else
    let (x0, x1, fx) := bilinearAt x g.ow w'
    let (y0, y1, fy) := bilinearAt y g.oh h'
    let top := lerp32 fx (s.boxPix f g.d n y0 x0) (s.boxPix f g.d n y0 x1)
    let bot := lerp32 fx (s.boxPix f g.d n y1 x0) (s.boxPix f g.d n y1 x1)
    lerp32 fy top bot

/-- The last source row that output row `y` of a geometry needs. -/
def Geom.lastRow (g : Geom) (h y : Nat) : Nat :=
  let h' := h / g.d
  (if g.oh = h' then y else (bilinearAt y g.oh h').2.1) * g.d + g.d - 1

/-- Step 4: component `k` of a pixel (R417). -/
def State.matrixPix (s : State) (f k : Nat) (rgb : Nat → Nat) : Nat :=
  let m (i : Nat) : Nat := s.feedActive f (0x80 + 4 * (3 * k + i))
  ffma (m 2) (rgb 2) (ffma (m 1) (rgb 1) (ffma (m 0) (rgb 0) (s.feedActive f (0xA4 + 4 * k))))

/-- Step 6 for display: UINT8 (R417). -/
def quant8 (x : Nat) : Nat := min 255 (rneShift (toU16 (f32 x)) 8)

/-- Step 6 for coding: a U16 with 10 bits in 15 to 6 (R417). -/
def quant10 (x : Nat) : Nat := toCoding (toU16 (f32 x))

/-! ## Glaze (R424 to R427) -/

/-- A layer's register. -/
def State.layerWord (s : State) (f l off : Nat) : Nat := s.feedWord f (0x200 + 0x80 * l + off)

/-- Bytes of a row of a layer. -/
def State.layerRowBytes (s : State) (f l : Nat) : Nat :=
  let w := bits (s.layerWord f l 8) 0 13
  if bit (s.layerWord f l 0) 0 then (w + 1) / 2 else 4 * w

/-- A layer's state of the frame. -/
def FeedRun.layer (x : FeedRun) (l : Nat) : LayerRun := tblGet (fun _ => {}) x.layers l

/-- The landed bytes of a row from its start on. -/
def landed (chunks : List (Nat × Nat × List Byte)) (row : Nat) : List Byte :=
  let parts := (chunks.filter (fun c => c.1 = row)).map (fun c => c.2)
  joinParts parts 0 (parts.length + 1)

/-- LAYER_EN of the active set. -/
def State.layerOn (s : State) (f l : Nat) : Bool := bit (s.feedActive f 0xD4) l

/-- The AYUV8888 pixel of a layer at (y, x) of its rectangle (R424). -/
def State.layerPix (s : State) (f l y x : Nat) : Nat :=
  let row := landed ((s.feed f).layer l).chunks y
  if bit (s.layerWord f l 0) 0 then s.feedActive f (0x240 + 0x80 * l + 4 * bits (byteAt row (x / 2)) (4 * (x % 2)) 4)
  else fieldAt row (4 * x) 4

/-- A layer is drawn in display row `y`. -/
def LayerRun.drawn (r : LayerRun) (y : Nat) : Bool := r.shown && (match r.dropFrom with | some d => decide (y < d) | none => true)

/-- Component `k` of a display pixel after the layers (R424) and the stale markers (R427). -/
def State.glaze (s : State) (f k y x base : Nat) : Nat :=
  let run := s.feed f
  let inside (xy w h : Nat) : Bool :=
    decide (bits xy 0 13 ≤ x) && decide (x < bits xy 0 13 + w) && decide (bits xy 16 13 ≤ y) && decide (y < bits xy 16 13 + h)
  let v := (List.range 4).foldl (fun v l =>
    let xy := s.layerWord f l 4
    let wh := s.layerWord f l 8
    if s.layerOn f l && (run.layer l).drawn y && inside xy (bits wh 0 13) (bits wh 16 13) then
      let p := s.layerPix f l (y - bits xy 16 13) (x - bits xy 0 13)
      let a := p / 16777216
      (roundDiv (a * bits p (8 * k) 8 + (255 - a) * v : Nat) 255).toNat
    else v) base
  (List.range 4).foldl (fun v l =>
    let xy := s.layerWord f l 0x2C
    let stale := match (run.layer l).dropFrom with | some d => decide (d ≤ y) | none => false
    if s.layerOn f l && stale && inside xy 32 32 then
      let c := bits (s.feedActive f 0xD8) (8 * k) 8
      let dx := x - bits xy 0 13
      let dy := y - bits xy 16 13
      if k = 0 && (decide (dx < 4) || decide (28 ≤ dx) || decide (dy < 4) || decide (28 ≤ dy)) then 255 - c else c
    else v) v

/-- A layer is dropped from display row `y` to the end of the frame (R426, R427). -/
def State.layerDrop (s : State) (f l y : Nat) : State :=
  let r := (s.feed f).layer l
  ((s.onFeed f (fun x => { x with layers := tblSet (fun _ => {}) x.layers l { r with dropFrom := some y } })).bump (feedReg f 0x54)).event (aFeedEvt f) 4

/-- Display row `y` is about to be composited: a layer whose row has not landed is dropped from it on (R426). -/
def State.layersReady (s : State) (f y : Nat) : State :=
  (List.range 4).foldl (fun s l =>
    let r := (s.feed f).layer l
    let top := bits (s.layerWord f l 4) 16 13
    let h := bits (s.layerWord f l 8) 16 13
    if s.layerOn f l && r.drawn y && decide (top ≤ y) && decide (y < top + h) &&
        decide ((landed r.chunks (y - top)).length < s.layerRowBytes f l) then
      ((s.layerDrop f l y).bump (feedReg f 0x58)).event (aFeedEvt f) 8
    else s) s

/-- The latch of a layer at the start of frame `j` (R425, R426) with its acknowledgement, whether the layer is enabled or not; a layer that
is not enabled is not dropped (R436). None leaves to an address with bits 57 to 48 set (R86). -/
def State.layerLatch (s : State) (f j l : Nat) : State :=
  let has := bit (s.feed f).readied l
  let buf := if has then s.layerWord f l 0x24 % 4 else 3
  let age := signed 32 (unsigned 32 ((j % 4294967296 : Nat) - (s.layerWord f l 0x28 : Int)))
  let shown := has && decide (age ≤ 2)
  let s := s.onFeed f (fun x => { x with layers := tblSet (fun _ => {}) x.layers l { buf := buf, shown := shown } })
  let s := if shown || !s.layerOn f l then s else s.layerDrop f l 0
  let ack := s.reg64 (feedReg f (0x21C + 0x80 * l))
  if gMid ack ≠ 0 then s
  else
    s.issue { dst := gNode ack, kind := 1, nbytes := 12, issuer := 12, ten := 7, addr := gLocal ack,
              data := leBytes 4 buf ++ leBytes 4 j ++ leBytes 4 (s.layerWord f l 0x30) } .discard

/-! ## Vision rows (R418, R423) -/

/-- The bytes of one plane's segment of a vision row (R418). -/
def State.visPlane (s : State) (f : Nat) (g : Geom) (fmt n y : Nat) : List Byte :=
  let v (x : Nat) : Nat := fmul (fadd (s.scaledPix f g n y x) (fneg (s.feedActive f (0xB0 + 4 * n)))) (s.feedActive f (0xC0 + 4 * n))
  let vs := (List.range g.ow).map v
  let out : List Byte :=
    if fmt = 0 then vs.map (fun a => BitVec.ofInt 8 ((f32 (fmul a (s.feedActive f 0xD0))).toInt (-128) 127))
    else if fmt = 1 then vs.flatMap (fun a => leBytes 2 (fp16.encode true (f32 a)))
    else
      let blocks := (List.range ((g.ow + 15) / 16)).map (fun b => toBs8 ((List.range 16).map (fun i => if 16 * b + i < g.ow then f32 (vs.getD (16 * b + i) 0) else .fin false 0 0)))
      blocks.flatMap (fun b => b.2.map (fun q => BitVec.ofNat 8 q)) ++ blocks.map (fun b => BitVec.ofNat 8 b.1)
  fit (planeBytes fmt g.ow) out

/-- A vision row: the selected planes in ascending order (R418). -/
def State.visRow (s : State) (f y : Nat) : List Byte :=
  let v := s.feedWord f 0x400
  (planesOf (bits v 3 4)).flatMap (fun n => s.visPlane f (s.visGeom f) (bits v 7 2) n y)

/-- What the vision entries of the frame carry (R423): FS_T is a value that the spec leaves open. -/
def State.visInfo (s : State) (f : Nat) (void : Bool) : StripeInfo :=
  let x := s.feed f
  { id := x.frame, fsT := Config.freeValue x.free % 18446744073709551616, tag := s.get (fAppliedId (4 + f)), gstep := 0, mos := 0,
    count := x.count, badRows := [], void := void }

/-- The frame is void as far as is known. -/
def FeedRun.isVoid (x : FeedRun) : Bool := x.verdict == some true

/-- The vision output takes part in the frame. -/
def State.visLive (s : State) (f : Nat) : Bool := s.visionOn f && !(s.feed f).visIdle

/-- Form the vision rows whose source rows have been consumed; at most `n`. -/
def State.visForm (s : State) (f : Nat) : Nat → State
  | 0 => s
  | n + 1 =>
    let x := s.feed f
    let g := s.visGeom f
    if s.visLive f && x.vrows < g.oh && decide (g.lastRow (s.feedH f) x.vrows < x.consumed) then
      let s := s.ringPut (4 + f) x.vrows (s.visRow f x.vrows) x.isVoid (s.visInfo f x.isVoid)
      (s.onFeed f (fun x => { x with vrows := x.vrows + 1 })).visForm f n
    else s

/-- The vision entries of the frame are closed: rows that were not formed are dropped, and the verdict follows (R423). FLAGS
and SIG of the verdict are values that the spec leaves open. -/
def State.visClose (s : State) (f : Nat) : State :=
  let x := s.feed f
  if s.visLive f && !x.vdone then
    let s := s.ringEnd (4 + f) x.vrows (s.visGeom f).oh (s.visInfo f x.isVoid) (Config.freeValue (x.free + 1) % 4294967296)
      (Config.freeValue (x.free + 2) % 4294967296)
    s.onFeed f (fun x => { x with vdone := true })
  else s

/-! ## Streams (R419 to R421) -/

/-- edge_j in ns from the feed's FS_MULT and FS_OFS (R136, R420). -/
def State.feedEdge (s : State) (f j : Nat) : Nat :=
  let t := s.feedWord f 0x30
  let m := 2 ^ bits t 0 2
  s.tim.baseCt + (j - s.tim.baseN * m) * 1000000000 / (s.rate * m) + bits t 2 25

/-- A stream's progress. -/
def FeedRun.stream (x : FeedRun) (k : Nat) : StreamRun := tblGet (fun _ => {}) x.streams k
/-- The state with a stream's progress replaced. -/
def State.setStream (s : State) (f k : Nat) (r : StreamRun) : State := s.onFeed f (fun x => { x with streams := tblSet (fun _ => {}) x.streams k r })

/-- Line pairs of a stream. -/
def State.streamPairs (s : State) (f k : Nat) : Nat := if k = 0 then (s.dispGeom f).oh / 2 else s.feedH f / 2
/-- Pgroups of a line pair, and bytes of a pgroup (R419). -/
def State.pgroups (s : State) (f k : Nat) : Nat × Nat := if k = 0 then ((s.dispGeom f).ow / 2, 6) else (s.feedW f / 4, 15)

/-- First pgroup and number of pgroups of packet `i` of a pair, and packets of the pair (R420). -/
def State.packetSpan (s : State) (f k i : Nat) : Nat × Nat × Nat :=
  let (p, size) := s.pgroups f k
  let pmax := max 1 ((s.feedWord f (0x118 + 0x40 * k) % 16384 - 72) / size)
  let n := max 1 ((p + pmax - 1) / pmax)
  let lo := p / n
  let more := p % n
  (i * lo + min i more, lo + (if i < more then 1 else 0), n)

/-- Component `k` of a 4:4:4 display pixel after quantisation and glaze. -/
def State.dispPix (s : State) (f k y x : Nat) : Nat :=
  s.glaze f k y x (quant8 (s.matrixPix f k (fun n => s.scaledPix f (s.dispGeom f) n y x)))

/-- Chroma of a 2 × 2 group of the display, RNE of the mean (Table 14-1, step 8). -/
def State.dispChroma (s : State) (f k y x : Nat) : Nat :=
  (roundDiv (s.dispPix f k y x + s.dispPix f k y (x + 1) + s.dispPix f k (y + 1) x + s.dispPix f k (y + 1) (x + 1) : Nat) 4).toNat

/-- Luma of a coding pixel, in bits 15 to 6. -/
def State.codeLuma (s : State) (f y x : Nat) : Nat := quant10 (s.matrixPix f 0 (fun n => s.srcPix f n y x))

/-- Chroma of a 2 × 2 group of the coding picture: the mean in raster order, then quantised (Table 14-1, step 5). -/
def State.codeChroma (s : State) (f k y x : Nat) : Nat :=
  let c (dy dx : Nat) : Nat := s.matrixPix f k (fun n => s.srcPix f n (y + dy) (x + dx))
  quant10 (fmul (fadd (fadd (fadd (c 0 0) (c 0 1)) (c 1 0)) (c 1 1)) (toF32 (.fin false 1 (-2))))

/-- The six samples of a 2 × 2 group in RFC 4175 order. -/
def State.group22 (s : State) (f k y x : Nat) : List Nat :=
  if k = 0 then [s.dispPix f 0 y x, s.dispPix f 0 y (x + 1), s.dispPix f 0 (y + 1) x, s.dispPix f 0 (y + 1) (x + 1), s.dispChroma f 1 y x, s.dispChroma f 2 y x]
  else [s.codeLuma f y x, s.codeLuma f y (x + 1), s.codeLuma f (y + 1) x, s.codeLuma f (y + 1) (x + 1), s.codeChroma f 1 y x, s.codeChroma f 2 y x].map (fun v => v / 64)

/-- A pgroup: 6 octets of one group, or 15 octets of two groups of 10-bit samples, most significant bit first. -/
def State.pgroup (s : State) (f k y i : Nat) : List Byte :=
  if k = 0 then (s.group22 f 0 y (2 * i)).map (fun v => BitVec.ofNat 8 v)
  else beBytes 15 ((s.group22 f 1 y (4 * i) ++ s.group22 f 1 y (4 * i + 2)).foldl (fun n v => 1024 * n + v) 0)

/-- FLAGS without VOID and DROP (Table 14-2). -/
def State.feedFlags (s : State) (f : Nat) : Nat :=
  (List.range 4).foldl (fun n l => n + if s.layerOn f l && ((s.feed f).layer l).dropFrom.isSome then 4 * 2 ^ l else 0) 0 +
    65536 * s.get (fAppliedId (4 + f))

/-- The next RTP packet of a stream (Table 14-2), with M, VOID and DROP clear. -/
def State.rtpPacket (s : State) (f k : Nat) (r : StreamRun) : List Byte :=
  let x := s.feed f
  let edge := s.feedEdge f x.frame
  let (first, n, _) := s.packetSpan f k r.part
  let (_, size) := s.pgroups f k
  beBytes 1 0x90 ++ beBytes 1 (bits (s.streamCfg f k) 24 7) ++ beBytes 2 r.seq ++ beBytes 4 (edge * 9 / 100000) ++
    beBytes 4 (s.feedWord f (0x114 + 0x40 * k)) ++ beBytes 2 0xBEDE ++ beBytes 2 5 ++ beBytes 1 0x1F ++ beBytes 4 x.frame ++
    beBytes 8 edge ++ beBytes 4 (s.feedFlags f) ++ beBytes 3 0 ++ beBytes 2 (r.seq / 65536) ++ beBytes 2 (n * size) ++
    beBytes 2 (2 * r.pair) ++ beBytes 2 (first * (if k = 0 then 2 else 4)) ++
    (List.range n).flatMap (fun i => s.pgroup f k (2 * r.pair) (first + i))

/-- Bytes of a stream that stand in its transmit queue. -/
def State.streamQueued (s : State) (e key : Nat) : Nat :=
  ((s.eth e).txq.filter (fun t => t.1 = key)).foldl (fun n t => n + t.2.length) 0

/-- Set M, VOID and DROP of the last packet of a frame (R421). -/
def sealPacket (pkt : List Byte) (void drop : Bool) : List Byte :=
  (pkt.set 1 (pkt.getD 1 0#8 ||| 0x80#8)).set 32 (pkt.getD 32 0#8 ||| BitVec.ofNat 8 (b2n void + 2 * b2n drop))

/-- Queue a packet of a stream on its port: one that does not fit is dropped (R420). -/
def State.rtpQueue (s : State) (f k : Nat) (pkt : List Byte) : State :=
  let cfg := s.streamCfg f k
  let e := bits cfg 1 1
  let key := 2 * f + k
  let w (o : Nat) : Nat := s.feedWord f (0x100 + 0x40 * k + o)
  let tag := if bit cfg 2 then some (bits cfg 3 12 + 8192 * bits cfg 15 3) else none
  let mac := w 0xC + 4294967296 * (w 0x10 % 65536)
  let (t, id) := s.ipIdent e
  let frame := ethFrame mac (s.mac e) tag 0x0800 (ipPacket (s.ip e) (w 4) 17 64 (bits cfg 18 6) id 16384
    (udpDatagram (s.ip e) (w 4) (w 8 / 65536) (w 8 % 65536) pkt))
  if s.streamQueued e key + frame.length ≤ 65536 then t.ethQueue e key frame
  else
    let s := (s.bump (feedReg f 0x5C)).event (aFeedEvt f) 0x100
    let s := s.setStream f k { (s.feed f).stream k with drop := true }
    s.kmpEvent 0x8501 (leBytes 1 s.node ++ leBytes 1 f ++ leBytes 1 k ++ leBytes 8 (s.feed f).frame) none

/-- The held packet of a stream leaves as the frame's last (R421). -/
def State.heldSend (s : State) (f k : Nat) (void : Bool) : State :=
  let r := (s.feed f).stream k
  match r.held with
  | none => s
  | some pkt => (s.setStream f k { r with held := none }).rtpQueue f k (sealPacket pkt void r.drop)

/-- A stream takes part in the frame. -/
def State.streamLive (s : State) (f k : Nat) : Bool := s.streamOn f k && !((s.feed f).stream k).idle

/-- Every packet of the frame has been formed. -/
def State.streamDone (s : State) (f k : Nat) : Bool := !s.streamLive f k || decide (s.streamPairs f k ≤ ((s.feed f).stream k).pair)

/-! ## CSI-2 transmitter (R422) -/

/-- The transmitter sends the frame of the feed. -/
def State.csiLive (s : State) (f : Nat) : Bool := s.csiOn f && (s.feed f).csi.live

/-- Lines of a feed wait no longer. -/
def State.csiForget (s : State) (f : Nat) : State :=
  { s with vid := { s.vid with csiOrder := s.vid.csiOrder.filter (fun g => g ≠ f) } }

/-- The feed whose line has been ready longest, among those that the transmitter sends (R422). -/
def State.csiNext (s : State) : Option Nat := s.vid.csiOrder.find? (fun f => s.csiLive f)

/-- The three lines of a pair of rows become ready when its second row has been consumed. -/
def State.csiPair (s : State) (f : Nat) : State :=
  let x := s.feed f
  if x.csi.live && !x.csi.dropped && !x.csi.finished && decide (x.consumed % 2 = 0) then
    { s with vid := { s.vid with csiOrder := s.vid.csiOrder ++ [f, f, f] } }
  else s

/-- Lines of the frame that are ready. -/
def State.csiReady (s : State) (f : Nat) : Nat := 3 * (min (s.feed f).consumed (s.feedH f) / 2)

/-- RAW10 packing of 10-bit samples (Table 12-2). -/
def raw10 (vs : List Nat) : List Byte :=
  (List.range ((vs.length + 3) / 4)).flatMap (fun i =>
    let v (j : Nat) : Nat := vs.getD (4 * i + j) 0
    [v 0 / 4, v 1 / 4, v 2 / 4, v 3 / 4, v 0 % 4 + 4 * (v 1 % 4) + 16 * (v 2 % 4) + 64 * (v 3 % 4)].map (fun b => BitVec.ofNat 8 b))

/-- Line `i` of the frame: data type and payload. -/
def State.csiLine (s : State) (f i : Nat) : Nat × List Byte :=
  let k := i / 3
  let w := s.feedW f
  if i % 3 < 2 then (0x2B, raw10 ((List.range w).map (fun x => s.codeLuma f (2 * k + i % 3) x / 64)))
  else (0x30, raw10 ((List.range w).map (fun x => s.codeChroma f (1 + x % 2) (2 * k) (x / 2 * 2) / 64)))

/-- Virtual channel of a feed. -/
def State.csiVc (s : State) (f : Nat) : Nat := bits (s.reg 0x20300008).toNat (4 * f) 4

/-- Frame number of FS and FE (R422). -/
def csiNumber (j : Nat) : List Byte := leBytes 2 (j % 65535 + 1)

/-- FS, once per frame. -/
def State.csiFs (s : State) (f : Nat) : State :=
  let x := s.feed f
  if x.csi.started then s
  else (s.emit (.csi (s.csiVc f) 0 (csiNumber x.frame))).onFeed f (fun x => { x with csi := { x.csi with started := true } })

/-- The embedded line and FE end the frame (R422). -/
def State.csiEnd (s : State) (f : Nat) (void : Bool) : State :=
  let x := s.feed f
  if s.csiLive f && x.csi.started && !x.csi.finished then
    let flags := s.feedFlags f + b2n void + 2 * b2n x.csi.dropped
    let emb := beBytes 4 x.frame ++ beBytes 8 (s.feedEdge f x.frame) ++ beBytes 4 flags
    (((s.emit (.csi (s.csiVc f) 0x12 emb)).emit (.csi (s.csiVc f) 1 (csiNumber x.frame))).onFeed f (fun x =>
      { x with csi := { x.csi with finished := true } })).csiForget f
  else s

/-- More than 8 lines of a virtual channel wait: the rest of the frame's lines are dropped, and the frame ends on the
channel with DROP = 1 (R422). -/
def State.csiOverflow (s : State) (f : Nat) : State :=
  let x := s.feed f
  if s.csiLive f && !x.csi.dropped && !x.csi.finished && decide (8 < s.csiReady f - x.csi.sent) then
    (((s.bump 0x2030000C).csiFs f).onFeed f (fun x => { x with csi := { x.csi with dropped := true } })).csiForget f
  else s

/-- Every line of the frame has been sent or dropped. -/
def State.csiDone (s : State) (f : Nat) : Bool :=
  let c := (s.feed f).csi
  !s.csiLive f || c.dropped || c.finished || decide (3 * (s.feedH f / 2) ≤ c.sent)

/-! ## Frames (R412 to R414) -/

/-- FREE is written with the rows consumed (R412). -/
def State.freeWrite (s : State) (f rows : Nat) : State :=
  let a := s.reg64 (feedReg f 0x18)
  s.issue { dst := gNode a, kind := 1, nbytes := 4, issuer := 12, ten := 7, addr := gLocal a, data := leBytes 4 ((s.feed f).frame * s.feedH f + rows) } .discard

/-- The void state of the frame becomes final (R414); stripe headers of a void frame that wait become void (R400, R423). -/
def State.feedVerdict (s : State) (f : Nat) (void : Bool) : State :=
  let x := s.feed f
  if x.open_ && x.verdict.isNone then
    let s := s.setFeed f { x with verdict := some void }
    let s := if void then (s.bump (feedReg f 0x50)).ringVoid (4 + f) x.count else s
    if x.ended then s.visClose f else s
  else s

/-- The frame ends once every output has formed all it has (R413, R421). -/
def State.feedEndCheck (s : State) (f : Nat) : State :=
  let x := s.feed f
  let vis := !s.visLive f || decide ((s.visGeom f).oh ≤ x.vrows)
  if x.open_ && !x.ended && decide (s.feedH f ≤ x.consumed) && vis && s.streamDone f 0 && s.streamDone f 1 && s.csiDone f then
    let s := (s.onFeed f (fun x => { x with ended := true })).set (fFeedState f) 1
    if x.verdict.isSome then s.visClose f else s
  else s

/-- The frame ends at once: it is void unless it had ended with its verdict final, and what it holds back leaves (R413, R436). -/
def State.feedCut (s : State) (f : Nat) : State :=
  let x := s.feed f
  let s := if (x.ended && x.verdict.isSome) || x.isVoid then s
    else (s.setFeed f { x with verdict := some true }).bump (feedReg f 0x50)
  let v := (s.feed f).isVoid
  let s := (((s.heldSend f 0 v).heldSend f 1 v).csiEnd f v).csiForget f
  (s.onFeed f (fun x => { x with ended := true })).visClose f

/-- A frame that never started is void (R413): its vision entries say so, and FREE passes it (R412). -/
def State.feedSkip (s : State) (f : Nat) : State :=
  let x := s.feed f
  let s := s.setFeed f { x with open_ := true, verdict := none, vrows := 0, vdone := false, visIdle := false, ended := true, free := s.free }
  let s := { s with free := s.free + 3 }
  let s := if s.visionOn f then s.ringOpen (16 + f) else s
  let s := (s.feedVerdict f true).freeWrite f (s.feedH f)
  s.onFeed f (fun x => { x with open_ := false, frame := x.frame + 1, count := x.count + 1 })

/-- Skip `n` frames that never started, and count them. -/
def State.feedSkips (s : State) (f n : Nat) : State :=
  let k := min n 64
  let s := (List.range k).foldl (fun s _ => s.feedSkip f) s
  let s := s.onFeed f (fun x => { x with frame := x.frame + (n - k), count := x.count + (n - k) })
  let s := if k < n then s.freeWrite f 0 else s
  ((s.bumpBy (feedReg f 0x50) (n - k)).bumpBy (feedReg f 0x48) n).event (aFeedEvt f) (b2n (0 < n))

/-- The frame in progress, if any, makes room for the next one. -/
def State.feedLeave (s : State) (f : Nat) : State :=
  let x := s.feed f
  if x.open_ then
    let s := if x.ended && x.verdict.isSome then s.feedCut f
      else ((s.feedCut f).bump (feedReg f 0x48)).event (aFeedEvt f) 1
    let s := if !x.ended && x.consumed < s.feedH f then s.freeWrite f (s.feedH f) else s
    s.onFeed f (fun x => { x with open_ := false, frame := x.frame + 1, count := x.count + 1 })
  else s

/-- Frame `frame` starts: the boundary of the feed (R413, R425, R428). -/
def State.feedStart (s : State) (f : Nat) : State :=
  let x := s.feed f
  let fresh (k : Nat) : StreamRun := { seq := (x.stream k).seq }
  let s := s.discardTxns (fun u => match u with | .feedRead g _ _ _ => g = f | .layerRead g _ _ _ _ => g = f | _ => false)
  let s := s.setFeed f
    { frame := x.frame, open_ := true, startAt := s.ctNs, streams := tblSet (fun _ => {}) (tblSet (fun _ => {}) [] 0 (fresh 0)) 1 (fresh 1),
      csi := { live := s.csiOn f }, count := x.count, readied := x.readied, free := s.free, active := x.active }
  let s := ({ s with free := s.free + 3 }).set (fFeedState f) 2
  let s := (s.setReg64 (feedReg f 0x38) x.frame).setBoundary (4 + f) x.frame
  let s := s.setApply (4 + f)
  let s := if s.visionOn f then s.ringOpen (16 + f) else s
  (List.range 4).foldl (fun s l => s.layerLatch f x.frame l) s

/-- AVAIL against frame `j`: how far it lies beyond j × HEIGHT + 1 (R413). -/
def State.availPast (s : State) (f j : Nat) : Int :=
  signed 32 (unsigned 32 ((s.feedWord f 0x28 : Int) - ((j * s.feedH f + 1 : Nat) : Int)))

/-- Start the frame that AVAIL names, skipping those it has passed (R413). -/
def State.feedAdvance (s : State) (f : Nat) : State :=
  let x := s.feed f
  let next := if x.open_ then x.frame + 1 else x.frame
  let d := s.availPast f next
  if s.get (fFeedEn f) = 1 && 0 ≤ d then
    ((s.feedLeave f).feedSkips f (d.toNat / s.feedH f)).feedStart f
  else s

/-- EN is set: the checks of R435, then the feed waits for its first frame. -/
def State.feedEnable (s : State) (f : Nat) : State :=
  let cause := s.feedCause f
  if cause = 0 then
    let s := s.setFeed f { frame := s.reg64 (feedReg f 0x20), active := (s.feed f).active }
    let s := (s.setDest (16 + f) {}).setReg (ringStat (16 + f)) 0#32
    ((s.set (fFeedEn f) 1).set (fFeedState f) 1).feedAdvance f
  else (s.event (aFeedEvt f) 0x200).set ⟨feedReg f 0x44, 0, 4⟩ cause

/-- EN is cleared: the feed stops and an armed set returns to OPEN (R430). -/
def State.feedDisable (s : State) (f : Nat) : State :=
  let s := s.setDisarm (4 + f)
  let s := s.discardTxns (fun u => match u with | .feedRead g _ _ _ => g = f | .layerRead g _ _ _ _ => g = f | _ => false)
  let s := ((s.setFeed f { frame := (s.feed f).frame, active := (s.feed f).active }).setDest (16 + f) {}).csiForget f
  (s.set (fFeedEn f) 0).set (fFeedState f) 0

/-- EN of a feed is written. -/
def State.feedEnWrite (s : State) (f : Nat) (en : Bool) : State :=
  if en then (if s.get (fFeedEn f) = 1 then s else s.feedEnable f)
  else if s.get (fFeedEn f) = 1 then s.feedDisable f else s

/-- EN of an output of a feed: 1 display, 2 coding, 3 vision. -/
def fOutputEn (f k : Nat) : Fld := ⟨feedReg f (if k = 3 then 0x400 else 0x100 + 0x40 * (k - 1)), 0, 1⟩

/-- EN of an output is written: the sequence of a stream starts at 0 when it is enabled (R420, R428). An output that is enabled in the
course of a frame starts with the next one. -/
def State.outputEn (s : State) (f k : Nat) (on : Bool) : State :=
  if s.get (fOutputEn f k) = b2n on then s
  else
    let s := s.set (fOutputEn f k) (b2n on)
    let late := on && (s.feed f).open_
    if k = 3 then s.onFeed f (fun x => { x with visIdle := late || x.visIdle }) else s.setStream f (k - 1) { idle := late }

/-- An output of a feed is turned on or off: 0 the feed with all its outputs, 1 display, 2 coding, 3 vision. An output turns on only
while its feed is on (Table 17-27). -/
def State.streamSet (s : State) (f k : Nat) (on : Bool) : State :=
  if k = 0 then
    let s := s.feedEnWrite f on
    if on then s else ([1, 2, 3] : List Nat).foldl (fun s i => s.outputEn f i false) s
  else if on && s.get (fFeedEn f) = 0 then s
  else s.outputEn f k on

/-- Layers of a running feed are added to or taken from LAYER_EN, from the next frame on (R425, R428). A set that is ARMED stays as it
is (log entry 41). -/
def State.layerSet (s : State) (f layers : Nat) (on : Bool) : State :=
  let a := feedReg f 0xD4
  let m := BitVec.ofNat 32 (layers % 16)
  let w := if on then s.reg a ||| m else s.reg a &&& ~~~ m
  if s.get (fFeedEn f) = 0 || s.get (fSetState (4 + f)) = 1 || w = s.reg a then s
  else (s.shadowWrite (4 + f) (fun s => s.setReg a w)).commitSet (4 + f) (s.get (fAppliedId (4 + f)))
    ((s.feed f).frame + b2n (s.feed f).open_)

/-- EN of a feed is written (R435). -/
def execFeedEn (f : Fin 8) (en : Bool) (s : State) : Out := s.runGate 12 (fun s => .next (s.feedEnWrite f en))

/-- A write of AVAIL (R412, R413). -/
def State.availWrite (s : State) (f : Nat) (v : Word) : State := (s.setReg (feedReg f 0x28) v).feedAdvance f

/-- AVAIL is written. -/
def execFeedAvailWrite (f : Fin 8) (v : Word) (s : State) : Out := s.runGate 12 (fun s => .next (s.availWrite f v))

/-- Two epochs have passed since the boundary without a verdict: the frame is void (R414). -/
def State.verdictLate (s : State) (f : Nat) : State :=
  let x := s.feed f
  if x.open_ && x.verdict.isNone && decide (x.startAt + 2000000000 / s.rate ≤ s.ctNs) then
    ((s.bump (feedReg f 0x4C)).event (aFeedEvt f) 2).feedVerdict f true
  else s

/-- A write of VERDICT (R414): one that does not name the frame in progress or just ended is ignored; the end of the wait goes before a
verdict (R436). -/
def State.verdictWrite (s : State) (f : Nat) (v : Word) : State :=
  let s := (s.verdictLate f).setReg (feedReg f 0x2C) v
  if (s.feed f).frame % 2147483648 = v.toNat / 2 then s.feedVerdict f (v.getLsbD 0) else s

/-- VERDICT is written. -/
def execFeedVerdictWrite (f : Fin 8) (v : Word) (s : State) : Out := s.runGate 12 (fun s => .next (s.verdictWrite f v))

/-- Two epochs have passed since the boundary without a verdict. -/
def execVerdictLate (f : Fin 8) (s : State) : Out := s.run (fun s => .next (s.verdictLate f))

/-- Source rows of the frame in progress that the producer has made available (R412). -/
def State.rowsAvail (s : State) (f : Nat) : Nat := min (s.feedH f) ((s.availPast f (s.feed f).frame) + 1).toNat

/-- First source row that output row `y` of a geometry needs. -/
def Geom.firstRow (g : Geom) (h y : Nat) : Nat :=
  let h' := h / g.d
  (if g.oh = h' then y else (bilinearAt y g.oh h').1) * g.d

/-- The first source row that an output of the frame has still to be formed from (R415). -/
def State.rowFloor (s : State) (f : Nat) : Nat :=
  let x := s.feed f
  let h := s.feedH f
  let disp := if s.streamDone f 0 then x.consumed else (s.dispGeom f).firstRow h (2 * (x.stream 0).pair)
  let code := if s.streamDone f 1 then x.consumed else 2 * (x.stream 1).pair
  let vis := if s.visLive f && decide (x.vrows < (s.visGeom f).oh) then (s.visGeom f).firstRow h x.vrows else x.consumed
  let csi := if s.csiDone f then x.consumed else 2 * (x.csi.sent / 3)
  min x.consumed (min (min disp code) (min vis csi))

/-- Rows that no output needs any more leave the formatter (R22). -/
def State.trimRows (s : State) (f : Nat) : State :=
  let n := s.rowFloor f
  s.onFeed f (fun x => { x with rows := x.rows.filter (fun e => decide (n ≤ e.1)) })

/-- READs of the formatter that are outstanding, over all feeds (R412). -/
def State.readsOut (s : State) : Nat := (List.range 8).foldl (fun n f => n + (s.feed f).reads) 0

/-- Source rows of a frame that the formatter holds at most (DESIGN CHOICE, log entry 36). -/
def formRows : Nat := 64

/-- Bytes of a source row that are read: whole words (R94), which ROW_STRIDE holds. -/
def State.feedRowRead (s : State) (f : Nat) : Nat := (s.feedRowBytes f + 3) / 4 * 4

/-- READ the next part of a source row: at most 512 bytes that cross no ring end (R412), and no row further ahead of the outputs than the
formatter holds (R22). -/
def State.feedReadNext (s : State) (f : Nat) : State :=
  let x := s.feed f
  let n := s.feedRowRead f
  let y := x.asked / n
  if 32 ≤ s.readsOut || s.rowsAvail f ≤ y || s.rowFloor f + formRows ≤ y then s
  else
    let off := x.asked % n
    let ring := 2 ^ (s.feedWord f 4 % 32)
    let at_ := ((x.frame * s.feedH f + y) * s.feedWord f 8 + off) % ring
    let len := min (n - off) (min 512 (ring - at_))
    let src := s.reg64 (feedReg f 0x10)
    (s.setFeed f { x with asked := x.asked + len, reads := x.reads + 1 }).issue
      { dst := gNode src, kind := 2, nbytes := 2, issuer := 12, ten := 7, addr := gLocal src + at_, data := leBytes 2 len }
      (.feedRead f x.frame y off)

/-- Address of byte `off` of row `row` of a layer's latched buffer (R425). -/
def State.layerAddr (s : State) (f l buf row off : Nat) : Nat :=
  s.reg64 (feedReg f (0x20C + 0x80 * l)) + buf * s.layerWord f l 0x14 + row * s.layerWord f l 0x18 + off

/-- Bytes of a row that a READ brings from its byte `off` at address `a` on, with the bytes of the first word before it: 512 together at
most, in whole words (R94). -/
def State.layerSpan (s : State) (f l a off : Nat) : Nat := min (s.layerRowBytes f l - off) (512 - a % 4)

/-- READ the next part of a layer's rows (R426). A part whose address has bits 57 to 48 set is an address fault (R86): it never lands. -/
def State.layerReadNext (s : State) (f l : Nat) : State :=
  let x := s.feed f
  let r := x.layer l
  let n := s.layerRowBytes f l
  let h := bits (s.layerWord f l 8) 16 13
  if 32 ≤ s.readsOut || !s.layerOn f l || !r.shown || r.dropFrom.isSome || n = 0 || h * n ≤ r.asked then s
  else
    let row := r.asked / n
    let off := r.asked % n
    let a := s.layerAddr f l r.buf row off
    let len := s.layerSpan f l a off
    let t := s.setFeed f { x with layers := tblSet (fun _ => {}) x.layers l { r with asked := r.asked + len } }
    if gMid a ≠ 0 then t
    else (t.setFeed f { t.feed f with reads := x.reads + 1 }).issue
      { dst := gNode a, kind := 2, nbytes := 2, issuer := 12, ten := 7, addr := gLocal a / 4 * 4, data := leBytes 2 ((a % 4 + len + 3) / 4 * 4) }
      (.layerRead f x.frame l row off)

/-- The formatter reads on: layer rows ahead of the display, then source rows (R412, R426). -/
def execFeedRowRead (f : Fin 8) (s : State) : Out := s.run (fun s =>
  let x := s.feed f
  .next (
    if s.get (fFeedEn f) = 1 && x.open_ && !x.ended && s.clocked 12 then
      ((List.range 4).foldl (fun s l => s.layerReadNext f l) s).feedReadNext f
    else s))

/-- A source row is whole: it is consumed, the vision rows it completes are formed, and FREE is written every 32 rows and at
the end of the frame (R412). -/
def State.rowConsumed (s : State) (f : Nat) (row : List Byte) : State :=
  let x := s.feed f
  let n := x.consumed + 1
  let s := s.setFeed f { x with consumed := n, rows := tblSet (fun _ => []) x.rows x.consumed row, chunks := x.chunks.filter (fun c => c.1 ≠ x.consumed) }
  let s := if n % 32 = 0 || n = s.feedH f then s.freeWrite f n else s
  ((((s.visForm f (s.visGeom f).oh).csiPair f).csiOverflow f).trimRows f).feedEndCheck f

/-- Consume the rows that are whole, in order; at most `n`. -/
def State.consumeRows (s : State) (f : Nat) : Nat → State
  | 0 => s
  | n + 1 =>
    let x := s.feed f
    let row := landed x.chunks x.consumed
    if x.open_ && !x.ended && x.consumed < s.feedH f && s.feedRowBytes f ≤ row.length then (s.rowConsumed f row).consumeRows f n else s

/-- Bytes of a source row land (R412). -/
def State.feedLanded (s : State) (f frame row off : Nat) (data : List Byte) : State :=
  let x := s.feed f
  if x.open_ && x.frame = frame then
    let s := s.setFeed f { x with reads := x.reads - 1, chunks := x.chunks ++ [(row, off, data)] }
    s.consumeRows f 64
  else s

/-- A READ of a source row ends without data: the frame is void, whatever its verdict said, and ends (R412, R437). -/
def State.feedLost (s : State) (f frame : Nat) : State :=
  let x := s.feed f
  if x.open_ && x.frame = frame then
    let s := s.setFeed f { x with reads := x.reads - 1, verdict := some true, ended := true }
    let s := if x.isVoid then s else s.bump (feedReg f 0x50)
    let s := if x.consumed < s.feedH f && !x.ended then s.freeWrite f (s.feedH f) else s
    ((s.visClose f).csiForget f).set (fFeedState f) 1
  else s

/-- Bytes of a layer row land (R426). -/
def State.layerLanded (s : State) (f frame l row off : Nat) (data : List Byte) : State :=
  let x := s.feed f
  let r := x.layer l
  let a := s.layerAddr f l r.buf row off
  if x.open_ && x.frame = frame then
    s.setFeed f { x with reads := x.reads - 1, layers := tblSet (fun _ => {}) x.layers l { r with chunks := r.chunks ++ [(row, off, (data.drop (a % 4)).take (s.layerSpan f l a off))] } }
  else s

/-- A READ of a layer row ends without data: the row never lands (R426). -/
def State.layerLost (s : State) (f frame : Nat) : State :=
  let x := s.feed f
  if x.open_ && x.frame = frame then s.setFeed f { x with reads := x.reads - 1 } else s

/-- The source rows of a line pair have been consumed. -/
def State.pairReadyFor (s : State) (f k pair : Nat) : Bool :=
  let n := (s.feed f).consumed
  if k = 0 then decide ((s.dispGeom f).lastRow (s.feedH f) (2 * pair + 1) < n) else decide (2 * pair + 1 < n)

/-- The next packet of a stream is formed; the one held back until now is queued (R419 to R421, R426). -/
def execRtpPacketSend (f : Fin 8) (k : Fin 2) (s : State) : Out := s.run (fun s =>
  let x := s.feed f
  let r := x.stream k
  .next (
    if s.get (fFeedEn f) = 1 && x.open_ && !x.ended && s.streamLive f k && s.clocked 12 && decide (r.pair < s.streamPairs f k) && s.pairReadyFor f k r.pair then
      let s := if k.val = 0 && r.part = 0 then (s.layersReady f (2 * r.pair)).layersReady f (2 * r.pair + 1) else s
      let pkt := s.rtpPacket f k r
      let s := match r.held with | some h => s.rtpQueue f k h | none => s
      let n := (s.packetSpan f k r.part).2.2
      let last := decide (n ≤ r.part + 1)
      let r := (s.feed f).stream k
      (s.setStream f k { r with seq := (r.seq + 1) % 4294967296, held := some pkt, pair := if last then r.pair + 1 else r.pair,
                                part := if last then 0 else r.part + 1 }).trimRows f |>.feedEndCheck f
    else s))

/-- The frame's void state is final: the held packet leaves with M = 1 (R421). -/
def execHeldPacketSend (f : Fin 8) (k : Fin 2) (s : State) : Out := s.run (fun s =>
  let x := s.feed f
  .next (
    match x.verdict with
    | some void => if x.open_ && (x.ended || s.streamDone f k) then s.heldSend f k void else s
    | none => s))

/-- The transmitter sends the next ready line of a feed, if none has been ready longer, or, after its lines and once the void state is
final, the embedded line and FE (R422). -/
def execCsitxLineSend (f : Fin 8) (s : State) : Out := s.run (fun s =>
  let x := s.feed f
  let c := x.csi
  .next (
    if s.csiLive f && s.get (fFeedEn f) = 1 && x.open_ && s.clocked 13 && !c.finished then
      if !c.dropped && decide (c.sent < s.csiReady f) then
        if s.csiNext ≠ some f.val then s else
        let s := { s with vid := { s.vid with csiOrder := s.vid.csiOrder.erase f } }.csiFs f
        let (dt, data) := s.csiLine f c.sent
        ((s.emit (.csi (s.csiVc f) dt data)).onFeed f (fun x => { x with csi := { x.csi with sent := x.csi.sent + 1 } })).trimRows f |>.feedEndCheck f
      else
        match x.verdict with
        | some void => if s.csiDone f || x.ended then s.csiEnd f void else s
        | none => s
    else s))

/-- A producer publishes a buffer of a layer (R425). -/
def State.layerReady (s : State) (f l : Nat) (v fid : Word) : State :=
  let a := feedReg f (0x224 + 0x80 * l)
  let s := (s.setReg a (v &&& 3#32)).setReg (a + 4) fid
  (s.bump (a + 0xC)).onFeed f (fun x => { x with readied := if s.get (fFeedEn f) = 1 then x.readied ||| 2 ^ l else x.readied })

/-- READY and READY_FID of a layer are written in one transaction. -/
def execLayerReadyWrite (f : Fin 8) (l : Fin 4) (v fid : Word) (s : State) : Out := s.runGate 12 (fun s => .next (s.layerReady f l v fid))

end Sys2Proof.Machine
end

