-- ==== Sys2Proof/Machine/Services.lean ====
section
/-! DEFINITION. Services: obstacle warning, passenger counting and video (18). -/

namespace Sys2Proof.Machine

/-! ### Instances -/

/-- An instance. -/
def State.service (s : State) (id : Nat) : Option Service := s.con.services.find? (fun v => v.id = id)
/-- The state with an instance replaced or added. -/
def State.setService (s : State) (v : Service) : State :=
  let vs := if s.con.services.any (fun x => x.id = v.id) then s.con.services.map (fun (x : Service) => if x.id = v.id then v else x)
    else s.con.services ++ [v]
  { s with con := { s.con with services := vs } }
/-- Kind of a service ID: 1 obstacle warning, 2 passenger count, 3 video (R531). -/
def svcKind (id : Nat) : Nat := id / 4096
/-- The destination block of an instance (Table 18-2). -/
def Service.dest (v : Service) : List Byte := if svcKind v.id = 1 then slice v.cfg 28 32 else slice v.cfg 0 32
/-- Publishers: node and port. -/
def pubsOf (d : List Byte) : List (Nat × Nat) := (List.range (min 4 (byteAt d 0))).map (fun i => (byteAt d (12 + 2 * i), byteAt d (13 + 2 * i)))
/-- Doors of a passenger-count instance. -/
def Service.doorCount (v : Service) : Nat := byteAt v.cfg 32
/-- Byte `i` of a door's record (Table 18-10). -/
def Service.doorByte (v : Service) (k i : Nat) : Nat := byteAt v.cfg (36 + 8 * k + i)
/-- Cameras of a door: node and pipeline. -/
def Service.doorCams (v : Service) (k : Nat) : List (Nat × Nat) :=
  ([(v.doorByte k 4, v.doorByte k 5), (v.doorByte k 6, v.doorByte k 7)] : List (Nat × Nat)).filter (fun c => c.1 ≠ 0xFF)
/-- Cameras of a warning set. -/
def Service.cams (v : Service) : List (Nat × Nat) := (List.range (min 4 (byteAt v.cfg 0))).map (fun k => (byteAt v.cfg (4 + 2 * k), byteAt v.cfg (5 + 2 * k)))
/-- A door of an instance. -/
def Service.door (v : Service) (k : Nat) : Door := tblGet (fun _ => {}) v.doors k
/-- The instance with a door replaced. -/
def Service.setDoor (v : Service) (k : Nat) (d : Door) : Service := { v with doors := tblSet (fun _ => {}) v.doors k d }
/-- Entries of a video configuration: node, feed, output, layer mask. -/
def Service.videos (v : Service) : List (Nat × Nat × Nat × Nat) :=
  (List.range (byteAt v.cfg 0)).map (fun i => (byteAt v.cfg (1 + 4 * i), byteAt v.cfg (2 + 4 * i), byteAt v.cfg (3 + 4 * i), byteAt v.cfg (4 + 4 * i)))

/-- A chip that the membership has, or this chip. -/
def State.live (s : State) (n : Nat) : Bool := n = s.node || bit s.loss.members n

/-- A camera of this chip is soiled, blinded or frozen (R394, R365); of another chip's cameras this chip knows nothing. -/
def State.camBad (s : State) (c : Nat × Nat) : Bool :=
  c.1 = s.node && (decide (2 ≤ (s.cam c.2).obs.st) || bit ((s.cam c.2).record.getD 5 0) 8)

/-- Counters of a feed that R547 watches: void frames, stale layers, late layers, dropped packets. -/
def State.feedTrouble (s : State) (f : Nat) : Nat :=
  (s.reg (feedReg f 0x50)).toNat + (s.reg (feedReg f 0x54)).toNat + (s.reg (feedReg f 0x58)).toNat + (s.reg (feedReg f 0x5C)).toNat

/-- An output of a feed runs: 0 the feed, 1 display, 2 coding, 3 vision. A feed of another live chip is taken to run. -/
def State.videoRuns (s : State) (x : Nat × Nat × Nat × Nat) : Bool :=
  if x.1 = s.node then
    let c := (s.reg (feedReg x.2.1 0)).toNat
    bit c 0 && (x.2.2.1 = 0 || (if x.2.2.1 = 3 then bit (s.reg (feedReg x.2.1 0x400)).toNat 0
      else bit (s.reg (feedReg x.2.1 (0x100 + 0x40 * (x.2.2.1 - 1)))).toNat 0))
  else s.live x.1

/-- A video instance starts or stops its streams and layers on this chip (R547). -/
def State.videoSet (s : State) (v : Service) (on : Bool) : State :=
  (v.videos.filter (fun x => x.1 = s.node)).foldl (fun s x => (s.streamSet x.2.1 x.2.2.1 on).layerSet x.2.1 x.2.2.2 on) s

/-- The sum of the counters that R547 watches, over the named feeds of this chip. -/
def State.videoTrouble (s : State) (v : Service) : Nat :=
  ((v.videos.filter (fun x => x.1 = s.node)).map (fun x => s.feedTrouble x.2.1)).foldl (· + ·) 0

/-- Stale limit: 3 abandoned epochs at 30 Hz, 2 at 25 Hz (R540). -/
def State.staleLimit (s : State) : Nat := if s.tim.rate25 then 2 else 3

/-- A bit of a condition word. -/
def condBit (c : Bool) (n : Nat) : Nat := if c then 2 ^ n else 0

/-- The conditions of an instance, by cause code: bit c makes it UNAVAILABLE, bit 16 + c DEGRADED (R540, R546, R547). -/
def State.svcConds (s : State) (v : Service) : Nat :=
  let fb := (s.plan v.plan).fallback.isSome
  let own := condBit (!v.started) 1 ||| v.conds
  match svcKind v.id with
  | 1 =>
    let bad (req : Bool) : Bool := (List.range v.cams.length).any (fun k => bit (byteAt v.cfg 2) k = req && s.camBad (v.cams.getD k (0, 0)))
    own ||| condBit (s.vid.degraded.contains (byteAt v.cfg 1)) 4 ||| condBit (bad true) 3 ||| condBit (bad false) 19 |||
      condBit (decide (s.staleLimit ≤ v.stale)) 5 ||| condBit fb 18 ||| condBit (bit (s.reg 0x24000004).toNat 0) 8
  | 2 =>
    let doors := List.range v.doorCount
    own ||| condBit fb 18 ||| condBit (doors.any (fun k => (v.doorCams k).any (fun c => s.camBad c || !s.live c.1))) 19 |||
      condBit (doors.any (fun k => (v.doorCams k).all (fun c => !s.live c.1))) 3
  | _ =>
    let late := match v.badEpoch with | some n => decide (s.tim.epoch < n + 30) | none => false
    own ||| condBit (v.videos.all (fun x => !s.videoRuns x)) 1 ||| condBit (late || v.videos.any (fun x => !s.live x.1)) 19

/-- The lowest cause code whose bit is set. -/
def firstCause (c : Nat) : Nat := ((List.range 16).find? (fun i => bit c i)).getD 0

/-- SERVICE_STATE to the subscribed sessions (R532, Table 17-14); a chip other than the pole reports it. -/
def State.svcEvent (s : State) (v : Service) : State :=
  let data := leBytes 2 v.id ++ leBytes 1 v.st ++ leBytes 1 v.cause
  let ten := if v.tenant < 4 then some v.tenant else none
  if s.executes then s.deliverTo (fun sid => v.subs.contains sid) 0x8601 s.node data ten
  else s.reportEvent 0x8601 data ten

/-- Put an instance into a state with a cause. An obstacle warning that becomes UNAVAILABLE forgets its level (Table 18-5). -/
def State.enterState (s : State) (v : Service) (st cause : Nat) : State :=
  if st = v.st then s.setService v
  else
    let v := { v with st := st, cause := cause }
    let v := if st = 2 then { v with level := 0, held := 0, good := 0 } else v
    (s.setService v).svcEvent v

/-- Bring an instance's state up to its conditions (Table 18-5, R546, R547). A warning leaves UNAVAILABLE only after 8 committed
epochs without a condition. -/
def State.refreshService (s : State) (v : Service) : State :=
  let c := s.svcConds v
  let un := c % 65536
  let dg := c / 65536
  if un ≠ 0 then s.enterState v 2 (firstCause un)
  else if svcKind v.id = 1 && v.st = 2 && decide (v.good < 8) then s.setService v
  else if dg ≠ 0 then s.enterState v 1 (firstCause dg)
  else s.enterState v 0 0

/-- Bring every instance up to date. -/
def State.refreshServices (s : State) : State :=
  s.con.services.foldl (fun s v => match s.service v.id with | some v => s.refreshService v | none => s) s

/-- Make a condition hold for an instance, or end. -/
def Service.cond (v : Service) (n : Nat) (on : Bool) : Service :=
  { v with conds := if on then v.conds ||| 2 ^ n else v.conds - (if bit v.conds n then 2 ^ n else 0) }

/-- Make a condition hold for the instances that `f` selects, or end. -/
def State.condAll (s : State) (f : Service → Bool) (n : Nat) (on : Bool) : State :=
  s.con.services.foldl (fun s v =>
    match s.service v.id with
    | some v => if f v then s.refreshService (v.cond n on) else s
    | none => s) s

/-! ### Messages -/

/-- A VALID, STALE or UNAVAILABLE message was formed or received (R615). -/
def State.sawWarning (s : State) (id st : Nat) : State :=
  let old := tblGet (fun _ => (3, none)) s.saf.svc id
  { s with saf := { s.saf with svc := tblSet (fun _ => (3, none)) s.saf.svc id (st, if st = 0 then some s.ctNs else old.2) } }

/-- The IEEE 802.1Q control word of a destination block. -/
def destTag (d : List Byte) : Option Nat :=
  let v := fieldAt d 2 2
  if bit v 15 then some (v % 4096 + 8192 * bits v 12 3) else none

/-- PUB_CT of a message of either type; a count message carries none, so that it counts as formed when its CRC is made. -/
def pubCt (m : List Byte) : Option Nat := if byteAt m 0 = 1 then some (fieldAt m 24 8) else none

/-- This chip publishes a message on its ports, unless the message is more than 10 ms old (R533, R534). -/
def State.publish (s : State) (v : Service) (m : List Byte) : State :=
  let d := v.dest
  let late := match pubCt m with | some t => decide (t + 10000000 < s.ctNs) | none => false
  let ports := (pubsOf d).filter (fun p => p.1 = s.node)
  if ports.isEmpty then s
  else if late then s.setService { v with discards := v.discards + 1 }
  else
    ports.foldl (fun s p => s.udpSend (p.2 % 2) 16 (beAt d 4 4) (fieldAt d 8 2) (fieldAt d 8 2) (byteAt d 10) (byteAt d 1 % 64) (destTag d) m) s

/-- The mailbox of path 3 to which the model sends service messages: the spec names none. -/
def svcMailbox : Nat := 0x26001200

/-- A message goes to every publisher and to the shadow, by MSG in TC2 to other chips (R533). -/
def State.sendService (s : State) (v : Service) (m : List Byte) : State :=
  let s := s.setService { v with published := v.published + 1 }
  let s := if byteAt m 0 = 1 then s.sawWarning v.id (byteAt m 7) else s
  let s := match s.service v.id with | some v => s.publish v m | none => s
  let nodes := ((pubsOf v.dest).map (fun p => p.1) ++ v.shadowNode.toList).eraseDups.filter (fun n => n ≠ s.node)
  nodes.foldl (fun s n => s.issue { dst := n, kind := 3, nbytes := m.length, issuer := 13, ten := 7, addr := svcMailbox, data := m } .firmware) s

/-- What a shadow keeps of a message, so that it can go on as composer: the next epoch or SEQ, and the level and held count, which a
STALE message leaves as they are (R537; DEDUCED, log entry 41). -/
def State.shadowed (s : State) (v : Service) (m : List Byte) : Service :=
  if byteAt m 0 = 1 then
    let n := s.tim.epoch - (s.tim.epoch % 4294967296 + 4294967296 - fieldAt m 8 4) % 4294967296
    let v := { v with shadow := m, next := n + 1, lastSeq := fieldAt m 8 4 }
    match byteAt m 7 with
    | 0 => { v with level := byteAt m 40, held := fieldAt m 48 2 }
    | 1 => v
    | _ => { v with level := 0, held := 0 }
  else
    let v := { v with shadow := m, seq := fieldAt m 8 4 }
    match (List.range v.doorCount).find? (fun k => v.doorByte k 0 = byteAt m 7) with
    | some k => v.setDoor k { v.door k with last := m }
    | none => v

/-- A service message arrives from the composer: it is published, and a shadow keeps it (R533, R537, R615). -/
def State.serviceMsg (s : State) (m : List Byte) : State :=
  let id := fieldAt m 2 2
  let s := if byteAt m 0 = 1 then s.sawWarning id (byteAt m 7) else s
  match s.service id with
  | none => s
  | some v =>
    let v := if v.shadowNode = some s.node then s.shadowed v m else v
    (s.setService v).publish v m

/-- CONST_ID of the configuration record (Table 17-20). -/
def State.constId (s : State) : Nat := s.cfgField 176 2

/-- VT as written into `CLK_VT_OFS` (R140). -/
def State.vtOfs (s : State) : Nat := s.reg64 0x23000090

/-- This chip's share of a plan in force: the fallback's where one runs; what another chip distributed where this one holds no
record of its own. -/
def State.share (s : State) (plan sel : Nat) : Config.Share :=
  match s.con.shares.find? (fun x => x.1 = plan * 128 + sel) with
  | some x => x.2
  | none => Config.stagedShare plan sel

/-- Selector of the share in force. -/
def State.shareSel (s : State) (plan : Nat) : Nat := match (s.plan plan).fallback with | some x => 1 + x | none => 0

/-- Result output of a plan in force on this chip: address and distance of the banks. -/
def State.resultOf (s : State) (plan : Nat) : Option (Nat × Nat) := (s.share plan (s.shareSel plan)).result

/-- An instance goes on with another plan or composer from boundary(n): epochs before it keep the decisions and the result bank of the
plan before, and a new composer forms its own messages from n on (R549). `s` is the state before the change. -/
def State.replan (s : State) (old new : Service) (n : Nat) : Service :=
  if !old.started then new
  else
    let v := { new with planFrom := n, oldPlan := old.plan, oldResult := s.resultOf old.plan }
    if new.composer = s.node && old.composer ≠ s.node then { v with composeFrom := n } else v

/-- The plan of an instance for epoch `n` (R549). -/
def Service.planAt (v : Service) (n : Nat) : Nat := if n < v.planFrom then v.oldPlan else v.plan

/-- The fate of an epoch for an instance. -/
def State.svcFate (s : State) (v : Service) (n : Nat) : Option Bool := s.fate (v.planAt n) n

/-- FALLBACK of a message: set from the epoch of the switch on (R549). -/
def State.onFallback (s : State) (v : Service) (n : Nat) : Bool :=
  (s.plan (v.planAt n)).fallback.isSome && (decide (v.planFrom ≤ n) || decide (v.oldPlan ≠ v.plan))

/-- The result bank of epoch `n` as the composer's firmware reads it, TEN 7: none when an access is refused (R535, R650). -/
def State.resultBank (s : State) (v : Service) (n len : Nat) : State × Option (List Byte) :=
  match (if n < v.planFrom then v.oldResult else s.resultOf v.plan) with
  | none => (s, none)
  | some (a, d) =>
    s.localGet (a + n % 2 * d) len

/-- A warning record with COUNT above 16 or a nonzero reserved byte (R535). -/
def warnRecordOk (r : List Byte) : Bool :=
  decide (byteAt r 0 ≤ 16) && byteAt r 1 = 0 && decide (leNat (slice r 4 12) = 0) &&
    (List.range (byteAt r 0)).all (fun i => decide (leNat (slice r (16 + 16 * i + 10) 6) = 0))

/-- A track: range, time to collision in ms (none is infinite), confidence. -/
structure Track where
  range : Nat
  ttc : Option Nat
  conf : Nat
  deriving DecidableEq, Repr

/-- The considered tracks of a record (R536). -/
def tracksOf (r : List Byte) (confMin : Nat) : List Track :=
  (List.range (byteAt r 0)).filterMap (fun i =>
    let o := 16 + 16 * i
    let v := signed 16 (fieldAt r (o + 2) 2)
    if byteAt r (o + 6) = 1 && decide (confMin ≤ byteAt r (o + 7)) then
      some { range := fieldAt r o 2, ttc := if 0 < v then some (fieldAt r o 2 * 1000 / v.toNat) else none, conf := byteAt r (o + 7) }
    else none)

/-- Whether the first track is more critical than the second (R536). -/
def Track.before (a b : Track) : Bool :=
  match a.ttc, b.ttc with
  | some x, some y => decide (x < y) || (x = y && decide (a.range < b.range))
  | some _, none => true
  | none, some _ => false
  | none, none => decide (a.range < b.range)

/-- The critical track: least time to collision, then smaller range, then lower index (R536). -/
def critical : List Track → Option Track
  | [] => none
  | t :: ts => match critical ts with
    | none => some t
    | some u => if u.before t then some u else some t

/-- The raw level of the critical track (R536); `cfg` is the instance's configuration. -/
def rawLevel (cfg : List Byte) : Option Track → Nat
  | none => 0
  | some t =>
    let hit (k : Nat) : Bool := (match t.ttc with | some x => decide (x ≤ fieldAt cfg (12 + 2 * k) 2) | none => false) ||
      decide (t.range ≤ fieldAt cfg (18 + 2 * k) 2)
    if hit 2 then 3 else if hit 1 then 2 else if hit 0 then 1 else 0

/-- The published level and held count of a VALID epoch (R537). -/
def stepLevel (hold raw level held : Nat) : Nat × Nat :=
  if level ≤ raw then (raw, 0)
  else if hold ≤ held + 1 then (level - 1, 0)
  else (level, held + 1)

/-- edge_n of the camera set's FSYNC output; of a camera on another chip, the boundary (R136, R538). -/
def State.setEdge (s : State) (v : Service) (n : Nat) : Nat :=
  match v.cams.find? (fun c => c.1 = s.node) with
  | some c => s.camEdge c.2 (n * fsMult (s.fs (s.get (fFsyncSel c.2))).cfg)
  | none => s.boundary n

/-- The obstacle-warning message of epoch `n` (Table 18-4). -/
def State.warning (s : State) (v : Service) (n st cams : Nat) (t : Option Track) : List Byte :=
  let valid := decide (st = 0)
  let flags := b2n (decide (v.st = 1)) + 2 * b2n s.tim.vtValid + 4 * b2n (s.onFallback v n) + 8 * b2n (valid && t.isNone)
  let ttc := match t with | some t => (match t.ttc with | some x => min x 0xFFFE | none => 0xFFFF) | none => 0xFFFF
  let m := leBytes 1 1 ++ leBytes 1 1 ++ leBytes 2 v.id ++ leBytes 2 s.constId ++ leBytes 1 s.node ++ leBytes 1 st ++ leBytes 4 n ++
    leBytes 4 s.con.formId ++ leBytes 8 (s.setEdge v n) ++ leBytes 8 s.ctNs ++ leBytes 8 s.vtOfs ++
    leBytes 1 (if valid then v.level else 0) ++ leBytes 1 flags ++
    leBytes 2 (if valid then (t.map (fun t => t.range)).getD 0xFFFF else 0xFFFF) ++ leBytes 2 (if valid then ttc else 0xFFFF) ++
    leBytes 1 (if valid then (t.map (fun t => t.conf)).getD 0 else 0) ++ leBytes 1 v.cause ++ leBytes 2 v.held ++
    leBytes 2 (if valid then cams else 0) ++ leBytes 8 0
  m ++ leBytes 4 (crc32c m).toNat

/-- Form and send the warning of epoch `n`. -/
def State.sendWarning (s : State) (v : Service) (n st cams : Nat) (t : Option Track) : State :=
  let m := s.warning v n st cams t
  s.sendService { v with next := n + 1, lastSeq := n % 4294967296, noTarget := decide (st = 0) && t.isNone } m

/-- The composer forms the next warning of an instance: VALID for a committed epoch, STALE for an abandoned one, UNAVAILABLE after
boundary(n + 1) (R535 to R540). A new composer publishes STALE what the old one had not formed (R549). -/
def execWarningCompose (svc : Nat) (s : State) : Out := s.run (fun s =>
  .next (
    match s.service svc with
    | none => s
    | some v =>
      let n := v.next
      if svcKind svc ≠ 1 || !v.started || decide (v.composer ≠ s.node) then s
      else if v.st = 2 || decide (n < v.validFrom) then
        if s.boundary (n + 1) ≤ s.ctNs then s.sendWarning v n 2 0 none else s
      else if n < v.composeFrom then s.sendWarning v n 1 0 none
      else match s.svcFate v n with
        | none => s
        | some true => s.sendWarning v n 1 0 none
        | some false =>
          if v.bads.contains n then s.sendWarning v n 1 0 none
          else
            match s.resultBank v n 272 with
            | (s, none) => s.sendWarning v n 1 0 none
            | (s, some r) =>
              let t := critical (tracksOf r (byteAt v.cfg 3))
              let (level, held) := stepLevel (fieldAt v.cfg 24 2) (rawLevel v.cfg t) v.level v.held
              s.sendWarning { v with level := level, held := held } n 0 (fieldAt r 2 2) t))

/-! ### Counting -/

/-- An epoch's camera edge for a door: its first camera's on this chip, else the boundary. -/
def State.doorEdge (s : State) (v : Service) (k n : Nat) : Nat :=
  match (v.doorCams k).find? (fun c => c.1 = s.node) with
  | some c => s.camEdge c.2 (n * fsMult (s.fs (s.get (fFsyncSel c.2))).cfg)
  | none => s.boundary n

/-- Every camera of a door was void in an epoch, as far as this chip knows (R543). -/
def State.doorVoid (s : State) (v : Service) (k n : Nat) : Bool :=
  !(v.doorCams k).isEmpty && (v.doorCams k).all (fun c => c.1 = s.node && (s.cam c.2).voids.contains (n * fsMult (s.fs (s.get (fFsyncSel c.2))).cfg))

/-- An epoch's edge lies in a window (R543). -/
def Window.holds (w : Window) (edge : Nat) : Bool :=
  decide (w.openCt ≤ edge) && (match w.end_ with | some e => decide (edge ≤ e) | none => true)

/-- An epoch's decision in a window: its entry is added, or it is missing (R543). -/
def Window.count (w : Window) (edge : Nat) (entry : Option (Nat × Nat)) : Window :=
  if w.holds edge then
    match entry with
    | some (i, o) => { w with ins := w.ins + i, outs := w.outs + o }
    | none => { w with missing := w.missing + 1 }
  else w

/-- The fate of epoch `n` reaches the doors of an instance: `r` is the record of a committed epoch (R543). -/
def State.countEpoch (s : State) (v : Service) (n : Nat) (r : Option (List Byte)) : State :=
  let v := (List.range v.doorCount).foldl (fun (v : Service) k =>
    let d := v.door k
    let edge := s.doorEdge v k n
    let entry := match r with
      | some r => if s.doorVoid v k n then none else some (fieldAt r (4 * k) 2, fieldAt r (4 * k + 2) 2)
      | none => none
    v.setDoor k { d with win := if d.st = 0 then d.win else d.win.count edge entry, due := d.due.map (fun w => w.count edge entry) }) v
  s.setService v

/-- The fate of an epoch at an instance (R535, R540, R543). -/
def State.svcDecision (s : State) (v : Service) (n : Nat) (bad : Bool) : State :=
  match svcKind v.id with
  | 1 =>
    let (s, r) := if bad || decide (v.composer ≠ s.node) then (s, some []) else s.resultBank v n 272
    let malformed := !bad && v.composer = s.node && !(match r with | some r => warnRecordOk r | none => false)
    let v := if malformed then { v with invalid := v.invalid + 1, bads := (n :: v.bads).take 8 } else v
    if bad || malformed then s.refreshService { v with stale := v.stale + 1, good := 0 }
    else
      let v := { v with stale := 0 }
      let v := { v with good := if s.svcConds v % 65536 = 0 then v.good + 1 else 0 }
      let v := if v.st = 2 && 8 ≤ v.good then { v with validFrom := n + 1 } else v
      s.refreshService v
  | 2 =>
    if v.composer ≠ s.node then s
    else if bad then s.countEpoch v n none
    else
      let (s, r) := s.resultBank v n 128
      s.countEpoch v n r
  | _ => s

/-- Newly applied decisions of a plan reach its services, oldest first. -/
def State.svcDecisions (s : State) (plan : Nat) (ds : List (Nat × Bool)) : State :=
  ds.foldl (fun s d => s.con.services.foldl (fun s v =>
    match s.service v.id with
    | some v => if v.started && v.planAt d.1 = plan then s.svcDecision v d.1 d.2 else s
    | none => s) s) s

/-- A decision of the pole is taken: the epoch words, then the services (R451, R539). -/
def State.decisionBeacon (s : State) (b : Packet) (bad : Bool) : State :=
  let s := s.took b
  let plan := fieldAt b.data 2 2
  let old := (s.plan plan).log
  let s := s.takeDecision plan (fieldAt b.data 8 8) bad
  let lastOld : Nat := (old.map (fun d => d.1 + 1)).headD 0
  s.svcDecisions plan (((s.plan plan).log.filter (fun d => decide (lastOld ≤ d.1))).reverse)

/-- A chip takes EPOCH_COMMIT (R451). -/
def execEpochCommit (b : Packet) (s : State) : Out := s.run (fun s => .next (s.decisionBeacon b false))

/-- A chip takes EPOCH_ABANDON (R451). -/
def execEpochAbandon (b : Packet) (s : State) : Out := s.run (fun s => .next (s.decisionBeacon b true))

/-- A door opens: a new cycle (Table 18-6). -/
def Door.open (d : Door) (ct : Nat) : Door :=
  { d with st := 1, win := { cycle := (d.win.cycle + 1) % 4294967296, openCt := ct } }

/-- The window in progress closes and waits for its epochs (R543, R544). -/
def Door.close (d : Door) (closeCt end_ : Nat) (fault stopped degraded : Bool) : Door :=
  { d with st := 0, win := { cycle := d.win.cycle },
           due := d.due ++ [{ d.win with closeCt := closeCt, end_ := some end_, fault := fault, stopped := stopped, degraded := degraded }] }

/-- A door's level is taken: 20 equal samples (R542). Expiry of the settle time wins over an opening (R549). -/
def Door.take (d : Door) (degraded : Bool) (now : Nat) : Door :=
  let d := { d with open_ := !d.open_, run := 0 }
  if d.open_ then
    if d.st = 0 then d.open d.runCt
    else if d.st = 2 && decide (d.win.closeCt + 2000000000 ≤ now) then
      (d.close d.win.closeCt (d.win.closeCt + 2000000000) false false degraded).open d.runCt
    else { d with st := 1 }
  else if d.st = 1 then { d with st := 2, win := { d.win with closeCt := d.runCt } }
  else d

/-- One sample of a door (R542). -/
def Door.sample (d : Door) (isOpen degraded : Bool) (now : Nat) : Door :=
  if isOpen = d.open_ then { d with run := 0 }
  else
    let d := { d with run := d.run + 1, runCt := if d.run = 0 then now else d.runCt }
    if 20 ≤ d.run then d.take degraded now else d

/-- Started passenger-count instances. -/
def State.counters (s : State) : List Service := s.con.services.filter (fun v => svcKind v.id = 2 && v.started)

/-- A door-state input of this chip is sampled, every 1 ms (R542). -/
def execDoorSample (d : Fin 8) (level : Bool) (s : State) : Out := s.run (fun s =>
  .next (s.counters.foldl (fun s v =>
    s.setService ((List.range v.doorCount).foldl (fun (v : Service) k =>
      if v.doorByte k 1 = s.node && v.doorByte k 2 = d.val then
        v.setDoor k ((v.door k).sample (level == bit (v.doorByte k 3) 0) (v.st = 1) s.ctNs)
      else v) v)) s))

/-- Instance and door of an index: 32 * instance + door. -/
def State.doorAt (s : State) (d : Nat) : Option (Service × Nat) :=
  (s.counters.find? (fun v => v.id = 0x2000 + d / 32 && decide (d % 32 < v.doorCount))).map (fun v => (v, d % 32))

/-- The settle time of 2 s has passed: the window closes (Table 18-6). -/
def execSettleExpiry (d : Nat) (s : State) : Out := s.run (fun s =>
  .next (match s.doorAt d with
    | none => s
    | some (v, k) =>
      let x := v.door k
      let end_ := x.win.closeCt + 2000000000
      if x.st = 2 && decide (end_ ≤ s.ctNs) then s.setService (v.setDoor k (x.close x.win.closeCt end_ false false (v.st = 1))) else s))

/-- DOOR_MAX has passed: the cycle is published with DOOR_FAULT and a new one begins (Table 18-6). -/
def execDoorMaxExpiry (d : Nat) (s : State) : Out := s.run (fun s =>
  .next (match s.doorAt d with
    | none => s
    | some (v, k) =>
      let x := v.door k
      if x.st = 1 && decide (x.win.openCt + fieldAt v.cfg 34 2 * 1000000000 ≤ s.ctNs) then
        s.setService (v.setDoor k ((x.close s.ctNs s.ctNs true false (v.st = 1)).open s.ctNs))
      else s))

/-- The count message of a window (Table 18-7). -/
def State.countMessage (s : State) (v : Service) (k : Nat) (w : Window) : List Byte :=
  let m := leBytes 1 2 ++ leBytes 1 1 ++ leBytes 2 v.id ++ leBytes 2 s.constId ++ leBytes 1 s.node ++ leBytes 1 (v.doorByte k 0) ++
    leBytes 4 v.seq ++ leBytes 4 w.cycle ++ leBytes 8 w.openCt ++ leBytes 8 w.closeCt ++ leBytes 2 (min w.ins 65535) ++
    leBytes 2 (min w.outs 65535) ++ leBytes 2 (min w.missing 65535) ++
    leBytes 1 (b2n (decide (0 < w.missing) || w.stopped) + 2 * b2n w.degraded + 4 * b2n w.fault + 8 * b2n s.tim.vtValid) ++
    leBytes 1 0 ++ leBytes 8 s.vtOfs ++ leBytes 4 0
  m ++ leBytes 4 (crc32c m).toNat

/-- Publish the oldest closed window of a door (R544). -/
def State.publishCount (s : State) (v : Service) (k : Nat) : State :=
  let d := v.door k
  match d.due with
  | [] => s
  | w :: ws =>
    let v := { v with seq := v.seq + 1 }
    let m := s.countMessage v k w
    s.sendService (v.setDoor k { d with due := ws, last := m }) m

/-- Every epoch with an edge in a window has been decided (R544). -/
def State.windowDecided (s : State) (v : Service) (k : Nat) (w : Window) : Bool :=
  let e := s.plan v.plan
  let o := s.plan v.oldPlan
  let next (e : PlanEpoch) : Nat := match e.applied with | some m => m + 1 | none => e.first
  let n := if v.oldPlan ≠ v.plan && o.nodes ≠ 0 && decide (next o < v.planFrom) then next o else next e
  e.nodes = 0 || (match w.end_ with | some t => decide (t < s.doorEdge v k n) | none => false)

/-- The composer publishes a cycle once its epochs are decided (R544). -/
def execCountPublish (d : Nat) (s : State) : Out := s.run (fun s =>
  .next (match s.doorAt d with
    | none => s
    | some (v, k) =>
      match (v.door k).due with
      | w :: _ => if v.composer = s.node && s.windowDecided v k w then s.publishCount v k else s
      | [] => s))

/-! ### Commands (R548, Table 18-8) -/

/-- SERVICE_LIST. A tenant sees its own instances. -/
def execServiceList (r : Req) (s : State) : Out := s.run (fun s =>
  s.serve r (fun s =>
    let vs := s.con.services.filter (fun v => r.role = 4 || v.tenant = r.role)
    s.respond r 0 (leBytes 1 vs.length ++ vs.flatMap (fun v =>
      leBytes 2 v.id ++ leBytes 1 v.st ++ leBytes 1 v.cause ++ leBytes 1 v.tenant ++ leBytes 1 v.composer ++ leBytes 2 0))))

/-- A destination block is acceptable (Table 18-2). -/
def State.destOk (s : State) (d : List Byte) : Bool :=
  let n := byteAt d 0
  let ps := pubsOf d
  decide (1 ≤ n) && decide (n ≤ 4) && decide (byteAt d 1 < 64) && byteAt d 11 = 0 && decide (1 ≤ byteAt d 10) &&
    decide (leNat (slice d 20 12) = 0) && decide (ps.eraseDups.length = ps.length) &&
    ps.all (fun p => decide (p.2 < 2) && decide (p.1 < 64) && s.live p.1)

/-- A warning configuration is acceptable (Table 18-9): cameras of this chip must be of the group and synchronised. -/
def State.warnCfgOk (s : State) (c : List Byte) : Bool :=
  let f (o : Nat) : Nat := fieldAt c o 2
  decide (c.length = 60) && decide (1 ≤ byteAt c 0) && decide (byteAt c 0 ≤ 4) && decide (1 ≤ byteAt c 1) && decide (byteAt c 1 ≤ 15) &&
    decide (byteAt c 2 < 16) && decide (f 14 ≤ f 12) && decide (f 16 ≤ f 14) && decide (f 20 ≤ f 18) && decide (f 22 ≤ f 20) &&
    decide (1 ≤ f 24) && decide (f 24 ≤ 300) && f 26 = 0 && s.destOk (c.drop 28) &&
    (List.range (byteAt c 0)).all (fun k =>
      let n := byteAt c (4 + 2 * k)
      let p := byteAt c (5 + 2 * k)
      decide (n < 64) && decide (p < 4) &&
        (n ≠ s.node || (s.get (fSynced p) = 1 && s.get (fGroup p) = byteAt c 1)))

/-- A counting configuration is acceptable (Table 18-10). -/
def State.countCfgOk (s : State) (c : List Byte) : Bool :=
  let n := byteAt c 32
  decide (1 ≤ n) && decide (n ≤ 32) && decide (c.length = 36 + 8 * n) && s.destOk (c.take 32) && byteAt c 33 = 0 &&
    decide (10 ≤ fieldAt c 34 2) && decide (fieldAt c 34 2 ≤ 3600) &&
    (List.range n).all (fun k =>
      let b (i : Nat) : Nat := byteAt c (36 + 8 * k + i)
      (b 4 ≠ 0xFF || b 6 ≠ 0xFF) && decide (b 0 < 32) && decide (b 1 < 64) && decide (b 2 < 8) && decide (b 3 < 2) && (b 4 = 0xFF || (decide (b 4 < 64) && decide (b 5 < 4))) &&
        (b 6 = 0xFF || (decide (b 6 < 64) && decide (b 7 < 4))))

/-- A video list is acceptable (Table 18-8). -/
def videoCfgOk (c : List Byte) : Bool :=
  decide (c.length = 1 + 4 * byteAt c 0) && (List.range (byteAt c 0)).all (fun i =>
    decide (byteAt c (1 + 4 * i) < 64) && decide (byteAt c (2 + 4 * i) < 8) && decide (byteAt c (3 + 4 * i) < 4) && decide (byteAt c (4 + 4 * i) < 16))

/-- R28 holds for the plan of a model: live chips, pole-eligible chips, fallback cover, mirrors. -/
def State.r28 (s : State) (p : List Byte) (v : Nat) : Bool :=
  decide (3 ≤ popCount s.loss.members 64) && decide (2 ≤ popCount (s.loss.members &&& s.eligibleMask) 64) && coverOk p v

/-- LOCKED of the configuration record (R624). -/
def State.recordLocked (s : State) : Bool := bit (byteAt (s.cfgBytes 5 1) 0) 0

/-- A tenant's services and tenants are refused in MANUFACTURE and RETURN (Table 22-1). -/
def State.noTenants (s : State) : Bool := s.lifecycle = 0 || s.lifecycle = 3

/-- The composer that a plan of a model names: the node whose share holds the result output. -/
def composerOf (p : List Byte) (v : Nat) (lost : Option Nat) : Option Nat :=
  ((sections p).find? (fun x => x.kind = 8 && x.var = v && (match lost with | none => x.plan ≠ 1 | some l => x.plan = 0xFF || (x.plan = 1 && x.lost = l)))).bind
    (fun x => (List.range 64).find? (fun n => ((Config.epochDecl n (bodyOf p x)).2.2.1).isSome))

/-- Composer and shadow of an instance, from its model's package (R533). -/
def Service.placed (v : Service) (m : Model) : Service :=
  let c := (composerOf m.bytes m.variant m.fallback).getD 0xFF
  { v with plan := m.plan, composer := c, shadowNode := if c = 0xFF || m.fallback.isSome then none else composerOf m.bytes m.variant (some c) }

/-- Start an instance: a warning begins UNAVAILABLE, the others take the state of their conditions (Table 18-5, R546, R547). -/
def State.startService (s : State) (v : Service) : State :=
  let s := if svcKind v.id = 3 then s.videoSet v true else s
  let v := { v with started := true, st := 2, cause := 1, conds := 0, next := s.tim.epoch, validFrom := 0, good := 0, level := 0, held := 0,
                    stale := 0, bads := [], seq := 0, doors := [], planFrom := 0, composeFrom := 0, shadow := [],
                    watch := s.videoTrouble v, badEpoch := none }
  s.refreshService v

/-- An instance starts again by itself with this payload, or no longer does (AUTO, R548; where the payload is kept is not in the spec,
log entry 41). -/
def State.setAuto (s : State) (id : Nat) (payload : List Byte) : State :=
  { s with con := { s.con with autos := tblSet (fun _ => []) s.con.autos id payload } }

/-- A service is defined once for the constellation: a change of the pole's definition goes to every other member as an order
(R17; how the chips keep it is not in the spec, log entry 15). -/
def State.tellService (s : State) (code : Nat) (data : List Byte) : State :=
  ((List.range 64).filter (fun n => n ≠ s.node && bit s.loss.members n)).foldl (fun s n => s.emit (.order n code data)) s

/-- What the pole tells of an instance that it starts: tenant, plan, composer and shadow, then the payload of SERVICE_START (R17). -/
def Service.told (v : Service) (payload : List Byte) : List Byte :=
  leBytes 1 v.tenant ++ leBytes 2 v.plan ++ leBytes 1 v.composer ++ leBytes 1 (v.shadowNode.getD 0xFF) ++ payload

/-- Start an instance and keep the payload where it starts again by itself. -/
def State.startHere (s : State) (v : Service) (payload : List Byte) : State :=
  (s.startService v).setAuto v.id (if v.auto then payload else [])

/-- The pole starts an instance, and tells the other members. -/
def State.startNew (s : State) (v : Service) (payload : List Byte) : State :=
  (s.startHere v payload).tellService 0x0601 (v.told payload)

/-- A member takes an instance that the pole has started, as the pole defines it (R17). -/
def State.startTold (s : State) (d : List Byte) : State :=
  let p := d.drop 5
  let id := fieldAt p 0 2
  let shadow := byteAt d 4
  let old : Service := (s.service id).getD { id := id }
  s.startHere { old with tenant := byteAt d 0, plan := fieldAt d 1 2, composer := byteAt d 3, shadowNode := if shadow = 0xFF then none else some shadow,
                         auto := bit (byteAt p 2) 0, pkg := fieldAt p 4 8, cfg := p.drop 12 } p

/-- SERVICE_START with its payload by a role: the state and the status (R548). -/
def State.serviceStart (s : State) (role : Nat) (data : List Byte) : State × Nat :=
  let id := fieldAt data 0 2
  let pkg := fieldAt data 4 8
  let cfg := data.drop 12
  let auto := bit (byteAt data 2) 0
  let kind := svcKind id
  if data.length < 12 then (s, 0x0109)
  else if !svcIdOk id then (s, 0x0601)
  else if s.noTenants || s.get fMode = 2 then (s, 0x010B)
  else if role ≠ 4 && kind ≠ 2 then (s, 0x0105)
  else if decide (1 < byteAt data 2) || byteAt data 3 ≠ 0 then (s, 0x0109)
  else
    match (s.con.services.find? (fun v => v.id = id && v.started)) with
    | some v => (s, if role ≠ 4 && v.tenant ≠ role then 0x0105 else if v.cfg = cfg && v.pkg = pkg && v.auto = auto then 0 else 0x0108)
    | none =>
      let old : Service := (s.service id).getD { id := id }
      let new : Service := { old with auto := auto, pkg := pkg, cfg := cfg }
      if kind = 3 then
        if videoCfgOk cfg then (s.startNew { new with tenant := 7 } data, 0) else (s, 0x0109)
      else match s.con.models.find? (fun m => m.pkg = pkg && (m.st = 2 || m.st = 3)) with
        | none => (s, 0x0317)
        | some m =>
          let v := ({ new with tenant := m.tenant } : Service).placed m
          if role ≠ 4 && m.tenant ≠ role then (s, 0x0105)
          else if kind = 2 then
            if !s.countCfgOk cfg || pkgTier m.bytes = 1 then (s, 0x0109) else (s.startNew v data, 0)
          else if !s.warnCfgOk cfg then (s, 0x0109)
          else if pkgTier m.bytes ≠ 1 || !s.r28 m.bytes m.variant || (s.lifecycle = 2 && !s.recordLocked) then (s, 0x0312)
          else if bit (varMask m.bytes m.variant) s.node && s.reg 0x25000004 ≠ 0#32 then (s, 0x010B)
          else (s.startNew v data, 0)

/-- SERVICE_START (R548). -/
def execServiceStart (r : Req) (s : State) : Out := s.run (fun s =>
  s.serve r (fun s =>
    let (s, status) := s.serviceStart r.role r.data
    s.respond r status []))

/-- The instances of a model that start by themselves start again, now that it is active; those of no model where `pkg` is none
(R548). -/
def State.autoStart (s : State) (pkg : Option Nat) : State :=
  s.con.autos.foldl (fun s a =>
    let ours := if svcKind a.1 = 3 then pkg.isNone else pkg = some (fieldAt a.2 4 8)
    if ours && !s.con.services.any (fun v => v.id = a.1 && v.started) then (s.serviceStart 4 a.2).1 else s) s

/-- Stop an instance: a warning publishes one UNAVAILABLE message with cause 0x01, and every open count cycle is published at once
with INCOMPLETE (Table 18-5, R549). -/
def State.stopService (s : State) (v : Service) : State :=
  if !v.started then s
  else
    let v := { v with started := false }
    match svcKind v.id with
    | 1 =>
      let s := s.enterState { v with cause := 1 } 2 1
      let v := { v with st := 2, cause := 1, level := 0, held := 0 }
      if v.composer = s.node then s.sendWarning v v.next 2 0 none else s
    | 2 =>
      let s := if v.composer = s.node then
          (List.range v.doorCount).foldl (fun s k =>
            match s.service v.id with
            | none => s
            | some v =>
              let d := v.door k
              let d := if d.st = 0 then d else d.close s.ctNs s.ctNs false true (v.st = 1)
              let n := d.due.length
              (List.range n).foldl (fun s _ => match s.service v.id with | some v => s.publishCount v k | none => s) (s.setService (v.setDoor k d))) (s.setService v)
        else s.setService v
      match s.service v.id with | some v => s.enterState v 2 1 | none => s
    | _ => (s.videoSet v false).enterState v 2 1

/-- May a session act on an instance: the operator, or for counting its own tenant (R548). -/
def mayService (r : Req) (v : Service) : Bool := r.role = 4 || (svcKind v.id = 2 && v.tenant = r.role)

/-- SERVICE_STOP (R548). -/
def execServiceStop (r : Req) (s : State) : Out := s.run (fun s =>
  s.serve r (fun s =>
    let id := fieldAt r.data 0 2
    if r.data.length ≠ 2 then s.respond r 0x0109 []
    else if !svcIdOk id then s.respond r 0x0601 []
    else match s.service id with
      | none => s.respond r (if r.role = 4 then 0 else 0x0105) []
      | some v => if mayService r v then (((s.stopService v).setAuto id []).tellService 0x0602 r.data).respond r 0 [] else s.respond r 0x0105 []))

/-- SERVICE_SUBSCRIBE (R548). -/
def execServiceSubscribe (r : Req) (s : State) : Out := s.run (fun s =>
  s.serve r (fun s =>
    let id := fieldAt r.data 0 2
    let on := byteAt r.data 2 = 1
    if decide (r.data.length ≠ 3) || decide (1 < byteAt r.data 2) then s.respond r 0x0109 []
    else if !svcIdOk id then s.respond r 0x0601 []
    else
      let v : Service := (s.service id).getD { id := id }
      if r.role ≠ 4 && v.tenant ≠ r.role then s.respond r 0x0105 []
      else
        let subs := v.subs.filter (fun n => n ≠ r.sid)
        (s.setService { v with subs := if on then subs ++ [r.sid] else subs }).respond r 0 []))

/-- The composer of an instance is another live chip, which keeps its counts and messages. -/
def State.composedAway (s : State) (v : Service) : Bool := v.composer ≠ s.node && s.live v.composer

/-- SERVICE_STATUS (R548). The counts of another chip are that chip's (log entry 15). -/
def execServiceStatus (r : Req) (s : State) : Out := s.run (fun s =>
  s.serve r (fun s =>
    let id := fieldAt r.data 0 2
    if r.data.length ≠ 2 then s.respond r 0x0109 []
    else if !svcIdOk id then s.respond r 0x0601 []
    else
      let v : Service := (s.service id).getD { id := id }
      if r.role ≠ 4 && v.tenant ≠ r.role then s.respond r 0x0105 []
      else
        let flags := b2n (decide (v.st = 1)) + 2 * b2n s.tim.vtValid + 4 * b2n (s.plan v.plan).fallback.isSome + 8 * b2n v.noTarget
        let head := leBytes 1 v.st ++ leBytes 1 v.cause ++ leBytes 1 flags ++ leBytes 1 0
        if s.composedAway v then
          let (s, bs) := (s.emit (.order v.composer 0x0604 r.data)).foreign 20
          s.respond r 0 (head ++ bs)
        else
          s.respond r 0 (head ++ leBytes 4 (if svcKind id = 1 then v.lastSeq else v.seq) ++ leBytes 1 v.stale ++ leBytes 3 0 ++
            leBytes 4 v.published ++ leBytes 4 v.discards ++ leBytes 4 v.invalid)))

/-- COUNT_READ (R545, R548). -/
def execCountRead (r : Req) (s : State) : Out := s.run (fun s =>
  s.serve r (fun s =>
    let id := fieldAt r.data 0 2
    if r.data.length ≠ 3 then s.respond r 0x0109 []
    else if !svcIdOk id || svcKind id ≠ 2 then s.respond r 0x0601 []
    else
      let v : Service := (s.service id).getD { id := id }
      if r.role ≠ 4 && v.tenant ≠ r.role then s.respond r 0x0105 []
      else if s.composedAway v then
        let (s, bs) := (s.emit (.order v.composer 0x0605 r.data)).foreign 56
        s.respond r 0 bs
      else match (List.range v.doorCount).find? (fun k => v.doorByte k 0 = byteAt r.data 2) with
        | some k => if (v.door k).last.isEmpty then s.respond r 0x0602 [] else s.respond r 0 (v.door k).last
        | none => s.respond r 0x0602 []))

end Sys2Proof.Machine
end

