-- ==== Sys2Proof/Machine/Trust.lean ====
section
/-! DEFINITION. Trust: measurement registers, fences and the changes of the configuration record (17, 22). -/

namespace Sys2Proof.Machine

/-- First word of a measurement register (Table 22-13). -/
def measReg (m : Nat) : Nat := 0x25000100 + 0x40 * (m % 8)

/-- The digest in a measurement register: bytes most significant first in each word (Table 22-13). -/
def State.meas (s : State) (m : Nat) : List Byte :=
  (List.range 12).flatMap (fun j => (leBytes 4 (s.reg (measReg m + 4 * j)).toNat).reverse)

/-- The state with a digest in a measurement register. -/
def State.setMeas (s : State) (m : Nat) (d : List Byte) : State :=
  (List.range 12).foldl (fun s j => s.setReg (measReg m + 4 * j) (BitVec.ofNat 32 (leNat (slice d (4 * j) 4).reverse))) s

/-- SHA-384, cut to its 48 bytes. -/
def sha384 (bs : List Byte) : List Byte := fit 48 (Config.sha384 bs)

/-- Extend a measurement register with a digest (R642). -/
def State.extend (s : State) (m : Nat) (d : List Byte) : State := s.setMeas m (sha384 (s.meas m ++ fit 48 d))

/-- Extend a measurement register with the digest of a record (Table 22-7). -/
def State.measure (s : State) (m : Nat) (record : List Byte) : State := s.extend m (sha384 record)

/-- The state block of register 4 (Table 22-16). -/
def State.stateBlock (s : State) (debug : Nat) : List Byte :=
  leBytes 1 s.lifecycle ++ leBytes 1 debug ++ leBytes 2 s.straps ++ leBytes 4 (s.reg 0x23002008).toNat ++ leBytes 8 0

/-- An event record of register 7 (Table 22-17). -/
def eventRecord (kind d0 d1 : Nat) : List Byte := leBytes 1 kind ++ leBytes 3 0 ++ leBytes 4 d0 ++ leBytes 4 d1 ++ leBytes 4 0

/-- The fence record of a tenant (Table 22-9). -/
def State.fenceRecord (s : State) (t : Nat) : List Byte :=
  leBytes 1 ((s.reg (aFence t 0)).toNat % 8) ++ leBytes 7 0 ++ leBytes 8 (s.reg64 (aFence t 4))

/-- Live chips other than this one that may become pole. -/
def State.otherEligible (s : State) : List Nat :=
  (List.range 64).filter (fun n => n ≠ s.node && bit s.loss.members n && bit s.eligibleMask n)

/-- Write bytes of the configuration record. -/
def State.cfgPut (s : State) (o : Nat) (bs : List Byte) : State := { s with con := { s.con with cfg := tblSets byteZero s.con.cfg o bs } }

/-- The lifecycle byte C of the derived keys (R635). -/
def State.keyPhase (s : State) : Nat := if s.lifecycle = 0 then 0 else if s.lifecycle = 3 then 2 else 1

/-- "P7240-SEAL" in ASCII. -/
def labelSeal : List Byte := [0x50#8, 0x37#8, 0x32#8, 0x34#8, 0x30#8, 0x2D#8, 0x53#8, 0x45#8, 0x41#8, 0x4C#8]

/-- The seal key of the chip, 32 bytes (R635). -/
def State.sealKey (s : State) : List Byte := Config.hkdf (beBytes 32 s.sec.secret) (labelSeal ++ leBytes 1 s.keyPhase) 32

/-- The role keys of R503 as a chip that may become pole seals them for its flash: the operator's, then those of tenants 0 to 3
(R636). -/
def State.roleKeys (s : State) : List Byte :=
  fit 32 (s.con.opKey.getD []) ++ (List.range 4).flatMap (fun t => fit 32 (tblGet (fun _ => []) s.con.tenKeys t))

/-- The configuration record goes to the flash of a chip that may become pole, its role keys sealed (R636). -/
def State.sealKeys (s : State) : State :=
  if s.poleElig then { s with con := { s.con with sealed := Config.gcmSeal s.sealKey (Config.sealNonce (s.cfgField 8 4)) s.roleKeys } } else s

/-- A section of the record has changed: SEQ rises, register 3 is extended, the record goes to the live pole-eligible chips (R518,
R519, R642). -/
def State.recordChanged (s : State) : State :=
  let s := s.cfgPut 8 (leBytes 4 (s.cfgField 8 4 + 1))
  let s := (s.measure 3 s.cfgImage).sealKeys
  s.otherEligible.foldl (fun s n => s.emit (.order n 0x0202 s.cfgImage)) s

/-- CONFIG_CRC: the CRC-32C of section 0 (R518). -/
def State.configCrc (s : State) : Nat := (crc32c (s.cfgBytes 16 160)).toNat

/-- EXPORT bit of a tenant in the record (R649). -/
def State.exportBit (s : State) (t : Nat) : Bool := bit (s.cfgField 178 1) t

/-- Firmware writes the fence of a tenant on this chip and measures it (R648, R649, Table 22-7). -/
def State.fenceWrite (s : State) (t tier mask : Nat) : State :=
  let w := s.firmware
  let s := s.fencePut w (aFence t 0) (BitVec.ofNat 32 (1 + 2 * b2n (s.exportBit t) + 4 * tier))
  let s := s.fencePut w (aFence t 4) (BitVec.ofNat 32 mask)
  let s := s.fencePut w (aFence t 8) (BitVec.ofNat 32 (mask / 4294967296))
  s.measure 6 (s.fenceRecord t)

/-- A tenant of the record exists; its tier; its chip mask (Table 17-18, section 5). -/
def State.tenantOn (s : State) (t : Nat) : Bool := decide (t < 4) && bit (s.cfgField (3176 + 16 * t) 1) 0
/-- Tier of a tenant. -/
def State.tenantTier (s : State) (t : Nat) : Nat := bits (s.cfgField (3176 + 16 * t) 1) 1 1
/-- Chip mask of a tenant. -/
def State.tenantMask (s : State) (t : Nat) : Nat := s.cfgField (3176 + 16 * t + 8) 8
/-- Put a tenant's entry into the record. -/
def State.tenantEntry (s : State) (t b mask : Nat) : State := s.cfgPut (3176 + 16 * t) (leBytes 8 b ++ leBytes 8 mask)

/-- SET_OPERATOR_KEY (R503): the first one enters on path 0 of any chip, whose entry chip relays no other (R488); the key travels to the other pole-eligible chips over path 3 (R636). -/
def execSetOperatorKey (r : Req) (s : State) : Out := s.run (fun s =>
  s.serve r (fun s =>
    let fits := match s.con.opKey with
      | none => (r.path = 0 || r.path = 3) && r.sid = 0
      | some _ => decide (r.sid ≠ 0) && r.role = 4
    if !fits then s.respond r 0x0105 []
    else if r.data.length ≠ 32 then s.respond r 0x0109 []
    else
      let s := ({ s with con := { s.con with opKey := some r.data } } : State).sealKeys
      (s.otherEligible.foldl (fun s n => s.emit (.order n 0x0107 r.data)) s).respond r 0 []))

end Sys2Proof.Machine
end

