-- ==== Sys2Proof/Machine/Models.lean ====
section
/-! DEFINITION. Models: transfers, admission, placement, the two-phase commit, unloading and tenant release (19, 22). -/

namespace Sys2Proof.Machine

/-! ### Records -/

/-- A model by its package. -/
def State.model (s : State) (pkg : Nat) : Option Model := s.con.models.find? (fun m => m.pkg = pkg)
/-- The model whose plan has a number. -/
def State.planModel (s : State) (plan : Nat) : Option Model := s.con.models.find? (fun m => m.plan = plan && decide (1 ≤ m.st))
/-- The state with a model replaced or added. -/
def State.setModel (s : State) (m : Model) : State :=
  let ms := if s.con.models.any (fun x => x.pkg = m.pkg) then s.con.models.map (fun (x : Model) => if x.pkg = m.pkg then m else x)
    else s.con.models ++ [m]
  { s with con := { s.con with models := ms } }
/-- The state without a model. -/
def State.dropModel (s : State) (pkg : Nat) : State :=
  { s with con := { s.con with models := s.con.models.filter (fun m => m.pkg ≠ pkg) } }
/-- A staged transfer. -/
def State.transfer (s : State) (h : Nat) : Option Transfer := s.con.transfers.find? (fun t => t.handle = h)
/-- The state with a transfer replaced. -/
def State.setTransfer (s : State) (t : Transfer) : State :=
  { s with con := { s.con with transfers := s.con.transfers.map (fun (x : Transfer) => if x.handle = t.handle then t else x) } }

/-- The bytes of a transfer: the last write of each byte stands (R513). -/
def Transfer.bytes (t : Transfer) : List Byte :=
  t.chunks.foldl (fun bs c => fit t.total (bs.take c.1 ++ c.2 ++ bs.drop (c.1 + c.2.length))) (List.replicate t.total 0#8)

/-- Every byte has been staged (R513). -/
def Transfer.whole (t : Transfer) : Bool :=
  (List.range t.total).all (fun i => t.chunks.any (fun c => decide (c.1 ≤ i) && decide (i < c.1 + c.2.length)))

/-- Nodes of the variant in commit or in use: those with a placed core, and those of the primary plan. -/
def Model.nodes (m : Model) : Nat := m.placed.foldl (fun n x => n ||| 2 ^ x.node) (varMask m.bytes m.variant)

/-- Free bytes of the model store (R558). -/
def State.storeFree (s : State) : Nat :=
  let models := (s.con.models.map (fun m => m.bytes.length)).foldl (· + ·) 0
  let staged := ((s.con.transfers.filter (fun t => decide (t.pkg ≠ 0) && !s.con.models.any (fun m => m.handle = t.handle))).map (fun t => t.total)).foldl (· + ·) 0
  Config.modelStore - models - staged

/-! ### Transfers (R513, R558) -/

/-- MODEL_BEGIN. A transfer of the same package, length and CRC keeps its handle (R509). -/
def execModelBegin (r : Req) (s : State) : Out := s.run (fun s =>
  s.serve r (fun s =>
    let pkg := fieldAt r.data 0 8
    let total := fieldAt r.data 8 4
    let crc := fieldAt r.data 12 4
    if decide (r.data.length ≠ 16) || pkg = 0 || total = 0 then s.respond r 0x0109 []
    else if s.opBusy r.code ((1, pkg) :: (if r.role = 4 then [] else [(0, r.role)])) then s.respond r 0x0108 []
    else match s.con.transfers.find? (fun t => t.pkg = pkg && t.total = total && t.crc = crc && t.tenant = (if r.role = 4 then 7 else r.role)) with
      | some t => s.respond r 0 (leBytes 2 t.handle)
      | none =>
        if s.storeFree < total then s.respond r 0x0B02 []
        else
          let h := s.con.nextHandle
          let t : Transfer := { handle := h, pkg := pkg, tenant := if r.role = 4 then 7 else r.role, total := total, crc := crc, at_ := s.now }
          let s := { s with con := { s.con with transfers := s.con.transfers ++ [t], nextHandle := h % 65535 + 1 } }
          s.respond r 0 (leBytes 2 h)))

/-- A session may use a transfer or a model of a tenant: the operator, or the tenant itself (R511). -/
def mayModel (r : Req) (tenant : Nat) : Bool := r.role = 4 || r.role = tenant

/-- MODEL_CHUNK. -/
def execModelChunk (r : Req) (s : State) : Out := s.run (fun s =>
  s.serve r (fun s =>
    let off := fieldAt r.data 4 4
    let data := r.data.drop 8
    match s.transfer (fieldAt r.data 0 2) with
    | none => s.respond r 0x0109 []
    | some t =>
      if t.pkg = 0 || !mayModel r t.tenant then s.respond r 0x0105 []
      else if decide (r.data.length < 8) || fieldAt r.data 2 2 ≠ 0 || decide (4056 < data.length) || decide (t.total < off + data.length) then
        s.respond r 0x0109 []
      else if s.opBusy r.code ((1, t.pkg) :: (if t.tenant = 7 then [] else [(0, t.tenant)])) then s.respond r 0x0108 []
      else (s.setTransfer { t with chunks := t.chunks ++ [(off, data)], at_ := s.now }).respond r 0 []))

/-! ### Capacity and placement (R560 to R563) -/

/-- Cores that admitted models hold on a node, but for one package. -/
def State.heldCores (s : State) (node excl : Nat) : List Placed :=
  (s.con.models.filter (fun m => decide (1 ≤ m.st) && decide (m.pkg ≠ excl))).flatMap (fun m =>
    (m.placed ++ ((m.prev.map (fun q => q.2.2.1)).getD [])).filter (fun x => x.node = node))

/-- A placed core holds a pair: 0 to 7 wide, 8 to 15 narrow. -/
def Placed.holds (x : Placed) (p : Nat) : Bool :=
  (decide (x.wide ≤ p) && decide (p < x.wide + x.wlen) && decide (p < 8)) ||
    (decide (8 + x.narrow ≤ p) && decide (p < 8 + x.narrow + x.nlen))

/-- The free pairs of a core (R560). The pole knows its own registers and, of other nodes, what it has placed there. -/
def State.freePairs (s : State) (node excl c : Nat) : List Nat :=
  let held := (s.heldCores node excl).filter (fun x => x.core = c)
  (List.range 16).filter (fun p =>
    !held.any (fun x => x.holds p) &&
      (node ≠ s.node || (s.pairGood c (2 * p) &&
        !(List.range 8).any (fun r => let g := s.rgn c r; g.en && decide (g.pair0 ≤ p) && decide (p < g.pair0 + g.pairs)))))

/-- The lowest run of `n` pairs of a group among free pairs; `lo` is 0 for wide, 8 for narrow. -/
def firstRun (free : List Nat) (lo n : Nat) : Option Nat :=
  (List.range 8).find? (fun i => decide (i + n ≤ 8) && (List.range n).all (fun j => free.contains (lo + i + j)))

/-- Length of the longest run of a group. -/
def longestRun (free : List Nat) (lo : Nat) : Nat := ((List.range 9).reverse.find? (fun n => (firstRun free lo n).isSome)).getD 0

/-- A core can take a record but for the runs: no compute tenant where the record computes, and enough windows. -/
def State.coreTakes (s : State) (node excl c : Nat) (d : Demand) : Bool :=
  let held := (s.heldCores node excl).filter (fun x => x.core = c)
  let open_ := !held.any (fun x => x.compute) && (node ≠ s.node || s.get (fTenant c) = 7)
  let used := (held.map (fun x => x.windows)).foldl (· + ·) 0
  let used := if node = s.node then max used ((List.range 16).filter (s.winOpen c)).length else used
  (!d.compute || open_) && decide (d.win + used ≤ 16)

/-- Insert a record: largest envelope first, ties by lower LCORE (R561). -/
def placeOrder (d : Demand) : List Demand → List Demand
  | [] => [d]
  | x :: xs =>
    if x.wenv + x.nenv < d.wenv + d.nenv || (x.wenv + x.nenv = d.wenv + d.nenv && d.lcore < x.lcore) then d :: x :: xs
    else x :: placeOrder d xs

/-- The place of one record beside those already placed (R561). -/
def State.placeOne (s : State) (node excl : Nat) (done : List Placed) (d : Demand) : Option Placed :=
  let free (c : Nat) : List Nat := s.freePairs node excl c
  let fits (c : Nat) : Bool := !done.any (fun x => x.core = c) && s.coreTakes node excl c d &&
    (firstRun (free c) 0 d.wenv).isSome && (firstRun (free c) 8 d.nenv).isSome
  let best := ((List.range 8).filter fits).foldl (fun (b : Option Nat) c =>
    match b with
    | none => some c
    | some x => if (free c).length < (free x).length then some c else b) none
  best.map (fun c =>
    { node := node, lcore := d.lcore, core := c, wide := (firstRun (free c) 0 d.wenv).getD 0, wlen := d.wenv,
      narrow := (firstRun (free c) 8 d.nenv).getD 0, nlen := d.nenv, compute := d.compute, windows := d.win })

/-- The mapping of a node's records, and the records left unplaced. -/
def State.placeNode (s : State) (node excl : Nat) (ds : List Demand) : List Placed × List Demand :=
  (ds.foldr placeOrder []).foldl (fun (acc : List Placed × List Demand) d =>
    match s.placeOne node excl acc.1 d with
    | some x => (acc.1 ++ [x], acc.2)
    | none => (acc.1, acc.2 ++ [d])) ([], [])

/-- The shortfall of one unplaced record on a live node (R563). -/
def State.shortfall (s : State) (node excl : Nat) (done : List Placed) (d : Demand) : Nat :=
  let cores := (List.range 8).filter (fun c => !done.any (fun x => x.core = c) && s.coreTakes node excl c d)
  let lack (c : Nat) : Nat := (d.wenv - longestRun (s.freePairs node excl c) 0) + (d.nenv - longestRun (s.freePairs node excl c) 8)
  pairBytes * (match cores.map lack with
    | [] => d.wenv + d.nenv
    | x :: xs => xs.foldl min x)

/-- What trying a variant gives: the mapping, the shortfall per node, fallback plans that cannot be used, whether it fits. -/
structure Fit where
  placed : List Placed
  shorts : List (Nat × Nat)
  unusable : List Nat
  ok : Bool
  deriving DecidableEq, Repr

/-- A node has capacity for a tenant: it is live and in the tenant's chip mask. -/
def State.hasRoom (s : State) (tenant n : Nat) : Bool := s.live n && bit (s.tenantMask tenant) n

/-- Try a variant (R562, R563). -/
def State.tryVariant (s : State) (p : List Byte) (v tenant excl : Nat) : Fit :=
  let tier1 := decide (pkgTier p = 1)
  let mask := varMask p v
  let nodes := (List.range 64).filter (fun n => bit mask n || (varNodes p v).contains n)
  let each (n : Nat) : List Placed × Nat :=
    let ds := demands p v n
    if s.hasRoom tenant n then
      let (done, left) := s.placeNode n excl ds
      (done, (left.map (s.shortfall n excl done)).foldl (· + ·) 0)
    else ([], pairBytes * (ds.map (fun d => d.wenv + d.nenv)).foldl (· + ·) 0)
  let rs := nodes.map (fun n => (n, each n))
  let unusable := (fallbacks p v).filter (fun x => (fallbackNodes p v x).any (fun n => !s.hasRoom tenant n))
  let left := nodes.any (fun n => s.hasRoom tenant n && !(s.placeNode n excl (demands p v n)).2.isEmpty)
  { placed := rs.flatMap (fun r => r.2.1), shorts := (rs.filter (fun r => decide (r.2.2 ≠ 0))).map (fun r => (r.1, r.2.2)), unusable := unusable,
    ok := !left && nodes.all (fun n => !bit mask n || s.hasRoom tenant n) && (!tier1 || unusable.isEmpty) }

/-! ### Shape and order (R555, R556) -/

/-- The live shape: a value per source in use. Registers of another chip's camera are not this chip's to see: a free value. -/
def State.liveShape (s : State) (p : List Byte) : State × List (Option Nat) :=
  (List.range 4).foldl (fun (acc : State × List (Option Nat)) k =>
    let (code, n, q) := pkgShape p k
    if code = 0 then (acc.1, acc.2 ++ [none])
    else if n = s.node then (acc.1, acc.2 ++ [some (if code = 1 then s.camW q else s.camH q)])
    else
      let (t, x) := acc.1.freeNat
      (t, acc.2 ++ [some (x % 8192)])) (s, [])

/-- A variant holds a shape. -/
def shapeHeld (p : List Byte) (v : Nat) (shape : List (Option Nat)) : Bool :=
  (List.range 4).all (fun k => match shape.getD k none with | some x => decide (x ≤ varBucket p v k) | none => true)

/-- Order of trial: bucket by the sum of its values, then within it DEMAND, largest first, then VAR. -/
def variantKey (p : List Byte) (v : Nat) : List Nat :=
  let b := (List.range 4).map (varBucket p v)
  (b.foldl (· + ·) 0 :: b) ++ [4294967296 - varDemand p v, v]

/-- Lexicographic order of keys. -/
def keyBefore : List Nat → List Nat → Bool
  | x :: xs, y :: ys => decide (x < y) || (decide (x = y) && keyBefore xs ys)
  | _, _ => false

/-- Insert a variant in the order of trial. -/
def trialOrder (p : List Byte) (v : Nat) : List Nat → List Nat
  | [] => [v]
  | x :: xs => if keyBefore (variantKey p v) (variantKey p x) then v :: x :: xs else x :: trialOrder p v xs

/-! ### Special functions (R282) -/

/-- A place of a table meets an input range: the place of its ends, and the segments between. -/
def placesBetween (h : List Nat) (lo hi : Nat) : List (Nat × SfuPlace) :=
  let nseg := word h 0 % 128
  let rank : SfuPlace → Nat := fun pl => match pl with | .below => 0 | .seg i _ => i + 1 | .above => nseg + 1 | .nan => 0
  let a := rank (sfuPlace h lo)
  let b := rank (sfuPlace h hi)
  (List.range (nseg + 2)).filterMap (fun i =>
    if a ≤ i && i ≤ b then
      some (if i = 0 then (0xFF, .below) else if i = nseg + 1 then (0xFE, .above) else (i - 1, .seg (i - 1) 0))
    else none)

/-- The first use record of a variant that fails: node, physical core, slot, segment. -/
def sfuFails (p : List Byte) (v : Nat) (placed : List Placed) : Option (Nat × Nat × Nat × Nat) :=
  ((sections p).filter (fun x => x.kind = 6 && x.var = v)).findSome? (fun x =>
    let core := ((placed.find? (fun q => q.node = x.node && q.lcore = x.lcore)).map (fun q => q.core)).getD 0
    (Config.sfuUses (bodyOf p x)).findSome? (fun (slot, fid, lo, hi, qn, qp) =>
      match (sections p).find? (fun y => y.kind = 5 && y.var = v && y.node = x.node && y.lcore = x.lcore && Config.sfuSlot (bodyOf p y) = slot) with
      | none => some (x.node, core, slot, 0)
      | some y =>
        let k := slotOf (bodyOf p y)
        if bits (word k.head 0) 16 16 ≠ fid then some (x.node, core, slot, 0)
        else
          (placesBetween k.head lo hi).findSome? (fun (i, pl) =>
            let (n, q) := sfuBounds k pl
            if !((f32 qn).le (f32 n) && (f32 q).le (f32 qp)) then some (x.node, core, slot, i) else none)))

/-! ### Admission (R559, R564) -/

/-- What trying the variants gives. -/
structure Choice where
  got : Option (Nat × Fit) := none
  shorts : List (Nat × Nat) := []
  sfu : Option (Nat × Nat × Nat × Nat) := none
  deriving DecidableEq, Repr

/-- Try the variants in order (R556, R559). -/
def State.choose (s : State) (p : List Byte) (tenant excl : Nat) : Choice → List Nat → Choice
  | c, [] => c
  | c, v :: vs =>
    let f := s.tryVariant p v tenant excl
    if f.ok then
      match sfuFails p v f.placed with
      | none => { got := some (v, f) }
      | some x => s.choose p tenant excl { c with sfu := some x } vs
    else s.choose p tenant excl { c with shorts := f.shorts } vs

/-- Checks 4 to 7 of R559: the status and its result bytes without a plan, and the choice. -/
def State.admitCheck (s : State) (p : List Byte) (tenant excl : Nat) : State × Nat × List Byte × Option (Nat × Fit) :=
  let (s, shape) := s.liveShape p
  let vs := (((List.range (pkgVars p)).filter (fun v => shapeHeld p v shape)).foldr (trialOrder p) [])
  let tier1 := decide (pkgTier p = 1)
  if tier1 && !vs.all (fun v => s.r28 p v && mirrorsApart p v) then (s, 0x0312, [], none)
  else if s.reg 0x2300200C ≠ 0#32 && vs.any (fun v => bit (varMask p v) s.node || (varNodes p v).contains s.node) then (s, 0x0304, [], none)
  else
    let c := s.choose p tenant excl {} vs
    match c.got, c.sfu with
    | some (v, f), _ => (s, 0, leBytes 1 v ++ leBytes 1 0, some (v, f))
    | none, some (n, core, slot, seg) => (s, 0x0316, leBytes 1 n ++ leBytes 1 core ++ leBytes 1 slot ++ leBytes 1 seg, none)
    | none, none =>
      (s, 0x0314, leBytes 1 c.shorts.length ++ leBytes 3 0 ++ c.shorts.flatMap (fun x => leBytes 1 x.1 ++ leBytes 3 0 ++ leBytes 4 x.2), none)

/-- The package signers of the record: key hash and tenant mask (Table 17-18, section 2). -/
def State.signers (s : State) : List (List Byte × Nat) :=
  (List.range (min 8 (s.cfgField 192 1))).map (fun i => (s.cfgBytes (196 + 52 * i) 48, s.cfgField (244 + 52 * i) 1))

/-- Checks 1 to 3 of R559; 0 when they pass. -/
def State.packageStatus (s : State) (t : Transfer) (tenant : Nat) : Nat :=
  let p := t.bytes
  if !t.whole then 0x0318
  else if (crc32c p).toNat ≠ t.crc || !pkgSigned p s.signers tenant then 0x0310
  else if !pkgLayoutOk p || pkgId p ≠ t.pkg || !s.topologySet || pkgConfigCrc p ≠ s.configCrc then 0x0311
  else 0

/-- The tenant for which a package is admitted: the session's, or for an operator the first tenant of the package's tier. -/
def State.modelTenant (s : State) (t : Transfer) : Option Nat :=
  if t.tenant < 4 then (if s.tenantOn t.tenant then some t.tenant else none)
  else (List.range 4).find? (fun x => s.tenantOn x && s.tenantTier x = pkgTier t.bytes)

/-- MODEL_ADMIT (R559, R564). An admission that has been made stays as it is (R509). -/
def execModelAdmit (r : Req) (s : State) : Out := s.run (fun s =>
  s.serve r (fun s =>
    let h := fieldAt r.data 0 2
    if r.data.length ≠ 2 then s.respond r 0x0109 []
    else match s.con.models.find? (fun m => m.handle = h && decide (1 ≤ m.st)), s.transfer h with
      | some m, _ =>
        if !mayModel r m.tenant then s.respond r 0x0105 []
        else if s.opBusy r.code [(0, m.tenant), (1, m.pkg)] then s.respond r 0x0108 []
        else
          let (s, id) := s.opStart r [(0, m.tenant), (1, m.pkg)]
          s.opDone id 0 (leBytes 1 m.variant ++ leBytes 1 0 ++ leBytes 2 m.plan)
      | none, none => s.respond r 0x0109 []
      | none, some t =>
        if t.pkg = 0 || !(r.role = 4 || t.tenant = r.role) then s.respond r 0x0105 []
        else match s.modelTenant t with
          | none => s.respond r 0x0302 []
          | some ten =>
            if s.noTenants then s.respond r 0x010B []
            else if s.opBusy r.code [(0, ten), (1, t.pkg)] || s.con.models.any (fun m => m.pkg = t.pkg && decide (1 ≤ m.st)) then s.respond r 0x0108 []
            else
              let (s, id) := s.opStart r [(0, ten), (1, t.pkg)]
              match s.packageStatus t ten with
              | 0 =>
                match s.admitCheck t.bytes ten t.pkg with
                | (s, 0, data, some (v, f)) =>
                  let plan := s.con.nextPlan
                  let m : Model := { pkg := t.pkg, tenant := ten, tier := pkgTier t.bytes, bytes := t.bytes, handle := h, st := 1, variant := v,
                                     plan := plan, placed := f.placed, reservedAt := s.now, unusable := f.unusable }
                  let s := s.setModel m
                  ({ s with con := { s.con with nextPlan := plan % 65535 + 1 } } : State).opDone id 0 (data ++ leBytes 2 plan)
                | (s, st, data, _) => s.opDone id st data
              | st => s.opDone id st []))

/-- A reservation lapses 60 s after its admission (R564). -/
def execReservationLapse (h : Nat) (s : State) : Out := s.run (fun s =>
  .next (
    match s.con.models.find? (fun m => m.handle = h && m.st = 1 && m.phase = 0) with
    | some m => if m.reservedAt + 60 * kmpSec ≤ s.now then s.setModel { m with st := 0, placed := [] } else s
    | none => s))

/-! ### Writing a share (R553, R567) -/

/-- Power a pair on and let it become ready before its regions are written (R169, R574). -/
def State.powerNow (s : State) (c : Nat) (pairs : List Nat) : State :=
  let on := pairs.foldl (fun m p => m ||| 2 ^ p) (s.reg (palReg c 8)).toNat
  let s := s.bankPower c on
  pairs.foldl (fun s p =>
    match tblGet (fun _ => none) s.mem.pairUp (16 * c + p) with
    | some _ =>
      let s := s.setReg (palReg c 0xC) (s.reg (palReg c 0xC) ||| BitVec.ofNat 32 (2 ^ p))
      { s with mem := { s.mem.zeroPair c p with pairUp := tblSet (fun _ => none) s.mem.pairUp (16 * c + p) none } }
    | none => s) s

/-- Enable a region image of a share, LOCK = 0. -/
def State.stageRegion (s : State) (x : Nat × Nat × Nat × Nat × Nat) : State :=
  let (c, r, base, size, cfg) := x
  let w := s.firmware
  let g := rgnOf base size cfg
  let s := s.powerNow c ((List.range g.pairs).map (fun i => g.pair0 + i))
  ((s.rgnWrite w c r 0 (BitVec.ofNat 32 base)).rgnWrite w c r 1 (BitVec.ofNat 32 size)).rgnWrite w c r 2 (BitVec.ofNat 32 cfg)

/-- Open the write windows of a share (R171). -/
def State.stageWindows (s : State) (h : Config.Share) : State :=
  h.windows.foldl (fun s (c, w, base, cfg) => (s.setReg (aWin c w 0) (BitVec.ofNat 32 base)).winCfg c w (BitVec.ofNat 32 cfg)) s

/-- Write the step lists of a share. -/
def State.stageLists (s : State) (h : Config.Share) : State := h.staged.foldl (fun s (c, off, bs) => s.ingressPut c off bs) s

/-- The places of a model's cores on a node. -/
def Model.places (m : Model) (node : Nat) : List Place :=
  (m.placed.filter (fun x => x.node = node)).map (fun x => { lcore := x.lcore, core := x.core, wide := x.wide, narrow := x.narrow, compute := x.compute })

/-- The share of a node in a plan of a model (R553, R567). -/
def Model.share (m : Model) (node : Nat) (lost : Option Nat) : Config.Share :=
  shareOf m.bytes m.variant m.tenant node lost (m.places node) (m.placed.map (fun x => (x.node, x.lcore, x.core)))

/-- Keep a share. -/
def State.setShare (s : State) (plan sel : Nat) (h : Config.Share) : State :=
  let k := plan * 128 + sel
  { s with con := { s.con with shares := (s.con.shares.filter (fun x => x.1 ≠ k)) ++ [(k, h)] } }

/-- The bodies of a node as palette writes: core, offset, bytes. -/
def Model.bodies (m : Model) (node : Nat) : List (Nat × Nat × List Byte) :=
  let h := m.share node none
  let xs := (sections m.bytes).filter (fun x => x.var = m.variant && x.node = node && (x.kind = 4 || x.kind = 5))
  (h.bodies.zip xs).map (fun (b, x) => (b.1, b.2.1, bodyOf m.bytes x))

/-- Send bytes to a palette of another node by WRITE_BULK, at most 512 bytes each (R440, R567). -/
def State.bulkTo (s : State) (node c off : Nat) (bs : List Byte) : State :=
  (List.range ((bs.length + 511) / 512)).foldl (fun s i =>
    let d := (bs.drop (512 * i)).take 512
    s.issue { dst := node, kind := 1, nbytes := d.length, issuer := 13, ten := 7, addr := palBase c + off + 512 * i, data := d } .firmware) s

/-- DISTRIBUTE to one node: this chip writes its own share, another one gets its bodies by WRITE_BULK and its registers and lists
by order (Table 19-6). -/
def State.distribute (s : State) (m : Model) (node : Nat) : State :=
  if node = s.node then
    let h := m.share node none
    let s := h.regions.foldl (fun s x => s.stageRegion x) s.wake
    let s := (m.bodies node).foldl (fun s (c, off, bs) => s.ingressPut c off bs) s
    let s := (s.stageLists h).stageWindows h
    let s := s.setShare m.plan 0 h
    (fallbacks m.bytes m.variant).foldl (fun s x => s.setShare m.plan (1 + x) (m.share node (some x))) s
  else
    let s := s.emit (.order node 0x0313 (leBytes 2 m.plan ++ leBytes 1 m.tenant))
    (m.bodies node).foldl (fun s (c, off, bs) => s.bulkTo node c off bs) s

/-! ### Commit (R567 to R571) -/

/-- A commit beacon (Table 19-7). -/
def commitBeacon (ty plan n : Nat) : List Byte := beaconBytes ty ([0#8] ++ leBytes 2 plan) n

/-- MODEL_COMMIT: checks 4 to 7 again, then DISTRIBUTE (R564, R567). -/
def execModelCommit (r : Req) (s : State) : Out := s.run (fun s =>
  s.serve r (fun s =>
    let h := fieldAt r.data 0 2
    if r.data.length ≠ 2 then s.respond r 0x0109 []
    else match s.con.models.find? (fun m => m.handle = h) with
      | none => s.respond r 0x0317 []
      | some m =>
        if !mayModel r m.tenant then s.respond r 0x0105 []
        else if s.opBusy r.code [(0, m.tenant), (1, m.pkg)] then s.respond r 0x0108 []
        else if m.st = 0 then s.respond r 0x0317 []
        else if s.get fMode = 2 then s.respond r 0x010B []
        else if 2 ≤ m.st then s.respond r 0 (leBytes 1 m.variant ++ leBytes 1 0 ++ leBytes 2 m.plan)
        else
          match s.admitCheck m.bytes m.tenant m.pkg with
          | (s, 0, _, some (v, f)) =>
            let (s, id) := s.opStart r [(0, m.tenant), (1, m.pkg)]
            let m := { m with variant := v, placed := f.placed, unusable := f.unusable, phase := 1, prepared := 0, ordered := 0, op := id, retried := false }
            let s := s.setModel m
            ((List.range 64).filter (bit m.nodes)).foldl (fun s n => s.distribute m n) s
          | (s, st, data, _) => s.respond r st data))

/-- This chip's commit state of a plan. -/
def State.commitOf (s : State) (plan : Nat) : Commit := tblGet (fun _ => {}) s.con.commits plan
/-- The state with a commit state replaced. -/
def State.putCommit (s : State) (plan : Nat) (c : Commit) : State :=
  { s with con := { s.con with commits := tblSet (fun _ => {}) s.con.commits plan c } }

/-- Every body of a share is in place with its CRC (Table 19-6), as firmware reads it. -/
def State.bodiesOk (s : State) (h : Config.Share) : Bool :=
  h.bodies.all (fun (c, off, len, crc) => match (s.ingressGet c off len).2 with
    | some bs => (crc32c bs).toNat = crc
    | none => false)

/-- What reading the bodies of a share leaves: the parity errors that it meets (R164, R165). -/
def State.readBodies (s : State) (h : Config.Share) : State := h.bodies.foldl (fun s (c, off, len, _) => (s.ingressGet c off len).1) s

/-- A step list that runs on this chip names a slot of a core. -/
def State.slotInUse (s : State) (c slot : Nat) : Bool :=
  s.plans.any (fun p => p.2.covers s.tim.epoch && (s.con.shares.any (fun x => x.1 / 128 = p.1 && x.2.tables.any (fun t => t.1 = c && t.2.1 = slot))))

/-- Firmware loads one SFU slot (R283, R285): a slot that no running step list names is unloaded first. None when it becomes READY, else
what ABORT reports: the chip, core, slot, cause and index. -/
def State.loadTable (s : State) (c slot off : Nat) : State × Option (List Byte) :=
  let s := if (s.sfuSlot c slot).ready && !s.slotInUse c slot then s.sfuEmpty c slot else s
  let s := ((s.setReg (sfuReg c 0) (BitVec.ofNat 32 off)).sfuLoadGo c slot)
  let s := if (s.core c).sfu.loading = some slot then s.sfuLoadEnd c else s
  let w := (s.reg (sfuReg c 8)).toNat
  (s, if w % 8 = 3 then none else some (leBytes 1 s.node ++ leBytes 1 c ++ leBytes 1 slot ++ leBytes 1 (bits w 8 8) ++ leBytes 2 (bits w 16 16)))

/-- Load the SFU slots of a share in order, up to the first that fails (R283); input ranges go to their registers (R282). -/
def State.loadTables (s : State) (h : Config.Share) : State × Option (List Byte) :=
  let r := h.tables.foldl (fun (r : State × Option (List Byte)) (c, slot, off) => if r.2.isSome then r else r.1.loadTable c slot off) (s, none)
  (h.uses.foldl (fun s (c, slot, lo, hi) => (s.setReg (aSlot c slot 4) (BitVec.ofNat 32 lo)).setReg (aSlot c slot 8) (BitVec.ofNat 32 hi)) r.1, r.2)

/-- The first slot of a share that failed to load: core, slot, cause and index of `SFU_LOAD_STAT`. -/
def State.tableFails (s : State) (h : Config.Share) : Option (List Byte) :=
  (h.tables.find? (fun (c, slot, _) => !(s.sfuSlot c slot).ready)).map (fun (c, slot, _) =>
    let w := (s.reg (sfuReg c 8)).toNat
    leBytes 1 s.node ++ leBytes 1 c ++ leBytes 1 slot ++ leBytes 1 (bits w 8 8) ++ leBytes 2 (bits w 16 16))

/-- The model after its commit was aborted: it is staged again, or, where it was being admitted again, what it was (R568, R594). -/
def Model.aborted (m : Model) : Model :=
  match m.prev with
  | none => { m with st := 0, phase := 0, placed := [], prepared := 0, ordered := 0 }
  | some (plan, v, placed, fb) =>
    { m with st := if placed.isEmpty then 4 else 3, plan := plan, variant := v, placed := placed, fallback := fb, prev := none,
             phase := 0, prepared := 0, ordered := 0 }

/-- The pole aborts a commit: COMMIT_ABORT, and the operation ends (R568, R569). -/
def State.abortCommit (s : State) (m : Model) (status : Nat) (data : List Byte) : State :=
  if m.phase = 0 then s
  else
    let s := s.setModel m.aborted
    (s.broadcast (commitBeacon 0x24 m.plan 0)).opDone m.op status data

/-- A chip has verified the sections of a commit, or found one corrupt: it is sent once more, then the commit aborts (R567, Table
19-9). A slot that fails to load aborts it with 0x0315 (R283). -/
def execCommitVerifyDone (plan : Nat) (ok : Bool) (s : State) : Out := s.run (fun s =>
  let h := s.share plan 0
  let c := s.commitOf plan
  .next (
    if c.st ≠ 0 || !h.present then s
    else if ok && s.bodiesOk h then
      let (s, fails) := (s.readBodies h).loadTables h
      match fails with
      | none => ((s.stageLists h).putCommit plan { c with st := 1 }).toPole (commitBeacon 0x20 plan 0)
      | some d =>
        match (if s.isPole then s.planModel plan else none) with
        | some m => s.abortCommit m 0x0315 d
        | none => match s.loss.pole with | some q => s.emit (.order q 0x0315 d) | none => s
    else
      let s := s.readBodies h
      match (if s.isPole then s.planModel plan else none) with
      | some m => if c.retried then s.abortCommit m 0x0311 [] else (s.distribute m s.node).putCommit plan { c with retried := true }
      | none =>
        let s := s.putCommit plan { c with retried := true }
        match s.loss.pole with | some q => s.emit (.order q 0x0311 (leBytes 2 plan)) | none => s))

/-- Plan of a commit beacon. -/
def beaconPlan (b : Packet) : Nat := fieldAt b.data 2 2

/-- The pole takes PREPARED; with one of every chip it broadcasts ORDER (R567). -/
def execPrepared (b : Packet) (s : State) : Out := s.run (fun s =>
  let s := s.took b
  .next (
    match (if s.isPole then s.planModel (beaconPlan b) else none) with
    | none => s
    | some m =>
      if m.phase ≠ 1 then s
      else
        let m := { m with prepared := m.prepared ||| 2 ^ (b.src % 64) }
        if m.nodes &&& m.prepared = m.nodes then (s.setModel { m with phase := 2 }).broadcast (commitBeacon 0x21 m.plan 0) else s.setModel m))

/-- A chip that is PREPARED stores ORDER and answers ORDERED (R567). -/
def execOrder (b : Packet) (s : State) : Out := s.run (fun s =>
  let s := s.took b
  let c := s.commitOf (beaconPlan b)
  .next (if c.st = 1 then (s.putCommit (beaconPlan b) { c with st := 2 }).toPole (commitBeacon 0x22 (beaconPlan b) 0) else s))

/-- The barrier entry of a plan from its share. -/
def shareEpochs (h : Config.Share) (first : Nat) : PlanEpoch :=
  { nodes := h.nodes, cores := h.cores.foldl (fun m c => m ||| 2 ^ c) 0, first := first, flags := h.flags, words := h.words, safetyTier := h.safetyTier }

/-- The pole takes ORDERED; with one of every chip the commit record is complete and it broadcasts GO (R567). A pole that is no
chip of the plan keeps its barrier all the same. -/
def execOrdered (b : Packet) (s : State) : Out := s.run (fun s =>
  let s := s.took b
  .next (
    match (if s.isPole then s.planModel (beaconPlan b) else none) with
    | none => s
    | some m =>
      if m.phase ≠ 2 then s
      else
        let m := { m with ordered := m.ordered ||| 2 ^ (b.src % 64) }
        if m.nodes &&& m.ordered = m.nodes then
          let s := if bit m.nodes s.node then s else s.setPlan m.plan (shareEpochs (m.share s.node none) (s.tim.epoch + 3))
          (s.setModel { m with phase := 3, goAt := s.tim.epoch + 3 }).broadcast (commitBeacon 0x23 m.plan (s.tim.epoch + 3))
        else s.setModel m))

/-- Arm the switch of every core of a share at epoch `n` (R228). -/
def State.armLists (s : State) (h : Config.Share) (n : Nat) : State :=
  h.lists.foldl (fun s (c, off, len, entry) =>
    let s := s.setReg (seqReg c 0x18) (BitVec.ofNat 32 off)
    let s := s.setReg (seqReg c 0x1C) (BitVec.ofNat 32 len)
    let s := s.setReg (seqReg c 0x20) (BitVec.ofNat 32 entry)
    (s.setReg64 (seqReg c 0x24) n).seqNextCtl c 1#32) s

/-- Give the cores of a share their compute tenant (R214, R215); the field is written once. -/
def State.giveCores (s : State) (h : Config.Share) : State :=
  h.cores.foldl (fun s c => if s.get (fTenant c) = h.tenant then s else s.putReg s.firmware false (seqReg c 8) (BitVec.ofNat 32 h.tenant)) s

/-- A chip stores GO with S and arms the switch (R567, R568). -/
def execGo (b : Packet) (s : State) : Out := s.run (fun s =>
  let s := s.took b
  let plan := beaconPlan b
  let n := fieldAt b.data 8 8
  let c := s.commitOf plan
  let h := s.share plan 0
  .next (
    if c.st = 0 || c.st = 3 || !h.present then s
    else
      let s := s.putCommit plan { c with st := 3, s_ := n }
      let s := h.regions.foldl (fun (s : State) (x : Nat × Nat × Nat × Nat × Nat) =>
        let g := s.rgn x.1 x.2.1
        if g.en then s.powerNow x.1 ((List.range g.pairs).map (fun i => g.pair0 + i)) else s) s
      let s := (s.giveCores h).armLists h n
      s.setPlan plan (shareEpochs h n)))

/-- Set bank power on every core: a pair is powered when it holds an enabled region (R573). -/
def State.bankAdjust (s : State) : State :=
  (List.range 8).foldl (fun s c =>
    let used := (List.range 8).foldl (fun m r =>
      let g := s.rgn c r
      if g.en then (List.range g.pairs).foldl (fun m i => m ||| 2 ^ (g.pair0 + i)) m else m) 0
    s.bankPower c used) s

/-- Clear a region of a core and release it: phases 2 to 4 of Table 5-6 for one region. -/
def State.freeRegion (s : State) (c r : Nat) : State :=
  let g := s.rgn c r
  let m := (List.range g.nb).foldl (fun m i => m.zeroRows c (2 * g.pair0 + i) g.rowBase g.rows) s.mem
  State.rgnRelease { s with mem := m } c r

/-- A share leaves this chip: its regions but those of `keep`, its slots and its windows. -/
def State.freeShare (s : State) (h : Config.Share) (keep : List (Nat × Nat)) : State :=
  let gone := (h.regions.map (fun x => (x.1, x.2.1))).filter (fun x => !keep.contains x)
  let s := h.windows.foldl (fun (s : State) (x : Nat × Nat × Nat × Nat) => s.setReg (aWin x.1 x.2.1 1) (s.reg (aWin x.1 x.2.1 1) &&& ~~~ 1#32)) s
  let s := gone.foldl (fun s x => s.freeRegion x.1 x.2) s
  h.tables.foldl (fun (s : State) (x : Nat × Nat × Nat) => if keep.any (fun y => y.1 = x.1) then s else s.sfuEmpty x.1 x.2.1) s

/-- Forget the shares of a plan. -/
def State.dropShares (s : State) (plan : Nat) : State :=
  { s with con := { s.con with shares := s.con.shares.filter (fun x => x.1 / 128 ≠ plan) } }

/-- COMMIT_ABORT clears every staged region of the plan, unloads its slots and sets its state to NONE (R568). -/
def execCommitAbort (b : Packet) (s : State) : Out := s.run (fun s =>
  let s := s.took b
  let plan := beaconPlan b
  let h := s.share plan 0
  let c := s.commitOf plan
  .next (
    if !h.present || (c.st = 3 && decide (c.s_ ≤ s.tim.epoch)) then s
    else
      let s := h.cores.foldl (fun s c => (s.set (fSeqArm c) 0).onSeq c (fun q => { q with switchAt := none })) s
      let s := { s with plans := tblSet (fun _ => {}) s.plans plan {} }
      (((s.freeShare h []).dropShares plan).putCommit plan {}).bankAdjust))

/-! ### At a boundary -/

/-- Write the RES spans of a share into free entries of the tenant's fence (R650). -/
def State.resSpans (s : State) (h : Config.Share) : State :=
  h.spans.foldl (fun s x =>
    match (List.range 4).find? (fun k => s.reg (aFence h.tenant (0x14 + 8 * k)) = 0#32) with
    | some k =>
      let s := s.fencePut s.firmware (aFence h.tenant (0x10 + 8 * k)) (BitVec.ofNat 32 x.1)
      s.fencePut s.firmware (aFence h.tenant (0x14 + 8 * k)) (BitVec.ofNat 32 x.2)
    | none => s) s

/-- This chip's part of a switch at boundary(n) (R567): regions are locked, register 5 is extended, RES spans are written. -/
def State.switchPlan (s : State) (plan : Nat) : State :=
  let h := s.share plan 0
  let s := h.regions.foldl (fun (s : State) (x : Nat × Nat × Nat × Nat × Nat) =>
    if (s.rgn x.1 x.2.1).lock then s else s.rgnWrite s.firmware x.1 x.2.1 2 (s.reg (aRgn x.1 x.2.1 2) ||| 0x80000000#32)) s
  ((s.measure 5 h.measured).resSpans h).putCommit plan {}

/-- A plan leaves this chip at boundary(n) as another takes its place: cores that the new one does not use stop, what it does not
name is cleared (R571). -/
def State.retire (s : State) (old new n : Nat) : State :=
  let h := s.share new 0
  let o := s.share old (s.shareSel old)
  let keep := h.regions.map (fun x => (x.1, x.2.1))
  let s := (o.cores.filter (fun c => !h.cores.contains c)).foldl (fun s c => s.haltCore c) s
  let s := (s.freeShare o keep).dropShares old
  s.onPlan old (fun e => { e with end_ := some n, pend := [] })

/-- The model that a package replaces leaves the constellation, and so does the plan that ran while a model was admitted again
(R571, R604). -/
def State.replaceModel (s : State) (new : Model) (n : Nat) : State :=
  let before := s
  let s := match new.prev with
    | some q => s.retire q.1 new.plan n
    | none => s
  match s.con.models.find? (fun m => m.pkg = pkgReplaces new.bytes && m.tenant = new.tenant && decide (2 ≤ m.st) && decide (m.pkg ≠ new.pkg)) with
  | none => s
  | some old =>
    let s := (s.retire old.plan new.plan n).setModel { old with st := 0, placed := [], fallback := none }
    s.con.services.foldl (fun s v =>
      match s.service v.id with
      | some v => if v.pkg = old.pkg then s.setService (before.replan v (({ v with pkg := new.pkg } : Service).placed new) n) else s
      | none => s) s

/-- MODEL_STATE of a package: 0 active, 1 degraded, 2 reloaded (Table 17-14). -/
def State.modelState (s : State) (m : Model) (st : Nat) : State :=
  s.deliverEvent 0x8303 s.node (leBytes 8 m.pkg ++ leBytes 1 st) (some m.tenant)

/-- What boundary(n) does to commits: chips that hold GO switch, and the pole ends the operation (R567, R571, R573). -/
def State.commitBoundary (s : State) (n : Nat) : State :=
  let due := s.con.commits.filter (fun c => c.2.st = 3 && c.2.s_ = n)
  let s := due.foldl (fun s c => s.switchPlan c.1) s
  let s := (s.con.models.filter (fun m => m.phase = 3 && m.goAt = n)).foldl (fun s m =>
    let before := s
    let s := s.replaceModel m n
    let m := { m with st := 2, phase := 0, prev := none, fallback := none }
    let s := s.setModel m
    let s := s.con.services.foldl (fun s v =>
      match s.service v.id with
      | some v =>
        if v.pkg = m.pkg then
          let w := if v.plan = m.plan then v.placed m else before.replan v (v.placed m) n
          s.refreshService (((w.cond 6 false).cond 9 false).cond 18 false)
        else s
      | none => s) s
    let s := s.autoStart (some m.pkg)
    (s.opDone m.op 0 (leBytes 1 m.variant ++ leBytes 1 0 ++ leBytes 2 m.plan)).modelState m 0) s
  if due.isEmpty then s else s.bankAdjust

/-- Halt and free this chip's part of a model at boundary(n) (R572). -/
def State.unloadHere (s : State) (plan n : Nat) : State :=
  let h := s.share plan (s.shareSel plan)
  let s := h.cores.foldl (fun s c => s.haltCore c) s
  ((s.freeShare h []).dropShares plan).onPlan plan (fun e => { e with end_ := some n })

/-- A model leaves at boundary(n): services that read it become UNAVAILABLE with cause 0x09 (R572). -/
def State.unloadModel (s : State) (m : Model) (n : Nat) : State :=
  let s := if 2 ≤ m.st then s.unloadHere m.plan n else s
  let s := if m.drop then s.dropModel m.pkg else s.setModel { m with st := 0, placed := [], unloadAt := none, fallback := none }
  let s := s.condAll (fun v => v.started && v.pkg = m.pkg) 9 true
  if m.op = 0 then s else s.opDone m.op 0 []

/-- MODEL_UNLOAD (R572): U is two epochs ahead. A model that is already gone, or unloaded, answers 0x0000 (R509; DEDUCED, log entry
39). -/
def execModelUnload (r : Req) (s : State) : Out := s.run (fun s =>
  s.serve r (fun s =>
    let pkg := fieldAt r.data 0 8
    if (decide (r.data.length ≠ 8) && decide (r.data.length ≠ 9)) || decide (1 < byteAt r.data 8) then s.respond r 0x0109 []
    else match s.model pkg with
      | none => s.respond r 0 []
      | some m =>
        if !mayModel r m.tenant then s.respond r 0x0105 []
        else if s.opBusy r.code [(0, m.tenant), (1, pkg)] then s.respond r 0x0108 []
        else if m.st = 0 && !bit (byteAt r.data 8) 0 then s.respond r 0 []
        else
          let (s, id) := s.opStart r [(0, m.tenant), (1, pkg)]
          let u := s.tim.epoch + 2
          let s := s.setModel { m with unloadAt := some u, drop := bit (byteAt r.data 8) 0, op := id }
          let s := if 2 ≤ m.st then s.onPlan m.plan (fun e => { e with end_ := some u }) else s
          ((List.range 64).filter (fun n => bit m.nodes n && n ≠ s.node && decide (2 ≤ m.st))).foldl
            (fun s n => s.emit (.order n 0x0318 (leBytes 2 m.plan ++ leBytes 8 u))) s))

/-- MODEL_LIST (Table 17-28). The pole's own store holds every package, and after a commit those of the other live pole-eligible
chips (R558). -/
def execModelList (r : Req) (s : State) : Out := s.run (fun s =>
  s.serve r (fun s =>
    let ms := s.con.models.filter (fun m => r.role = 4 || m.tenant = r.role)
    let ts := s.con.transfers.filter (fun t => t.pkg ≠ 0 && (s.model t.pkg).isNone && (r.role = 4 || t.tenant = r.role))
    if r.data.length ≠ 0 then s.respond r 0x0109 []
    else s.respond r 0 (leBytes 1 (ms.length + ts.length) ++ leBytes 3 0 ++ ms.flatMap (fun m =>
      leBytes 8 m.pkg ++ leBytes 1 m.tenant ++ leBytes 1 m.tier ++ leBytes 1 m.st ++ leBytes 1 m.variant ++ leBytes 2 m.plan ++
        leBytes 1 (if 2 ≤ m.st then 1 + s.otherEligible.length else 1) ++ leBytes 1 0 ++ leBytes 4 m.bytes.length ++ leBytes 4 0) ++
      ts.flatMap (fun t => leBytes 8 t.pkg ++ leBytes 1 t.tenant ++ leBytes 1 (byteAt t.bytes 5) ++ leBytes 4 0 ++ leBytes 2 1 ++ leBytes 4 t.total ++ leBytes 4 0))))

/-! ### Tenants -/

/-- TENANT_CREATE (Table 17-12, R512, R648), not before formation (R39). While a rate change waits for its boundary no tenant is admitted,
since it takes effect only with none (R134); the answer 0x0108 is DEDUCED (log entry 33). A constellation of fewer than 3 live chips takes no tenant of the safety tier (R31). -/
def execTenantCreate (r : Req) (s : State) : Out := s.run (fun s =>
  s.serve r (fun s =>
    let t := byteAt r.data 0
    let tier := byteAt r.data 1
    let mask := fieldAt r.data 4 8
    let key := slice r.data 12 32
    let bad := (nodesOf mask).find? (fun n => s.nodeStatus n ≠ 0)
    if decide (r.data.length ≠ 44) || decide (3 < t) || decide (1 < tier) || fieldAt r.data 2 2 ≠ 0 || mask = 0 then s.respond r 0x0109 []
    else if s.noTenants || !s.loss.formed then s.respond r 0x010B []
    else if s.opBusy r.code [(0, t)] || s.ratePending then s.respond r 0x0108 []
    else if s.tenantOn t then
      s.respond r (if s.tenantTier t = tier && s.tenantMask t = mask && tblGet (fun _ => []) s.con.tenKeys t = key then 0 else 0x0301) []
    else match bad with
      | some n => s.respond r (s.nodeStatus n) []
      | none =>
        if tier = 1 && popCount s.loss.members 64 < 3 then s.respond r 0x0312 []
        else if (nodesOf mask).any (fun n => 4 ≤ ((List.range 4).filter (fun x => s.tenantOn x && bit (s.tenantMask x) n)).length) then s.respond r 0x0303 []
        else
          let s := s.tenantEntry t (1 + 2 * tier) mask
          let s := { s with con := { s.con with tenKeys := tblSet (fun _ => []) s.con.tenKeys t key } }
          let s := if bit mask s.node then s.fenceWrite t tier mask else s
          let s := ((nodesOf mask).filter (fun n => n ≠ s.node)).foldl (fun s n =>
            s.emit (.order n 0x0300 (leBytes 1 t ++ leBytes 1 (1 + 2 * b2n (s.exportBit t) + 4 * tier) ++ leBytes 6 0 ++ leBytes 8 mask))) s
          let s := s.otherEligible.foldl (fun s n => s.emit (.order n 0x0300 (leBytes 1 t ++ key))) s
          s.recordChanged.respond r 0 []))

/-- TENANT_STATUS (Table 17-28). -/
def execTenantStatus (r : Req) (s : State) : Out := s.run (fun s =>
  s.serve r (fun s =>
    let t := byteAt r.data 0
    if decide (r.data.length ≠ 1) || decide (3 < t) then s.respond r 0x0109 []
    else if r.role ≠ 4 && r.role ≠ t then s.respond r 0x0105 []
    else
      let st := if s.con.releasing.any (fun x => x.1 = t) then 2 else b2n (s.tenantOn t)
      let ms := (s.con.models.filter (fun m => m.tenant = t)).take 8
      s.respond r 0 (leBytes 1 t ++ leBytes 1 (s.tenantTier t) ++ leBytes 1 st ++ leBytes 1 0 ++ leBytes 8 (s.tenantMask t) ++
        leBytes 1 (s.kmp.sessions.filter (fun x => x.opened && x.role = t)).length ++ leBytes 1 ms.length ++ leBytes 2 0 ++
        ms.flatMap (fun m => leBytes 8 m.pkg))))

/-- TENANT_RELEASE (R654): a tenant that is already gone answers 0x0000 (R509; DEDUCED, log entry 39); else services stop, models leave at U, a commit of the tenant aborts (R575). -/
def execTenantRelease (r : Req) (s : State) : Out := s.run (fun s =>
  s.serve r (fun s =>
    let t := byteAt r.data 0
    if decide (r.data.length ≠ 1) || decide (3 < t) then s.respond r 0x0109 []
    else if !s.tenantOn t then s.respond r 0 []
    else if s.kmp.ops.any (fun o => o.status.isNone && decide (o.cmd / 256 = 3) && decide (o.cmd ≠ 0x0313) && o.names.contains (0, t)) then s.respond r 0x0108 []
    else
      let (s, id) := s.opStart r [(0, t)]
      let s := (s.con.models.filter (fun m => m.tenant = t && decide (m.phase ≠ 0))).foldl (fun s m => s.abortCommit m 0x0313 []) s
      let s := s.con.services.foldl (fun s v => match s.service v.id with
        | some v => if v.tenant = t then (s.stopService v).setAuto v.id [] else s
        | none => s) s
      let u := s.tim.epoch + 2
      let s := { s with con := { s.con with
        models := s.con.models.map (fun (m : Model) => if m.tenant = t && decide (1 ≤ m.st) then { m with unloadAt := some u, op := 0, drop := false } else m)
        releasing := s.con.releasing ++ [(t, id, u, false)] } }
      let s := (s.con.models.filter (fun m => m.tenant = t && decide (2 ≤ m.st))).foldl (fun s m => s.onPlan m.plan (fun e => { e with end_ := some u })) s
      ((nodesOf (s.tenantMask t)).filter (fun n => n ≠ s.node)).foldl (fun s n => s.emit (.order n 0x0301 (leBytes 1 t ++ leBytes 8 u))) s))

/-- The clear engine is busy on some core. -/
def State.clearBusy (s : State) : Bool := (List.range 8).any (fun c => (tblGet (fun _ => none) s.mem.clear c).isSome)

/-- Steps 4 and 5 of a release: fences stand at reset, register 6 and the record follow, sessions close (R654). -/
def State.finishRelease (s : State) : State :=
  if s.clearBusy then s
  else
    (s.con.releasing.filter (fun x => x.2.2.2)).foldl (fun s x =>
      let t := x.1
      let s := if bit (s.tenantMask t) s.node then s.measure 6 (s.fenceRecord t) else s
      let s := s.tenantEntry t 0 0
      let s := { s with con := { s.con with
        tenKeys := tblSet (fun _ => []) s.con.tenKeys t [], releasing := s.con.releasing.filter (fun y => y ≠ x) } }
      let s := s.recordChanged
      let s := (s.kmp.sessions.filter (fun y => y.role = t)).foldl (fun s y => s.closeSession y.sid) s
      (s.deliverEvent 0x8302 s.node (leBytes 1 t) none).opDone x.2.1 0 []) s

/-- Steps 2 and 3 of a release on this chip: cameras stop, armed sets of the tenant's feeds open, contexts and notes end, every core
clears (R373, R430, R176, R207). -/
def State.clearTenant (s : State) (t : Nat) : State :=
  let s := ((List.range 4).filter (fun p => (s.reg (camReg p 0x18)).toNat % 8 = t)).foldl (fun s p => s.camRelease p) s
  let s := ((List.range 8).filter (fun f => s.get ⟨0x25000030, 4 * f, 3⟩ = t)).foldl (fun s f => s.setDisarm (4 + f)) s
  let s := ((List.range 8).filter (fun c => s.get (fTenant c) = t)).foldl (fun s c => (s.haltCore c).sfuRelease c) s
  (List.range 8).foldl (fun s c => s.clearStart c t false) ((s.stopNotes t).setReg 0x2300200C 1#32)

/-- What boundary(n) does to models and tenants on their way out (R572, R654). -/
def State.unloadBoundary (s : State) (n : Nat) : State :=
  let gone := s.con.models.filter (fun m => m.unloadAt = some n)
  let s := gone.foldl (fun s m => s.unloadModel m n) s
  let rs := s.con.releasing.filter (fun x => x.2.2.1 = n && !x.2.2.2)
  let s := rs.foldl (fun s x =>
    let s := { s with con := { s.con with releasing := s.con.releasing.map (fun y => if y = x then (x.1, x.2.1, x.2.2.1, true) else y) } }
    if bit (s.tenantMask x.1) s.node then s.clearTenant x.1 else s) s
  let s := if rs.isEmpty then s else s.finishRelease
  if gone.isEmpty then s else s.bankAdjust

/-- A phase of a core's tenant clear ends; with the last one the release goes on (Table 5-6, R654). -/
def execClearPhaseEnd (c : Fin 8) (s : State) : Out := s.run (fun s => .next (s.clearNext c).finishRelease)

end Sys2Proof.Machine
end

