-- ==== Sys2Proof/Machine/Routes.lean ====
section
/-! DEFINITION. Routes: writing and switching the route tables: first tables, re-routing and standby tables (R98, R110, R111, R477,
R586). -/

namespace Sys2Proof.Machine

/-- Write this chip's inactive bank. -/
def State.ownBank (s : State) (t : Topo) : State :=
  let b := 1 - s.get fBank
  ((List.range 64).zip (s.tableOf t s.node)).foldl (fun s x => s.setReg (0x21009000 + 0x100 * b + 4 * x.1) (BitVec.ofNat 32 x.2)) s

/-- A register write to another node, by WRITE_BULK of firmware. -/
def State.regsTo (s : State) (node a : Nat) (data : List Byte) : State :=
  s.issue { dst := node, kind := 1, nbytes := data.length, issuer := 13, ten := 7, addr := a, data := data } .firmware

/-- Write the inactive bank of a member: of another chip the one beside its active bank, which the pole knows from the swaps it ordered
(R98, R111). -/
def State.bankOf (s : State) (t : Topo) (node : Nat) : State :=
  if node = s.node then s.ownBank t
  else s.regsTo node (0x21009000 + 0x100 * (1 - b2n (bit s.loss.banks node))) ((s.tableOf t node).flatMap (leBytes 4))

/-- Set T and ARM on a member. -/
def State.armRoutes (s : State) (node at_ : Nat) : State :=
  if node = s.node then (s.setReg64 0x21008008 at_).set fArm 1
  else (s.regsTo node 0x21008008 (leBytes 8 at_)).regsTo node 0x21008004 (leBytes 4 6)

/-- The pole writes every member's inactive bank and arms the switch at T (R111). -/
def State.reroute (s : State) (members at_ : Nat) : State :=
  let t := s.topo members
  let s := { s with loss := { s.loss with standby := false } }
  (nodesOf members).foldl (fun s n => (s.bankOf t n).armRoutes n at_) s

/-- T of a re-route after a failure, 1 ms ahead: the spec asks for completion within 5 ms of the DOWN. -/
def State.soon (s : State) : Nat := s.ctNs + 1000000

/-- The pole writes the standby tables: those of the membership without itself (R586). -/
def State.writeStandby (s : State) : State :=
  let members := s.loss.members &&& (18446744073709551615 - 2 ^ s.node)
  let t := s.topo members
  let s := (nodesOf members).foldl (fun s n => s.bankOf t n) s
  { s with loss := { s.loss with standby := true } }

/-- Firmware of a chip that has just started writes bank 1 and swaps at once; dateline ports follow the topology (R477). -/
def State.firstTables (s : State) : State :=
  let members := if s.loss.members = 0 then s.cfgField 20 8 ||| s.loss.reach ||| 2 ^ s.node else s.loss.members
  let t := s.topo members
  let s := (List.range 4).foldl (fun s p => s.set (fDateline p) (b2n (t.dateline s.node p))) s
  (s.ownBank t).armRoutes s.node 0

/-- The pole's tables after a swap: those of a join still to come, with T at its boundary (R603), else the standby tables (R586). -/
def State.afterSwitch (s : State) : State :=
  match s.loss.changes.find? (fun c => c.2.1) with
  | some c =>
    let t := s.topo (s.loss.members ||| 2 ^ c.1)
    (nodesOf s.loss.members).foldl (fun s n => (s.bankOf t n).armRoutes n (s.boundary c.2.2.2)) s
  | none => s.writeStandby

/-- Constellation time reaches T: the banks swap, and the pole then writes standby tables (R111, R586). -/
def execRouteSwitch (s : State) : Out := s.run (fun s =>
  let s := s.swapDue
  .next (
    if s.loss.swapped then
      let s := { s with loss := { s.loss with swapped := false } }
      if s.isPole && s.loss.formed then s.afterSwitch else s
    else s))

end Sys2Proof.Machine
end

