-- ==== Sys2Proof/Machine/Loss.lean ====
section
/-! DEFINITION. Loss: heartbeats, link reports, self-report, the declaration of a loss, the pole beat and election, the switch to
fallback plans and rejoining (20). -/

namespace Sys2Proof.Machine

/-- Change what the chip knows of membership and loss. -/
def State.onLoss (s : State) (f : LossState → LossState) : State := { s with loss := f s.loss }

/-- A mask without a node. -/
def without (mask n : Nat) : Nat := if bit mask n then mask - 2 ^ n else mask

/-- A part of the constellation keeps it (R37). -/
def State.keeps (s : State) (part : Nat) : Bool :=
  let old := s.loss.committed
  let n := popCount old 64
  let k := popCount (part &&& old) 64
  decide (n < 2 * k) || (2 * k = n && (match (nodesOf (old &&& s.eligibleMask)).head? with | some x => bit part x | none => false))

/-! ### Heartbeats (R579 to R581) -/

/-- `SAF_HB_TX_0` to `_3`. -/
def aHbTx (i : Nat) : Nat := 0x24002004 + 4 * i
/-- MISS of a port. -/
def fMiss (p : Nat) : Fld := ⟨aHbPort p, 0, 2⟩
/-- SILENT. -/
def fSilent (p : Nat) : Fld := ⟨aHbPort p, 2, 1⟩
/-- SEQ of the last heartbeat. -/
def fHbSeq (p : Nat) : Fld := ⟨aHbPort p, 8, 8⟩
/-- STATE of the last heartbeat. -/
def fHbState (p : Nat) : Fld := ⟨aHbPort p, 16, 2⟩
/-- EN of `SAF_HB_CTL`. -/
def fHbEn : Fld := ⟨0x24002000, 0, 1⟩

/-- The heartbeat's STATE changes: 0 JOINING, 1 MEMBER, 2 POLE, 3 LOST (Table 20-1). -/
def State.hbMode (s : State) (st : Nat) : State := (s.onLoss (fun l => { l with hbState := st })).set ⟨aHbTx 0, 8, 2⟩ st

/-- At 500 us of each millisecond a heartbeat leaves an ACTIVE port, if its payload was refreshed within 2 ms (R579). Test 7
of Table 21-5 withholds it for 5 ms. -/
def execHeartbeatSend (p : Fin 6) (s : State) : Out := s.run (fun s =>
  let fresh := match s.loss.hbAt with | some t => decide (s.now ≤ t + 2 * ms) | none => false
  let withheld := match s.saf.test with | some (7, t) => decide (s.now < t + 5 * ms) | _ => false
  .next (
    if s.get fHbEn = 1 && s.active p && fresh && !withheld && s.atInstant 500000 && (s.port p).hbMs ≠ some s.ctMs && s.hopClear p then
      (s.onPort p (fun q => { q with hbMs := some s.ctMs })).hopSend p
        ((List.range 4).flatMap (fun i => leBytes 4 (s.reg (aHbTx i)).toNat))
    else s))

/-- The safety pair writes the last payload word: the payload is fresh (R579). -/
def State.hbRefresh (s : State) (v : Word) : State := (s.setReg (aHbTx 3) v).onLoss (fun l => { l with hbAt := some s.now })

/-- `SAF_HB_TX_3` is written (R579). -/
def execSafHbTx3Write (v : Word) (s : State) : Out := s.runPair (fun s => .next (s.hbRefresh v))

/-- The pole serves IEEE 1588 on the port that section 6 of the record names (R521). -/
def State.applyPtp (s : State) : State :=
  let en := s.cfgField 3240 1 = 1
  let p := s.cfgField 3241 1 % 2
  let s := (s.ptpEnWrite (1 - p) false).ptpEnWrite p en
  { s with tim := { s.tim with ptp := { s.tim.ptp with enabled := en, port := p, domain := s.cfgField 3242 1 } } }

/-- A chip that is no longer to be pole serves IEEE 1588 on no port. -/
def State.stopPtp (s : State) : State :=
  if s.tim.ptp.enabled then
    let s := (s.ptpEnWrite 0 false).ptpEnWrite 1 false
    { s with tim := { s.tim with ptp := { s.tim.ptp with enabled := false } } }
  else s

/-- A chip whose firmware runs is pole of the constellation that forms while it is the pole-eligible chip with the lowest node ID
among those it has seen (R39); the pole is the time root (R126). -/
def State.poleCheck (s : State) : State :=
  if s.get ⟨0x26000400, 0, 3⟩ ≠ 7 || s.loss.formed || s.tim.formAt.isSome || s.loss.lone || s.get fMember = 1 then s
  else
    let mine := s.poleElig && (nodesOf (s.eligibleMask &&& (s.loss.reach ||| 2 ^ s.node))).head? == some s.node
    if mine = s.isPole then s
    else
      let s := (s.onLoss (fun l => { l with pole := if mine then some s.node else none })).setRoot mine
      if mine then s.applyPtp else s.stopPtp

/-- A node has been seen (R39). -/
def State.sawNode (s : State) (n : Nat) : State :=
  if bit s.loss.reach n || n = s.node then s
  else (s.onLoss (fun l => { l with reach := l.reach ||| 2 ^ (n % 64), reachAt := s.now })).poleCheck

/-- JOIN_SEEN, once per boot of the joiner (R601). -/
def State.joinSeen (s : State) (p node : Nat) (data : List Byte) : State :=
  let k := (node, fieldAt data 12 4)
  if s.loss.joinSeen.contains k then s
  else
    (s.onLoss (fun l => { l with joinSeen := k :: l.joinSeen.filter (fun x => x.1 ≠ node) })).toPole
      (beaconBytes 0x34 ([0#8] ++ leBytes 1 node ++ leBytes 1 p ++ leBytes 4 (fieldAt data 8 4)) (fieldAt data 12 4))

/-- A heartbeat arrives: MISS is 0; the first one of a member on a port that was DOWN is reported; a JOINING sender that is LOCKED is
reported by a member (R580, R581, R601). -/
def execHeartbeat (p : Fin 6) (data : List Byte) (s : State) : Out := s.run (fun s =>
  let (s, _) := s.tookHop p data
  let st := byteAt data 1
  let node := s.get (fPeerNode p)
  let first := s.active p && !(s.port p).hbIn && bit s.loss.members node
  let s := ((((s.set (fMiss p) 0).set (fSilent p) 0).set (fHbSeq p) (byteAt data 2)).set (fHbState p) (st % 4))
  let s := (List.range 4).foldl (fun s i => s.setReg (aHbPort p + 4 + 4 * i) (BitVec.ofNat 32 (fieldAt data (4 * i) 4))) s
  let elig := bit (byteAt data 1) 3
  let s := s.onLoss (fun l => { l with
    elig := if elig then l.elig ||| 2 ^ (node % 64) else without l.elig node, heard := l.heard ||| 2 ^ (node % 64) })
  let s := ((s.onPort p (fun q => { q with missMs := s.ctMs, hbIn := true })).sawNode node).poleCheck
  let s := if first then s.linkReport p 3 else s
  .next (if st % 4 = 0 && bit st 2 && bit s.loss.members s.node && s.loss.formed then s.joinSeen p node data else s))

/-- Three whole milliseconds of CT without a heartbeat on an ACTIVE port: SILENT, a safety event, the port closes and the pole hears
of it (R580). -/
def execSilent (p : Fin 6) (s : State) : Out := s.run (fun s =>
  .next (
    if s.get fHbEn = 1 && s.active p && s.get (fSilent p) = 0 && decide ((s.port p).missMs + 4 ≤ s.ctMs) then
      let s := (((s.set (fMiss p) 3).set (fSilent p) 1).event 0x24002014 (2 ^ p.val)).safety 0x10 p
      (s.onPort p (fun q => { q with silentAt := some s.now, hbIn := false })).linkEn p false
    else s))

/-- One second later the port may train again (R580). -/
def execSilentPortReenable (p : Fin 6) (s : State) : Out := s.run (fun s =>
  .next (match (s.port p).silentAt with
    | some t => if t + 1000 * ms ≤ s.now then (s.onPort p (fun q => { q with silentAt := none })).linkEn p true else s
    | none => s))

/-! ### Self-report (R582) -/

/-- The chip reports itself lost: 1 bank, 2 thread-group parity, 3 SRAM, 4 LOCKED, 5 crystal (R582, Table 20-2). -/
def State.selfLoss (s : State) (reason : Nat) : State :=
  match s.loss.selfLost with
  | some _ => s
  | none =>
    let s := s.toPole (beaconBytes 0x32 ([0#8] ++ leBytes 1 reason) s.ctNs)
    let s := (List.range 8).foldl (fun s c => s.haltCore c) s
    ((s.fsAllLow.owLow).onLoss (fun l => { l with selfLost := some (reason, s.now) })).hbMode 3

/-! ### Plans and losses -/

/-- The plan of a model that runs: its number, variant, placed cores, and the loss that it answers. -/
def Model.running (m : Model) : Nat × Nat × List Placed × Option Nat := m.prev.getD (m.plan, m.variant, m.placed, m.fallback)

/-- This chip's share of a plan; a pole that is no chip of the plan takes it from the package. -/
def State.planShare (s : State) (plan sel : Nat) : Config.Share :=
  match (if s.isPole then s.con.models.find? (fun m => m.running.1 = plan && decide (2 ≤ m.st)) else none) with
  | some m => { m with variant := m.running.2.1, placed := m.running.2.2.1 : Model }.share s.node (if sel = 0 then none else some (sel - 1))
  | none => s.share plan sel

/-- A fallback plan of a package can be used: it exists, was usable at admission, and its chips are live (R562). -/
def State.usable (s : State) (m : Model) (x : Nat) : Bool :=
  let v := m.running.2.1
  m.running.2.2.2.isNone && (fallbacks m.bytes v).contains x && !m.unusable.contains x && (fallbackNodes m.bytes v x).all (fun n => bit s.loss.members n)

/-- Some weights of the variant exist only on a node (Table 20-3). -/
def onlyOn (p : List Byte) (v x : Nat) : Bool :=
  let ws := (sections p).filter (fun y => y.var = v && y.kind = 4)
  ws.any (fun y => y.node = x && !ws.any (fun z => z.node ≠ x && z.lcore = y.lcore && z.rgn = y.rgn && z.dest = y.dest))

/-- A second loss for a plan of the safety tier: after its switch to a fallback, or beside another loss whose change is still to come,
where the plan includes either chip (R599, R606). -/
def State.secondLoss (s : State) (plan x : Nat) : Bool :=
  let e := s.plan plan
  e.safetyTier && (e.fallback.isSome || !e.pend.isEmpty ||
    s.loss.changes.any (fun c => !c.2.1 && c.1 ≠ x && (bit e.nodes x || bit e.nodes c.1)))

/-- What a chip of a plan does on the loss of `x`: 0 nothing, 1 switch to the fallback plan, 2 halt, 3 wait for a reload (Table
20-3). The pole knows the package; another chip has its staged share. -/
def State.lossAction (s : State) (plan x : Nat) : Nat :=
  let e := s.plan plan
  if e.nodes = 0 || e.end_.isSome then 0
  else if s.secondLoss plan x then 2
  else if !bit e.nodes x then 0
  else if e.fallback.isSome || e.pend.any (fun q => q.2.2) then 2
  else match (if s.isPole then s.con.models.find? (fun m => m.running.1 = plan && decide (2 ≤ m.st)) else none) with
    | some m => if !s.usable m x then 2 else if m.tier = 0 && onlyOn m.bytes m.running.2.1 x then 3 else 1
    | none => let h := s.share plan (1 + x); if !h.present then 2 else if s.bodiesOk h then 1 else 3

/-- The lowest epoch whose boundary lies `lead` ns ahead or more and comes after any pending switch; a join that is still to come holds
no loss back (R33, R591, R603). -/
def State.leadEpoch (s : State) (lead : Nat) : Nat :=
  let last := ((s.loss.changes.filter (fun c => !c.2.1)).map (fun c => c.2.2.2 + 1)).foldl max 0
  let last := s.plans.foldl (fun m p => (p.2.pend.map (fun q => q.1 + 1)).foldl max m) last
  (((List.range 8).map (fun i => s.tim.epoch + 1 + i)).find? (fun n => decide (last ≤ n) && decide (s.ctNs + lead ≤ s.boundary n))).getD (max last (s.tim.epoch + 8))

/-- The fallback plan for the loss of `x` is made ready for boundary(m) (R592): its envelope is powered, its regions are written and
locked, its step lists and windows stand, its cores are armed. -/
def State.prepare (s : State) (plan x m : Nat) : State :=
  let h := s.share plan (1 + x)
  let s := h.regions.foldl (fun (s : State) (r : Nat × Nat × Nat × Nat × Nat) =>
    let g := s.rgn r.1 r.2.1
    if g.en then s.powerNow r.1 ((List.range g.pairs).map (fun i => g.pair0 + i))
    else (s.stageRegion r).rgnWrite s.firmware r.1 r.2.1 2 (BitVec.ofNat 32 r.2.2.2.2 ||| 0x80000000#32)) s.wake
  ((s.stageLists h).stageWindows h |>.giveCores h).armLists h m

/-- A chip notes what a plan does at boundary(m), and makes it ready. -/
def State.lossPrepare (s : State) (plan act x m : Nat) : State :=
  match act with
  | 1 =>
    let s := s.onPlan plan (fun e => { e with pend := e.pend ++ [(m, x, true)] })
    if (s.planShare plan (1 + x)).lists.isEmpty then s else s.prepare plan x m
  | 2 => s.onPlan plan (fun e => { e with pend := e.pend ++ [(m, x, false)] })
  | _ => s

/-- Services of a plan that has lost a second chip are UNAVAILABLE with cause 0x06 (R599). -/
def State.secondServices (s : State) (x : Nat) : State :=
  s.plans.foldl (fun s p => if s.secondLoss p.1 x then s.condAll (fun v => v.started && v.plan = p.1 && svcKind v.id = 1) 6 true else s) s

/-- The pole's record of a model follows what a loss asks of its plan (Table 20-3, R593, R594). -/
def State.modelLoss (s : State) (m : Model) (act : Nat) : State :=
  match act with
  | 2 => s.modelState m 1
  | 3 =>
    let s := (s.setModel { m with reloading := true }).onPlan m.running.1 (fun e => { e with abandonTo := 18446744073709551615 })
    (s.condAll (fun v => v.started && v.plan = m.running.1) 18 true).modelState m 1
  | _ => s

/-- A commit in progress when a chip of its plans is lost (R569). -/
def State.commitLoss (s : State) (m : Model) (x : Nat) : State :=
  if m.phase = 0 || !bit m.nodes x then s
  else if m.phase < 3 || decide (s.ctNs + 5000000 < s.boundary m.goAt) then s.abortCommit m 0x0313 []
  else s

/-- The chips of a part that has lost the constellation stop at the next boundary and wait for a reset (R38, R600). -/
def State.standDown (s : State) : State :=
  s.onLoss (fun l => { l with stopAt := some (s.tim.epoch + 1), pole := none, formed := false, kmpHeld := true, claimAt := none })

/-- A membership beacon (Table 20-2). -/
def membershipBeacon (node : Nat) (joined : Bool) (version m : Nat) : List Byte :=
  beaconBytes 0x33 ([0#8] ++ leBytes 1 node ++ leBytes 1 (b2n joined) ++ leBytes 4 version) m

/-- A chip that is not ready for a fallback plan 1 ms before its boundary reports itself lost, with a reason that the spec does not give
(Table 20-6, log entry 22). -/
def State.unprepared (s : State) : State :=
  let (s, why) := s.freeNat
  s.selfLoss (why % 256)

/-- A change of the membership reaches a chip: the record changes, and plans that a loss concerns are made ready for boundary(m) (R592);
a join waits for its epoch (R603), and a newer change of the same joiner takes its place (R33, R606). A chip that finds itself lost stops
at that boundary (R578). -/
def State.membership (s : State) (x : Nat) (joined : Bool) (version m : Nat) : State :=
  let old := s
  let s := s.onLoss (fun l => { l with
    version := version, changes := l.changes.filter (fun c => !(c.1 = x && c.2.1)) ++ [(x, joined, version, m)],
    members := if joined || x = s.node then l.members else without l.members x,
    banks := if joined then l.banks ||| 2 ^ (x % 64) else l.banks })
  if joined then s
  else if x = s.node then s.onLoss (fun l => { l with stopAt := some m, formed := false })
  else
    let s := if s.isPole then s else (old.plans.map (fun p => p.1)).foldl (fun s p =>
      if old.secondLoss p x then s.condAll (fun v => v.started && v.plan = p && svcKind v.id = 1) 6 true else s) s
    let acts := old.plans.map (fun p => (p.1, old.lossAction p.1 x))
    let late := decide (s.boundary m < s.ctNs + 1000000) && acts.any (fun p => p.2 = 1 && !(old.planShare p.1 (1 + x)).lists.isEmpty)
    let s := acts.foldl (fun s p => s.lossPrepare p.1 p.2 x m) s
    if late then s.unprepared else s

/-- The pole announces a join for boundary(j): to the members, and with their time base to the joiner (R603). -/
def State.announceJoin (s : State) (node j : Nat) : State :=
  let t := s.topo (s.loss.members ||| 2 ^ node)
  let at_ := s.boundary j
  let s := s.emit (.order node 0x33 ((s.tableOf t node).flatMap (leBytes 4) ++ leBytes 8 at_ ++ leBytes 8 j ++ leBytes 8 s.tim.baseCt ++
    leBytes 8 s.tim.baseN ++ leBytes 1 (b2n s.tim.rate25) ++ leBytes 4 s.loss.version))
  (s.broadcast (membershipBeacon node true s.loss.version j)).membership node true s.loss.version j

/-- A loss that is declared first pushes a join that is still to come past its own switch at `m` (R33). -/
def State.pushJoins (s : State) (m : Nat) : State :=
  (s.loss.changes.filter (fun c => c.2.1 && decide (c.2.2.2 ≤ m))).foldl (fun s c => s.announceJoin c.1 (m + 1)) s

/-- The pole declares a member lost (R591). One that was still to join is declared lost for the same epoch (R606). -/
def State.declareLoss (s : State) (x : Nat) : State :=
  if !s.isPole || x = s.node then s
  else if !bit s.loss.members x then
    match s.loss.changes.find? (fun c => c.2.1 && c.1 = x) with
    | some c =>
      let s := s.onLoss (fun l => { l with version := l.version + 1 })
      (s.broadcast (membershipBeacon x false s.loss.version c.2.2.2)).membership x false s.loss.version c.2.2.2
    | none => s
  else
    let s := s.onLoss (fun l => { l with
      version := l.version + 1, losses := (x, s.ctNs) :: l.losses,
      pardoned := l.pardoned.filter (fun n => n ≠ x), partial_ := l.partial_.filter (fun n => n ≠ x) })
    let live := without s.loss.members x
    let s := s.deliverEvent 0x8201 s.node (leBytes 1 x ++ leBytes 1 0 ++ leBytes 8 live) none
    if !s.keeps live then (s.onLoss (fun l => { l with members := live })).standDown
    else
      let ps := (s.plans.filter (fun p => bit p.2.nodes x)).map (fun p => p.1)
      let s := ps.foldl (fun s p => s.abandonThrough p s.tim.epoch) s
      let s := s.secondServices x
      let m := s.leadEpoch 5000000
      let s := s.broadcast (membershipBeacon x false s.loss.version m)
      let s := ps.foldl (fun s p => s.onPlan p (fun e => { e with abandonTo := max e.abandonTo m })) s
      let acts := s.con.models.map (fun y => (y.pkg, s.lossAction y.running.1 x))
      let s := s.membership x false s.loss.version m
      let s := s.con.models.foldl (fun s y => match s.model y.pkg with
        | some y => s.commitLoss y x
        | none => s) s
      let s := acts.foldl (fun s y => match s.model y.1 with
        | some z => if 2 ≤ z.st then s.modelLoss z y.2 else s
        | none => s) s
      (s.pushJoins m).reroute s.loss.members s.soon

/-! ### Reports at the pole (R584, R597) -/

/-- Links of a node: its port, the partner and the partner's port. -/
def State.linksOf (s : State) (x : Nat) : List (Nat × Nat × Nat) :=
  let t := s.topo s.loss.members
  (List.range 4).filterMap (fun p => (t.partner x p).map (fun m => (p, m, opposite p))) ++
    s.spurs.filterMap (fun l => if l.1 = x then some (l.2.1, l.2.2.1, l.2.2.2) else if l.2.2.1 = x then some (l.2.2.2, l.1, l.2.1) else none)

/-- Every link between a node and another member has been reported, or its other end is itself lost (R584). -/
def State.allReported (s : State) (x : Nat) : Bool :=
  let down (n p : Nat) : Bool := s.loss.reports.any (fun r => r.node = n && r.port = p)
  let ls := s.linksOf x
  !ls.isEmpty && ls.all (fun l => !bit s.loss.members l.2.1 || down x l.1 || down l.2.1 l.2.2)

/-- The partner at the far end of a link, from the topology. -/
def State.partnerOf (s : State) (n p : Nat) : Option Nat := ((s.linksOf n).find? (fun l => l.1 = p)).map (fun l => l.2.1)

/-- LINK_REPORT at the pole: the link goes out of use or comes back, epochs of plans that used it are abandoned, tables are built
anew, and an end all of whose links are reported is lost (R111, R584, R597). -/
def execLinkReport (b : Packet) (s : State) : Out := s.run (fun s =>
  let s := s.took b
  let p := byteAt b.data 2
  let cause := byteAt b.data 3
  .next (
    if !s.isPole then s
    else
      let own := b.src = s.node && decide (p < 6)
      let (s, dc) := if own then (s, s.get (fLnkCause p)) else if cause = 3 then (s, 0) else s.freeNat
      let s := s.deliverEvent 0x8202 s.node (leBytes 1 b.src ++ leBytes 1 p ++ leBytes 1 (if cause = 3 then 4 else 0) ++ leBytes 1 (dc % 256)) none
      if cause = 3 then
        (s.onLoss (fun l => { l with reports := l.reports.filter (fun r => !(r.node = b.src && r.port = p)) })).reroute s.loss.members s.soon
      else if s.loss.reports.any (fun r => r.node = b.src && r.port = p) then s
      else
        let t := s.topo s.loss.members
        let used := (s.plans.filter (fun e => s.planUses t e.2.nodes b.src p)).map (fun e => e.1)
        let far := s.partnerOf b.src p
        let s := s.onLoss (fun l => { l with
          reports := l.reports ++ [{ node := b.src, port := p, partner := byteAt b.data 4, at_ := s.now }] })
        let s := used.foldl (fun s e => s.abandonThrough e s.tim.epoch) s
        let lost := ([b.src] ++ far.toList).filter (fun n => n ≠ s.node && s.allReported n)
        let s := if lost.isEmpty then s.reroute s.loss.members s.soon else s
        lost.foldl (fun s n => s.declareLoss n) s))

/-- The pole hears of a stall at an output of a chip: the epoch in progress is abandoned for every plan whose routes use that link, and at
local delivery for every plan of the chip (R112, R115). -/
def State.stallSeen (s : State) (n out : Nat) : State :=
  let t := s.topo s.loss.members
  (s.plans.filter (fun e => if out < 6 then s.planUses t e.2.nodes n out else bit e.2.nodes n)).foldl (fun s e =>
    s.abandonThrough e.1 s.tim.epoch) s

/-- 10 ms after the first report, reports on fewer than all of a node's links are link failures only (R584). -/
def execPartialReportTimeout (node : Fin 64) (s : State) : Out := s.run (fun s =>
  let n : Nat := node.val
  let mine := s.loss.reports.filter (fun r => r.node = n || s.partnerOf r.node r.port = some n)
  .next (
    if s.isPole && mine.any (fun r => decide (r.at_ + 10 * ms ≤ s.now)) && !s.allReported n && !s.loss.partial_.contains n then
      s.onLoss (fun l => { l with partial_ := l.partial_ ++ [n] })
    else s))

/-- SELF_LOST at the pole (R584). -/
def execSelfLost (b : Packet) (s : State) : Out := s.run (fun s => .next ((s.took b).declareLoss b.src))

/-- EPOCH_FAIL at the pole (R596). -/
def execEpochFail (b : Packet) (s : State) : Out := s.run (fun s =>
  let s := s.took b
  .next (if s.isPole then s.poleFail (fieldAt b.data 2 2) (fieldAt b.data 8 8) else s))

/-! ### The pole beat and election (R585 to R590) -/

/-- The pole broadcasts POLE_BEAT once per millisecond (R585). -/
def execPoleBeatSend (s : State) : Out := s.run (fun s =>
  .next (
    if s.isPole && s.loss.formed && s.loss.beatSent ≠ some s.ctMs then
      (s.onLoss (fun l => { l with beatSent := some s.ctMs })).broadcast
        (beaconBytes 0x35 ([0#8, 0#8, 0#8] ++ leBytes 4 s.loss.version) s.tim.epoch)
    else s))

/-- POLE_BEAT: its sender is the pole, and KMP commands run again (R585, R588). Sessions close when the pole changes (R504). -/
def execPoleBeat (b : Packet) (s : State) : Out := s.run (fun s =>
  let s := s.took b
  let s := if s.loss.pole = some b.src then s else { s with kmp := { s.kmp with sessions := [] } }
  .next (s.onLoss (fun l => { l with
    pole := some b.src, beatAt := s.now, kmpHeld := false, detected := none, follows := none, claimAt := none })))

/-- 3.5 ms without POLE_BEAT: the standby tables come into use at once and KMP commands stop (R585, R586). While the inactive bank is
armed for a re-route there are no standby tables. -/
def execPoleLossDetect (s : State) : Out := s.run (fun s =>
  .next (
    if s.loss.formed && !s.isPole && s.loss.pole.isSome && s.loss.detected.isNone && decide (s.loss.beatAt + 7 * ms / 2 ≤ s.now) then
      let s := s.onLoss (fun l => { l with detected := some s.now, kmpHeld := true, follows := none, claimAt := none, acks := 0 })
      if s.get fArm = 1 then s else s.armRoutes s.node 0
    else s))

/-- A strap combination that R474 allows to a chip that may become pole. -/
def State.strapsFit (s : State) : Bool := s.bootSrc = 0 || s.bootSrc = 3

/-- Candidates: pole-eligible members of the last committed membership but the old pole, ascending (R587). -/
def State.candidates (s : State) : List Nat :=
  (nodesOf (s.loss.committed &&& s.eligibleMask)).filter (fun n => some n ≠ s.loss.pole && (n ≠ s.node || s.strapsFit))

/-- The candidate of rank r claims 1 ms + 3 ms * r after its detection, unless it follows a lower claimant (R587). -/
def execPoleClaimSend (s : State) : Out := s.run (fun s =>
  .next (match s.loss.detected, s.candidates.findIdx? (fun n => n = s.node) with
    | some t, some r =>
      let lower := match s.loss.follows with | some f => decide (f < s.node) | none => false
      if s.poleElig && s.loss.claimAt.isNone && s.loss.follows ≠ some s.node && !lower && decide (t + ms + 3 * ms * r ≤ s.now) then
        (s.onLoss (fun l => { l with claimAt := some s.now, acks := 2 ^ s.node, follows := some s.node })).broadcast
          (beaconBytes 0x36 ([0#8] ++ leBytes 1 s.node ++ leBytes 1 0 ++ leBytes 4 s.loss.version) 0)
      else s
    | _, _ => s))

/-- A member takes a claim: it acknowledges the lowest claimant heard since its detection, once to each that becomes lower (R588). -/
def execPoleClaim (b : Packet) (s : State) : Out := s.run (fun s =>
  let s := s.took b
  let lower := match s.loss.follows with | some f => decide (b.src < f) | none => true
  .next (
    if s.loss.detected.isSome && b.src ≠ s.node && bit s.loss.members s.node && lower then
      (s.onLoss (fun l => { l with follows := some b.src })).beacon (some b.src) (beaconBytes 0x37 ([0#8] ++ leBytes 1 s.node) 0)
    else s))

/-- A claimant takes an acknowledgement within its 1 ms (R589). -/
def execClaimAck (b : Packet) (s : State) : Out := s.run (fun s =>
  let s := s.took b
  .next (match s.loss.claimAt with
    | some t => if s.now ≤ t + ms then s.onLoss (fun l => { l with acks := l.acks ||| 2 ^ (byteAt b.data 2 % 64) }) else s
    | none => s))

/-- A new pole decides the epochs of a plan: those that some member shows committed, then every later one up to the current as
abandoned (R590). How far the others have committed is what its READs bring: a free value. -/
def State.takePlan (s : State) (plan : Nat) : State :=
  let e := s.plan plan
  let first := match e.applied with | some n => n + 1 | none => e.first
  let (s, k) := s.freeNat
  let s := s.onPlan plan (fun e => { e with decided := if first = 0 then none else some (first - 1), ready := [], failed := [] })
  let n := k % (s.tim.epoch + 1 - first + 1)
  let s := (List.range n).foldl (fun s _ => let e := s.plan plan; if e.covers e.undecided then s.decideEpoch plan false else s) s
  s.abandonThrough plan s.tim.epoch

/-- A new pole decides a pending commit from its own state and, as a free value, that of the other chips (R36, R570). -/
def State.takeCommit (s : State) (plan : Nat) (old : Option Nat) : State :=
  let c := s.commitOf plan
  let part := match old with | some x => bit (s.share plan 0).nodes x | none => false
  let (s, k) := s.freeNat
  let s_ := if c.st = 3 then c.s_ else s.tim.epoch + 1 + k / 2 % 3
  let late := decide (s.boundary s_ ≤ s.ctNs + 5000000)
  let go := (c.st = 3 || (c.st = 2 && k % 2 = 1)) && (!part || late)
  if go then s.broadcast (commitBeacon 0x23 plan s_)
  else s.broadcast (commitBeacon 0x24 plan 0)

/-- Plans of which this chip holds a share that does not run: a commit of them is pending here, be it that nothing is verified yet. -/
def State.pendingPlans (s : State) : List Nat :=
  ((s.con.commits.filter (fun c => c.2.st ≠ 0)).map (fun c => c.1) ++
    ((s.con.shares.filter (fun x => x.1 % 128 = 0)).map (fun x => x.1 / 128)).filter (fun p => (s.plan p).nodes = 0)).eraseDups

/-- A commit that only other chips hold, at most one per tenant: its plan and what their states say are free values (R36, R570). -/
def State.takeForeign (s : State) : State :=
  let (s, n) := s.freeNat
  (List.range (n % 5)).foldl (fun s _ =>
    let (s, k) := s.freeNat
    let plan := 1 + k / 8 % 65535
    if s.pendingPlans.contains plan || (s.plan plan).nodes ≠ 0 then s
    else if k % 2 = 1 then s.broadcast (commitBeacon 0x23 plan (s.tim.epoch + 1 + k / 2 % 3))
    else s.broadcast (commitBeacon 0x24 plan 0)) s

/-- The claimant has become pole (R589, R590). Epochs are decided before the loss of the old pole abandons the rest. -/
def State.takeOver (s : State) : State :=
  let old := s.loss.pole
  let s := (s.setRoot true).onLoss (fun l => { l with
    pole := some s.node, kmpHeld := false, detected := none, follows := none, claimAt := none, acks := 0, beatSent := none })
  let s := ({ s with kmp := { s.kmp with sessions := [] } } : State).hbMode 2
  let s := (s.plans.map (fun p => p.1)).foldl (fun s p => s.takePlan p) s
  let s := match old with | some x => s.declareLoss x | none => s
  let s := s.pendingPlans.foldl (fun s p => s.takeCommit p old) s
  s.takeForeign.applyPtp

/-- 1 ms after its claim: the claimant becomes pole, or broadcasts nothing further (R589). -/
def execClaimWindowEnd (s : State) : Out := s.run (fun s =>
  .next (match s.loss.claimAt with
    | some t =>
      if s.now < t + ms then s
      else if s.loss.follows = some s.node && s.keeps s.loss.acks then s.takeOver
      else s.onLoss (fun l => { l with claimAt := none })
    | none => s))

/-- 30 ms after detection without a pole every chip of the part acts under R38 (R589, R600). -/
def execNoPoleTimeout (s : State) : Out := s.run (fun s =>
  .next (match s.loss.detected with
    | some t => if t + 30 * ms ≤ s.now then (s.standDown).onLoss (fun l => { l with detected := none, follows := none }) else s
    | none => s))

/-! ### At the chips (R592, R603) -/

/-- MEMBERSHIP reaches a chip (R592, R603); the pole has acted on its own before it broadcast it (R591). -/
def execMembership (b : Packet) (s : State) : Out := s.run (fun s =>
  let s := s.took b
  .next (
    if s.isPole && b.src = s.node then s
    else s.membership (byteAt b.data 2) (byteAt b.data 3 = 1) (fieldAt b.data 4 4) (fieldAt b.data 8 8)))

/-- A plan switches to its fallback at boundary(n) (R592): barrier, cores and services follow; the shadow becomes composer (R533). -/
def State.toFallback (s : State) (plan x n : Nat) : State :=
  let before := s
  let o := s.planShare plan (s.shareSel plan)
  let h := s.planShare plan (1 + x)
  let s := (o.cores.filter (fun c => bit (s.plan plan).cores c && !h.cores.contains c)).foldl (fun s c => s.haltCore c) s
  let s := s.onPlan plan (fun e => { e with
    fallback := some x, nodes := h.nodes, cores := h.cores.foldl (fun m c => m ||| 2 ^ c) 0, flags := h.flags, words := h.words,
    ready := [], pend := e.pend.filter (fun q => q.1 ≠ n) })
  let s := s.con.services.foldl (fun s v => match s.service v.id with
    | some v =>
      if v.plan = plan && v.started then
        s.refreshService (before.replan v { v with composer := if v.composer = x then v.shadowNode.getD 0xFF else v.composer, shadowNode := none } n)
      else s
    | none => s) s
  if s.isPole then
    let s := s.deliverEvent 0x8205 s.node (leBytes 2 plan ++ leBytes 1 x ++ leBytes 8 n) none
    s.con.models.foldl (fun s m =>
      if m.running.1 = plan && decide (2 ≤ m.st) then
        (match m.prev with
          | some q => s.setModel { m with prev := some (q.1, q.2.1, q.2.2.1, some x) }
          | none => s.setModel { m with st := 3, fallback := some x, reloading := false })
      else s) s
  else s

/-- The cores of a plan halt at boundary(n) for want of a fallback plan, or after a second loss (Table 20-3). -/
def State.haltPlan (s : State) (plan n : Nat) : State :=
  let e := s.plan plan
  let s := ((List.range 8).filter (fun c => bit e.cores c)).foldl (fun s c => s.haltCore c) s
  let s := s.onPlan plan (fun e => { e with end_ := some n, pend := e.pend.filter (fun q => q.1 ≠ n) })
  let s := s.condAll (fun v => v.started && v.plan = plan) (if e.safetyTier then 6 else 9) true
  if s.isPole then s.con.models.foldl (fun s m => if m.plan = plan && decide (2 ≤ m.st) && m.prev.isNone then s.setModel { m with st := 4 } else s) s
  else s

/-- The pole writes the obscuration settings of a joined chip's cameras again (R523). -/
def State.obscureAgain (s : State) (node : Nat) : State :=
  (s.con.obscure.filter (fun e => e.1 / 4 = node)).foldl (fun s e => s.emit (.order node 0x0405 e.2)) s

/-- What boundary(n) does to membership: changes take effect, plans switch or halt, a part that has stood down stops (R38, R577,
R592, R603). A chip that has stopped is no member until it has been reset and has joined again (R601); its heartbeats say LOST
(DEDUCED, log entry 32). -/
def State.lossBoundary (s : State) (n : Nat) : State :=
  let due := s.loss.changes.filter (fun c => decide (c.2.2.2 ≤ n))
  let s := due.foldl (fun s c => s.onLoss (fun l =>
    if c.2.1 then { l with members := l.members ||| 2 ^ (c.1 % 64), committed := l.committed ||| 2 ^ (c.1 % 64) }
    else { l with committed := without l.committed c.1 })) s
  let s := if due.any (fun c => c.2.1 && c.1 = s.node) then
      (List.range 4).foldl (fun s k => s.fsRest k) (((s.set fMember 1).onLoss (fun l => { l with formed := true })).hbMode 1)
    else s
  let s := if s.isPole then (due.filter (fun c => c.2.1)).foldl (fun s c => s.obscureAgain c.1) s else s
  let s := s.onLoss (fun l => { l with changes := l.changes.filter (fun c => decide (n < c.2.2.2)) })
  let s := (s.plans.flatMap (fun p => p.2.pend.map (fun q => (p.1, q)))).foldl (fun (s : State) (y : Nat × (Nat × Nat × Bool)) =>
    if y.2.1 = n then (if y.2.2.2 then s.toFallback y.1 y.2.2.1 n else s.haltPlan y.1 n) else s) s
  if s.loss.stopAt = some n then
    let s := s.con.services.foldl (fun s v => if v.started && svcKind v.id = 3 then s.videoSet v false else s) (s.condAll (fun v => v.started) 7 true)
    let s := (List.range 8).foldl (fun s c => s.haltCore c) s
    (s.owLow.fsAllLow.onLoss (fun l => { l with stopAt := none, members := without l.members s.node })).hbMode 3
  else s

/-- The last chip of a plan has its reloaded sections: the pole orders the switch at m' (R593). -/
def execSectionReloadDone (plan : Nat) (s : State) : Out := s.run (fun s =>
  .next (match (if s.isPole then s.con.models.find? (fun m => m.running.1 = plan && m.reloading) else none) with
    | none => s
    | some md =>
      match s.loss.losses.find? (fun l => bit (s.plan plan).nodes l.1) with
      | none => s
      | some (x, _) =>
        let m := s.leadEpoch 5000000
        let nodes := nodesOf (((s.plan plan).nodes ||| (s.planShare plan (1 + x)).nodes) &&& s.loss.members)
        let s := (nodes.filter (fun n => n ≠ s.node)).foldl (fun s n => s.emit (.order n 0x33 (leBytes 2 plan ++ leBytes 1 x ++ leBytes 8 m))) s
        let s := s.onPlan plan (fun e => { e with abandonTo := m, pend := e.pend ++ [(m, x, true)] })
        let s := if (s.planShare plan (1 + x)).lists.isEmpty then s else s.prepare plan x m
        (s.setModel { md with reloading := false }).modelState md 2))

/-! ### Rejoining (R601 to R604) -/

/-- A quote verifies under a joiner's certificate chain, or in MANUFACTURE under the key it presents, and fits the pole (R645). -/
def State.attested (s : State) (quote nonce : List Byte) : Bool :=
  let body := quote.take 512
  let cert := quote.drop 608
  let life := byteAt quote 6
  let key := if s.lifecycle = 0 then some cert else Config.chainKey cert
  decide (608 ≤ quote.length) && fieldAt quote 0 4 = 0x5451424B && byteAt quote 4 = 1 &&
    (match key with | some k => Config.ecdsaOk k (sha384 body) (slice quote 512 96) | none => false) &&
    decide (slice quote 32 32 = nonce) && byteAt quote 7 = 0 &&
    (if s.lifecycle = 2 then life = 2 else if s.lifecycle = 1 then life = 1 || life = 2 else s.lifecycle = 0 && life = 0) &&
    (List.range 3).all (fun m => slice quote (64 + 48 * m) 48 = s.meas m)

/-- Losses of a node declared within the last hour. -/
def State.recentLosses (s : State) (n : Nat) : Nat :=
  (s.loss.losses.filter (fun l => l.1 = n && decide (s.ctNs < l.2 + 3600000000000))).length

/-- The first reason to refuse a join: 1 not in the record, 2 firmware version, 3 attestation, 4 loss limit; 0 none (R602, Table
17-23). -/
def State.joinRefusal (s : State) (node fw : Nat) (quote nonce : List Byte) : Nat :=
  if !bit (s.cfgField 20 8) node || bit s.loss.members node then 1
  else if fw ≠ s.sec.running then 2
  else if !s.attested quote nonce || s.lifecycle = 3 then 3
  else if decide (3 ≤ s.recentLosses node) && !s.loss.pardoned.contains node then 4
  else 0

/-- JOIN_SEEN at the pole, with the quote that the joiner answers to the pole's nonce (R602, R603, R645). A join that has been accepted
is not decided again. -/
def execJoinSeen (b : Packet) (quote : List Byte) (s : State) : Out := s.run (fun s =>
  let s := s.took b
  .next (
    if !s.isPole || s.loss.changes.any (fun c => c.2.1 && c.1 = byteAt b.data 2 % 64) then s
    else
      let node := byteAt b.data 2 % 64
      let (s, nonce) := s.random 32
      match s.joinRefusal node (fieldAt b.data 4 4) quote nonce with
      | 0 =>
        let j := s.leadEpoch 10000000
        let t := s.topo (s.loss.members ||| 2 ^ node)
        let s := s.onLoss (fun l => { l with version := l.version + 1, refused := l.refused.filter (fun r => r.1 ≠ node), standby := false })
        let s := (nodesOf s.loss.members).foldl (fun s n => (s.bankOf t n).armRoutes n (s.boundary j)) s
        let s := s.announceJoin node j
        s.deliverEvent 0x8201 s.node (leBytes 1 node ++ leBytes 1 1 ++ leBytes 8 (s.loss.members ||| 2 ^ node)) none
      | why => s.onLoss (fun l => { l with refused := (node, why) :: l.refused.filter (fun r => r.1 ≠ node) })))

/-- The pole admits a halted model again, or one that runs on a fallback plan, from its package: one commit per tenant (R594, R604). If
no variant fits it stays as it is and MODEL_STATE reports it degraded. A model of the safety tier that runs on a fallback waits for the lost
chip to rejoin (R29). -/
def execAutoReadmit (model : Nat) (s : State) : Out := s.run (fun s =>
  .next (match (if s.isPole then s.model model else none) with
    | none => s
    | some m =>
      let rejoined : Bool := match m.fallback with | some x => bit s.loss.members x | none => true
      if (m.st ≠ 3 && m.st ≠ 4) || (m.st = 3 && m.tier = 1 && !rejoined) || m.phase ≠ 0 || m.reloading || m.unloadAt.isSome ||
          s.con.models.any (fun x => x.tenant = m.tenant && decide (x.phase ≠ 0)) then s
      else
        let halted := m.st = 4
        let s := if halted then s.unloadHere m.plan s.tim.epoch else s
        let m := if halted then { m with placed := [] } else m
        let s := s.setModel m
        match s.admitCheck m.bytes m.tenant 0 with
        | (s, 0, _, some (v, f)) =>
          let plan := s.con.nextPlan
          let s := { s with con := { s.con with nextPlan := plan % 65535 + 1 } }
          let m := { m with variant := v, placed := f.placed, plan := plan, unusable := f.unusable, phase := 1, prepared := 0, ordered := 0, op := 0,
                            retried := false, fallback := none, prev := some (m.plan, m.variant, m.placed, m.fallback) }
          let s := s.setModel m
          (nodesOf m.nodes).foldl (fun s n => s.distribute m n) s
        | (s, _, _, _) => s.modelState m 1))

/-- 100 ms after reset release no port is ACTIVE: the chip is a lone chip, and pole if it may be (R3, R60). -/
def execLoneChipFinding (s : State) : Out := s.run (fun s =>
  .next (
    if s.firmwareUp && !s.loss.lone && !s.loss.formed && s.activePorts.isEmpty && decide (s.pwr.resetAt + 100 * ms ≤ s.now) then
      let pole := s.poleElig && s.strapsFit
      let s := (s.onLoss (fun l => { l with lone := true, pole := if pole then some s.node else none })).setRoot pole
      if pole then s.applyPtp else s.stopPtp
    else s))

end Sys2Proof.Machine
end

