-- ==== Sys2Proof/Machine/SafetyOps.lean ====
section
/-! DEFINITION. SafetyOps: the dynamic outputs, the watchdog, the voltage and temperature monitors, the reaction classes and the safety
commands (21). -/

namespace Sys2Proof.Machine

/-- EN of `SAF_OW_CTL`. -/
def fOwEn : Fld := ⟨0x24000010, 0, 1⟩
/-- SERVICE of `SAF_OW_CTL`. -/
def fOwService : Fld := ⟨0x24000010, 16, 16⟩
/-- RUNNING of `SAF_OW_STAT`. -/
def fOwRunning : Fld := ⟨0x24000018, 0, 1⟩
/-- PERMIT of `SAF_OW_STAT`. -/
def fOwPermit : Fld := ⟨0x24000018, 1, 1⟩
/-- PADS of `SAF_OW_STAT`. -/
def fOwPads : Fld := ⟨0x24000018, 2, 2⟩
/-- LOCKED of `SAF_LOCK`. -/
def fSafLocked : Fld := ⟨0x240000A0, 0, 1⟩
/-- A monitor's bit of `SAF_MON_EN`. -/
def State.monOn (s : State) (k : Nat) : Bool := bit (s.reg 0x24000030).toNat k

/-! ### OW_VALID (R612 to R616) -/

/-- The levels of OW_VALID_A and OW_VALID_B: a square wave in antiphase while the generator runs, low otherwise (R612). -/
def State.owPins (s : State) : Bool × Bool :=
  let high : Bool := decide (s.ctNs % 1000000 < 500000)
  if s.saf.running then (high, !high) else (false, false)

/-- The permit is fresh: its last correct write lies at most 2 ms in the past (R614). -/
def State.permitFresh (s : State) : Bool := match s.saf.permitAt with | some t => decide (s.now ≤ t + 2 * ms) | none => false

/-- The generator may run (R613). -/
def State.owMayRun (s : State) : Bool :=
  s.get fOwEn = 1 && s.get fMember = 1 && s.isMember && s.get fLocked = 1 && s.permitFresh && !s.saf.stop && s.get fLatch = 0 && !s.clockBad

/-- A write of `SAF_OW_PERMIT` (R614). STOP wins over a write of 0x5A5A in its own cycle (R629). -/
def State.permitWrite (s : State) (key : Nat) : State :=
  if key = s.saf.permitNext then
    (s.onSaf (fun f => { f with permitAt := some s.now, permitNext := 0xFFFF - key,
                                stop := f.stop && (decide (key ≠ 0x5A5A) || f.stopAt = s.now) })).set fOwPermit 1
  else (((s.onSaf (fun f => { f with permitAt := none, permitNext := 0x5A5A })).set fOwPermit 0).safety 0x16 key).owLow

/-- `SAF_OW_PERMIT` is written (R614). -/
def execOwPermitWrite (key : BitVec 16) (s : State) : Out := s.runPair (fun s => .next (s.permitWrite key.toNat))

/-- A write of 1 to STOP drives both pins low at once (R614). -/
def State.owStop (s : State) : State := (s.onSaf (fun f => { f with stop := true, stopAt := s.now })).owLow

/-- STOP of `SAF_OW_CTL` is written (R614). -/
def execOwStop (s : State) : Out := s.runPair (fun s => .next s.owStop)

/-- 2 ms without a correct permit write: the generator stops (R614). -/
def execPermitLapse (s : State) : Out := s.run (fun s =>
  .next (if s.saf.permitAt.isSome && !s.permitFresh then ((s.onSaf (fun f => { f with permitAt := none })).set fOwPermit 0).owLow else s))

/-- The generator stops, and its pins go low, in the cycle after a condition of R613 has ended (R612). -/
def State.owTick (s : State) : State := if s.saf.running && !s.owMayRun then s.owLow else s

/-- At a whole millisecond of CT the generator starts, with OW_VALID_A rising (R613); it stops where a condition has ended. -/
def execOwGeneratorStart (s : State) : Out := s.run (fun s =>
  .next (
    if s.owMayRun && !s.saf.running && s.atInstant 0 then
      (((s.onSaf (fun f => { f with running := true, mismatch := false })).set fOwRunning 1).emit (.pin "OW_VALID_A" true)).emit (.pin "OW_VALID_B" false)
    else if s.saf.running && !s.owMayRun then s.owLow
    else s))

/-- A sample of both pads (R616): two mismatches in a row raise mechanism 0x15. -/
def execOwReadbackMismatch (a b : Bool) (s : State) : Out := s.run (fun s =>
  let s := s.set fOwPads (b2n a + 2 * b2n b)
  .next (
    if s.saf.running && s.monOn 8 then
      let bad := a ≠ s.owPins.1 || b = a
      let twice := bad && s.saf.mismatch
      let s := s.onSaf (fun f => { f with mismatch := bad && !f.mismatch })
      if twice then s.safety 0x15 (b2n a + 2 * b2n b) else s
    else s))

/-- This chip publishes or composes an instance (R615). -/
def State.publishes (s : State) (id : Nat) : Bool :=
  match s.service id with
  | some v => v.started && (v.composer = s.node || (pubsOf v.dest).any (fun p => p.1 = s.node))
  | none => false

/-- Every millisecond the safety pair writes the permit when the bound instance stands well, and STOP when its last message was
UNAVAILABLE (R615). -/
def execPermitCheck (s : State) : Out := s.runPair (fun s =>
  let id := s.get fOwService
  let (st, valid) := tblGet (fun _ => (3, none)) s.saf.svc id
  let recent := match valid with | some t => decide (s.ctNs ≤ t + 100000000) | none => false
  .next (
    if s.publishes id && decide (st ≤ 1) && recent then s.permitWrite s.saf.permitNext
    else if st = 2 && s.saf.permitAt.isSome && !s.saf.stop then s.owStop
    else s))

/-! ### Reaction classes (R617, R618) -/

/-- SELF_LOST reason of a class B event (R617, Table 20-2). -/
def lossReason (code detail : Nat) : Nat :=
  match code with
  | 0x0B => 1 | 0x0C => 2 | 0x03 => 3 | 0x07 => if detail % 2147483648 = 8 then 5 else 4 | 0x0D => 6 | 0x0E => 7 | 0x0A => 8 | 0x09 => 9 | 0x06 => 10 | _ => 11

/-- Apply the reaction of an event. What classes C and X ask for has been done where the event arose. -/
def State.react (s : State) (code detail : Nat) : State :=
  match eventClass code detail with
  | 0 => s.classA code
  | 1 => s.selfLoss (lossReason code detail)
  | 3 => s.refreshServices
  | _ => s

/-- The event of the highest class in table order, the first of equals. -/
def highest : List (Nat × Nat) → Option (Nat × Nat)
  | [] => none
  | e :: es => match highest es with
    | none => some e
    | some x => if eventClass x.1 x.2 < eventClass e.1 e.2 then some x else some e

/-- The safety pair takes every event that has arisen: each is logged and reported, and the highest class is applied (R617). -/
def State.takeEvents (s : State) : State :=
  let es := s.saf.events
  let s := s.onSaf (fun f => { f with events := [] })
  let s := es.foldl (fun s e => (s.logEvent e.1 e.2).kmpEvent 0x8701 (leBytes 1 s.node ++ leBytes 2 e.1) none) s
  match highest es with
  | some e => s.react e.1 e.2
  | none => s

/-- The outputs of the pair differ (R472). -/
def State.lockstepFail (s : State) : State := (s.setReg 0x24001008 1#32).pairFail 0x01 0

/-- The pair takes the events where it still runs. -/
def State.pairTakes (s : State) : State := if s.pairOn then s.takeEvents else s

/-- The safety core pair takes the events (R617). -/
def execSafetyEventTake (s : State) : Out := s.runPair (fun s => .next s.takeEvents)

/-! ### Watchdog and monitors (R619 to R621) -/

/-- The watchdog fires: code 0x04, class A by the always-on domain. -/
def State.wdtFire (s : State) : State := ((s.safety 0x04 0).onSaf (fun f => { f with wdtOn := false })).classA 0x04

/-- A write of `SAF_WDT_SVC` (R619, R629): keys alternate, 5 ms to 10 ms after the last accepted one, the first within 10 ms of ROM
stage 4. -/
def State.wdtService (s : State) (key : Nat) : State :=
  let inTime := match s.saf.wdtAt with
    | some t => decide (t + 5 * ms ≤ s.now) && decide (s.now ≤ t + 10 * ms)
    | none => decide (s.now ≤ s.saf.wdtFrom + 10 * ms)
  if !s.saf.wdtOn then s
  else if key = s.saf.wdtNext && inTime then s.onSaf (fun f => { f with wdtAt := some s.now, wdtNext := 0xFFFF - key })
  else s.wdtFire

/-- `SAF_WDT_SVC` is written (R619). -/
def execWdtService (key : BitVec 16) (s : State) : Out := s.runPair (fun s => .next (s.wdtService key.toNat))

/-- 10 ms without an accepted service (R619). -/
def execWatchdogTimeout (s : State) : Out := s.run (fun s =>
  .next (if s.saf.wdtOn && decide (s.saf.wdtAt.getD s.saf.wdtFrom + 10 * ms < s.now) then s.wdtFire else s))

/-- Limits of a rail in mV (Table 21-3). -/
def railLimits (r : Nat) : Nat × Nat :=
  if r = 0 then (700, 830) else if r ≤ 2 then (760, 850) else if r = 3 then (855, 945) else if r ≤ 5 then (1140, 1260) else (1710, 1890)

/-- The rail's second window in a row gives `mv`; outside the limits it raises the rail's code (R620). -/
def execVoltageFault (r : Fin 7) (mv : Nat) (s : State) : Out := s.run (fun s =>
  let a := 0x24000040 + 4 * r.val
  let s := s.set ⟨a, 0, 16⟩ mv
  let lim := railLimits r
  .next (
    if s.monOn r && (decide (mv < lim.1) || decide (lim.2 < mv)) then (s.set ⟨a, 31, 1⟩ 1).safety (if r.val ≤ 2 then 0x08 else 0x09) r
    else s))

/-- A sensor's second reading in a row, in 0.1 °C; outside -40 °C to +125 °C it raises code 0x0A (R621). -/
def execTemperatureFault (sn : Fin 8) (t : Int) (s : State) : Out := s.run (fun s =>
  let a := 0x24000060 + 4 * sn.val
  let s := s.set ⟨a, 0, 16⟩ (unsigned 16 t)
  .next (if s.monOn 7 && (decide (t < -400) || decide (1250 < t)) then (s.set ⟨a, 31, 1⟩ 1).safety 0x0A sn else s))

/-! ### Commands (R624 to R626, Table 21-4) -/

/-- Some obstacle-warning instance is started. -/
def State.warningOn (s : State) : Bool := s.con.services.any (fun v => svcKind v.id = 1 && v.started)

/-- The CRC-32C of the safety configuration: section 4 of the record. -/
def State.safetyCrc (s : State) : Nat := (crc32c (s.cfgBytes 2660 516)).toNat

/-- The binding of a node in the record: OW_EN and the service ID; off where none is named. -/
def State.owBinding (s : State) (node : Nat) : Bool × Nat :=
  match (List.range (min 64 (s.cfgField 2660 1))).find? (fun i => s.cfgField (2664 + 8 * i) 1 = node) with
  | some i => (bit (s.cfgField (2665 + 8 * i) 1) 0, s.cfgField (2666 + 8 * i) 2)
  | none => (false, 0)

/-- Firmware writes this chip's safety set from the record and locks it (R624). The record names only the binding. -/
def State.applySafety (s : State) : State :=
  let b := s.owBinding s.node
  let v := BitVec.ofNat 32 (b2n b.1 + 65536 * b.2)
  let s := s.putReg s.firmware (s.get fSafLocked = 1) 0x24000010 v
  if s.get fSafLocked = 1 then s else s.putReg s.firmware false 0x240000A0 1#32

/-- State of the OW_VALID pair (Table 21-4). -/
def State.owState (s : State) : Nat :=
  if s.get fLatch = 1 then 4 else if s.saf.running then 1 else if s.get fOwEn = 0 then 0
  else if !s.publishes (s.get fOwService) then 3 else 2

/-- SAFETY_STATUS. -/
def execSafetyStatus (r : Req) (s : State) : Out := s.run (fun s =>
  s.serve r (fun s =>
    let n := byteAt r.data 0
    if r.data.length ≠ 1 then s.respond r 0x0109 []
    else s.onNode r n (fun s =>
      if n = s.node then
        let lock := if s.recordLocked then 1 else if s.get fSafLocked = 1 then 2 else 0
        s.respond r 0 (leBytes 1 lock ++ leBytes 1 (s.get fLatch) ++ leBytes 1 s.owState ++ leBytes 1 0 ++ leBytes 2 (s.get fOwService) ++
          leBytes 2 0 ++ leBytes 4 (s.reg 0x24000000).toNat ++ leBytes 4 s.safetyCrc ++ leBytes 4 (s.reg 0x240000A4).toNat)
      else
        let (s, bs) := s.foreign 20
        (s.emit (.order n 0x0700 [])).respond r 0 bs)))

/-- SAFETY_CONFIG (R624, R625). -/
def execSafetyConfig (r : Req) (s : State) : Out := s.run (fun s =>
  s.serve r (fun s =>
    let n := byteAt r.data 0
    let nodes := (List.range n).map (fun i => byteAt r.data (4 + 8 * i))
    let shape := decide (1 ≤ n) && decide (n ≤ 64) && r.data.length = 4 + 8 * n && fieldAt r.data 1 3 = 0 &&
      (List.range n).all (fun i => byteAt r.data (5 + 8 * i) ≤ 1 && fieldAt r.data (8 + 8 * i) 4 = 0)
    let bad := nodes.any (fun x => decide (63 < x) || !bit (s.cfgField 20 8) x) || nodes.eraseDups.length ≠ n ||
      (List.range n).any (fun i => svcKind (fieldAt r.data (6 + 8 * i) 2) ≠ 1)
    if !shape then s.respond r 0x0109 []
    else if s.recordLocked then s.respond r 0x0701 []
    else if bad then s.respond r 0x0702 []
    else ((s.cfgPut 2660 (fit 516 (leBytes 4 n ++ r.data.drop 4))).recordChanged).respond r 0 []))

/-- SAFETY_LOCK (R624, R625). -/
def execSafetyLock (r : Req) (s : State) : Out := s.run (fun s =>
  s.serve r (fun s =>
    let b := byteAt r.data 0
    if decide (r.data.length ≠ 1) || decide (1 < b) then s.respond r 0x0109 []
    else if b = 1 then
      let crc := s.safetyCrc
      let s := if s.recordLocked then s
        else ((s.cfgPut 12 (leBytes 4 crc)).cfgPut 5 (leBytes 1 1)).recordChanged.applySafety
      let s := ((nodesOf s.loss.members).filter (fun n => n ≠ s.node)).foldl (fun s n => s.emit (.order n 0x0702 s.cfgImage)) s
      s.respond r 0 (leBytes 4 crc)
    else if r.path ≠ 0 then s.respond r 0x0105 []
    else if s.warningOn then s.respond r 0x010B []
    else
      let crc := s.safetyCrc
      (((s.cfgPut 12 (leBytes 4 0)).cfgPut 5 (leBytes 1 0)).recordChanged).respond r 0 (leBytes 4 crc)))

/-- An entry of the fault log as SAFETY_FAULT_LOG gives it. -/
def FaultEntry.bytes (e : FaultEntry) : List Byte := leBytes 8 e.ct ++ leBytes 2 e.code ++ leBytes 1 e.cls ++ leBytes 4 e.detail ++ leBytes 1 0

/-- SAFETY_FAULT_LOG: the entries from an index on, the oldest first. -/
def execSafetyFaultLog (r : Req) (s : State) : Out := s.run (fun s =>
  s.serve r (fun s =>
    let n := byteAt r.data 0
    let i := byteAt r.data 1
    if decide (r.data.length ≠ 2) || decide (63 < i) then s.respond r 0x0109 []
    else s.onNode r n (fun s =>
      if n = s.node then
        let es := s.saf.log.drop i
        s.respond r 0 (leBytes 1 es.length ++ leBytes 3 0 ++ es.flatMap FaultEntry.bytes)
      else
        let (s, bs) := s.foreign 4
        (s.emit (.order n 0x0703 (leBytes 1 i))).respond r 0 bs)))

/-- The fault of a test is injected (Table 21-5). -/
def State.inject (s : State) (t : Nat) : State :=
  let s := s.onSaf (fun f => { f with test := some (t, s.now) })
  match t with
  | 1 => s.lockstepFail
  | 2 => s.wdtFire
  | 3 => (s.event 0x23000080 1).safety 0x06 0
  | 4 =>
    match (List.range 64).find? (fun i => (s.rgn (i / 8) (i % 8)).en) with
    | some i => s.parityError (i / 8) (s.rgn (i / 8) (i % 8)).base 6 0 0
    | none => s
  | 5 => s.setRan 0 0 0 false
  | 6 => s.safety 0x0E 0
  | 8 => s.safety 0x15 0
  | _ => s

/-- SAFETY_TEST (R626): a class A test answers before its injection; the others when the reaction has been taken, with a measured time
that is a free value. Heartbeats stay away for 5 ms in test 7, whose outcome is the neighbours'. -/
def execSafetyTest (r : Req) (s : State) : Out := s.run (fun s =>
  s.serve r (fun s =>
    let n := byteAt r.data 0
    let t := byteAt r.data 1
    if decide (r.data.length ≠ 2) || t = 0 || decide (8 < t) then s.respond r 0x0109 []
    else if s.warningOn then s.respond r 0x010B []
    else s.onNode r n (fun s =>
      if n ≠ s.node then
        let (s, bs) := s.foreign 8
        (s.emit (.order n 0x0704 (leBytes 1 t))).respond r 0 bs
      else if t = 1 || t = 2 || t = 8 then ((s.respond r 0 (leBytes 8 0)).inject t).pairTakes
      else
        let (s, us_) := s.freeNat
        let hit := (s.inject t).saf.events.any (fun e => e.1 = testCode t)
        let s := if t = 7 then s.inject t else (s.inject t).takeEvents
        let s := if t = 7 then s else s.onSaf (fun f => { f with test := none })
        s.respond r 0 (leBytes 1 (b2n (!hit && t ≠ 7)) ++ leBytes 3 0 ++ leBytes 4 us_))))

end Sys2Proof.Machine
end

