-- ==== Sys2Proof/Machine/Coherence.lean ====
section
/-! DEFINITION. Coherence: the L2 directory of the service cores and the SECDED codes of the control complex's memories (16). -/

namespace Sys2Proof.Machine

/-! ### Words read as time passes (R469, R470, R619) -/

/-- While the pair runs it executes from the safety partition and meets a word there that does not match its code (R469, R470). -/
def State.pairTick (s : State) : State :=
  if s.mem.ecc.isEmpty || !s.pairOn then s else s.eccRead 0 0x70000 0x10000

/-- Each service core increments its alive counter every millisecond (R619). -/
def State.aliveTick (s : State) : State :=
  if s.firmwareUp && decide (s.now / ms ≠ (s.now - 24) / ms) then
    (List.range 3).foldl (fun (s : State) c =>
      let o := 0x37FE00 + 4 * c
      let s := (s.sramEcc o 4).sramEccWrite o 4
      { s with mem := { s.mem with sram := tblSets byteZero s.mem.sram o (leBytes 4 (leNat (tblGets byteZero s.mem.sram o 4) + 1)) } }) s
  else s

/-! ### The L2 directory (R462 to R465) -/

/-- The owner's data of a line goes to the L2. -/
def State.l2Recall (s : State) (l : Nat) : State :=
  match (s.l2Line l).owner with
  | some v => if (s.l2Line l).dirty then (s.eccRead (2 + v) (8 * l) 8).eccWrite 1 (8 * l) 8 else s
  | none => s

/-- A line leaves the L2: it is recalled from the L1 caches that hold it, and its data goes to control SRAM (R462). -/
def State.l2Evict (s : State) (l : Nat) : State :=
  let s := (((s.l2Recall l).eccRead 1 (8 * l) 8).eccWrite 1 (8 * l) 8).eccWrite 0 (8 * l) 8
  s.onCtl (fun c => { c with lines := tblSet (fun _ => none) c.lines l none, reqs := c.reqs.filter (fun q => q.line ≠ l) })

/-- A request brings a line into the L2: 16 ways of 1,024 sets. A full set first loses a line, one for which no request waits where there
is such a line; which one, the spec leaves open (R462, log entry 19). -/
def State.l2Fill (s : State) (l : Nat) : State :=
  if s.l2Has l then s.eccRead 1 (8 * l) 8
  else
    let set := s.ctl.lines.filter (fun e => e.1 % 1024 = l % 1024)
    let idle := set.filter (fun e => (s.l2Line e.1).waitM.isEmpty && (s.l2Line e.1).waitS.isEmpty)
    let s := if set.length < 16 then s
      else
        let (s, k) := s.freeNat
        let from_ := if idle.isEmpty then set else idle
        s.l2Evict ((from_.getD (k % from_.length) (0, none)).1)
    (((s.eccRead 0 (8 * l) 8).eccWrite 1 (8 * l) 8).setL2 l {})

/-- An L1 cache takes no further part in a line: the data cache of core `u`, or the instruction cache of core `u - 3`. -/
def CacheLine.without (k : CacheLine) (u : Nat) : CacheLine :=
  if 3 ≤ u then { k with code := k.code.filter (fun h => h + 3 ≠ u) }
  else
    let own : Bool := k.owner = some u
    { k with holders := k.holders.filter (fun h => h ≠ u), owner := if own then none else k.owner, dirty := k.dirty && !own,
             storing := k.storing && !own }

/-- No core owns the line any more; its holders keep it in S. -/
def CacheLine.shared (k : CacheLine) : CacheLine := { k with owner := none, dirty := false, storing := false }

/-- An L1 cache reads a line (R462). A data cache becomes a holder, in E when it is the only one. An instruction cache, 3 to 5, keeps a copy
that stores do not touch. -/
def CacheLine.read (k : CacheLine) (u : Nat) : CacheLine :=
  if 3 ≤ u then { k.shared with code := k.code.filter (fun h => h + 3 ≠ u) ++ [u - 3] }
  else if k.holders.contains u then k
  else { k with holders := k.holders ++ [u], owner := if k.holders.isEmpty then some u else none, dirty := false, storing := false }

/-- The core that comes first after another in the rotation of three (R464). -/
def firstAfter (last : Nat) (us : List Nat) : Option Nat := ([1, 2, 3] : List Nat).findSome? (fun k => us.find? (fun u => u = (last + k) % 3))

/-- A bank serves the requests that reach it for one line in one cycle (R464): PutM, fabric accesses, GetM in rotation, then GetS and PutC
in ascending core number, the data cache before the instruction cache. The requests are pairs of a kind, 0 PutM, 1 fabric access, 2 GetM,
3 GetS, 4 PutC, and an L1 cache, which is 1 for a fabric write. An owner that has not done its granted store makes them wait for its answer to the snoop (R465). A grant makes every other
request of the cycle replay. The answer is the line, the winner, and how many requests replay. -/
def CacheLine.serve (k : CacheLine) (last : Nat) (reqs : List (Nat × Nat)) : CacheLine × Option Nat × Nat :=
  let of (n : Nat) : List Nat := (reqs.filter (fun r => r.1 = n)).map (fun r => r.2)
  let k := (of 0).foldl (fun (k : CacheLine) u => if k.owner = some u then k.without u else k) k
  let k := (of 1).foldl (fun (k : CacheLine) w => if w = 1 then { k.shared with holders := [], code := [] } else k.shared) k
  let wants := (k.waitM ++ of 2).eraseDups.filter (fun u => !(k.storing && k.owner = some u))
  let reads := (k.waitS ++ of 3).eraseDups.filter (fun u => !(k.storing && k.owner = some u))
  if k.storing then ({ k with waitM := wants, waitS := reads }, none, 0)
  else match firstAfter last wants with
    | some u =>
      let wants := wants.filter (fun v => v ≠ u)
      let reads := reads.filter (fun v => v ≠ u)
      ({ code := k.code, holders := [u], owner := some u, dirty := true, storing := true, waitM := wants, waitS := reads }, some u, wants.length + reads.length)
    | none =>
      let k := { k with waitM := [], waitS := [] }
      ([0, 3, 1, 4, 2, 5].foldl (fun (k : CacheLine) u =>
        let k := if reads.contains u then k.read u else k
        if (of 4).contains u && !(k.dirty && decide (u < 3) && k.owner = some u) then k.without u else k) k, none, 0)

/-- A line as it stands after its bank has served it: the winner is the core last granted, and each replay is counted (R464). -/
def State.l2Served (s : State) (l : Nat) (r : CacheLine × Option Nat × Nat) (counted : Nat) : State :=
  let s := s.setL2 l r.1
  let s := match r.2.1 with | some u => (s.onCtl (fun c => { c with lastOwner := c.lastOwner.set (l % 4) u })).eccWrite (2 + u) (8 * l) 8 | none => s
  if r.2.2 ≤ counted then s else s.bumpBy 0x2400100C (r.2.2 - counted)

/-- A request reaches a bank. The bank serves all requests that have reached it for the line in this cycle, from the line as it stood at
the cycle's start. -/
def State.l2Req (s : State) (l kind u : Nat) : State :=
  let q : LineReqs := (s.ctl.reqs.find? (fun q => q.line = l && q.at_ = s.now)).getD
    { line := l, at_ := s.now, was := s.l2Line l, last := s.ctl.lastOwner.getD (l % 4) 2 }
  let q := { q with reqs := q.reqs ++ [(kind, u)] }
  let r := q.was.serve q.last q.reqs
  (s.l2Served l r q.lost).onCtl (fun c =>
    { c with reqs := c.reqs.filter (fun x => x.at_ = s.now && x.line ≠ l) ++ [{ q with lost := max q.lost r.2.2 }] })

/-- GetS (R463): the reader gets a copy of the line; one that meets a grant or a store not yet done waits. The instruction caches carry no
SECDED code (R469). -/
def State.gets (s : State) (u l : Nat) : State :=
  let s := (s.l2Fill l).l2Req l 3 u
  if 3 ≤ u then s else s.eccWrite (2 + u) (8 * l) 8

/-- An owner answers a snoop after its granted store (R465): it gives the line up to a GetM that waits, or keeps it in S for a GetS; then
the requests that wait are served. -/
def State.l2Answer (s : State) (u l : Nat) : State :=
  let k := s.l2Line l
  let s := (s.l2Recall l).onCtl (fun c => { c with reqs := c.reqs.filter (fun q => q.line ≠ l) })
  let last := s.ctl.lastOwner.getD (l % 4) 2
  s.l2Served l ((if k.waitM.isEmpty then k.shared else k.without u).serve last []) 0

/-- Lines that an access of the fabric to the firmware region touches (R468): their bank serves the access, after recalling an M line,
and a write invalidates every L1 copy. -/
def State.cacheTouch (s : State) (a n : Nat) (write : Bool) : State :=
  let hit (l : Nat) : Bool := decide ((a - 0x1000000) / 64 ≤ l) && decide (l ≤ (a - 0x1000000 + n - 1) / 64)
  ((s.ctl.lines.filter (fun e => hit e.1)).map (fun e => e.1)).foldl (fun s l => (s.l2Recall l).l2Req l 1 (b2n write)) s

end Sys2Proof.Machine
end

