-- ==== Sys2Proof/Machine/Reset.lean ====
section
/-! DEFINITION. Reset: power-on, RESET_N, watchdog and KMP chip resets, what they keep, the release, and core-local resets
(24). -/

namespace Sys2Proof.Machine

/-- Change the power state. -/
def State.onPwr (s : State) (f : PowerState → PowerState) : State := { s with pwr := f s.pwr }

/-- KIND, ORIGIN and REASON of `PWR_RESET_CAUSE` (Table 24-7). -/
def fKind : Fld := ⟨0x23002000, 0, 3⟩
/-- ORIGIN. -/
def fOrigin : Fld := ⟨0x23002000, 8, 8⟩

/-- The crystal and PLLs restart: kinds 0 to 2, and a watchdog reset for a clock loss (R686, R689). -/
def restarts (kind origin : Nat) : Bool := decide (kind ≤ 2) || (kind = 3 && origin = 5)

/-- `PWR_RESET_CAUSE` and `PWR_RESET_PREV` at a chip reset (R692, R694, R695): words of the cause and of the one before. -/
def State.resetCause (s : State) (kind origin reason : Nat) : Word × Word :=
  let new := BitVec.ofNat 32 (kind + if kind = 3 then 256 * (origin % 256) + 65536 * (reason % 256) else 0)
  match s.pwr.inReset with
  | some _ =>
    (if kind < s.get fKind then new else s.reg 0x23002000, s.reg 0x23002004)
  | none => (new, s.reg 0x23002000)

/-- Registers that a chip reset keeps: the always-on ones (R693), `SEC_DBG` after kinds 3 and 4 (R660), and BG, SRAM_RA and the
VCO bands where the clocks keep running (R680). Kind 0 keeps none. -/
def keptRegs (kind origin : Nat) : List Nat :=
  if kind = 0 then []
  else [0x23002008, 0x2300200C] ++ (if 3 ≤ kind then [0x25000004] else []) ++
    (if restarts kind origin then [] else [0x23001100, 0x23001104, 0x23001108])

/-- A model of the store after a reset: its package stays in flash (R576). -/
def Model.stored (m : Model) : Model := { pkg := m.pkg, tenant := m.tenant, tier := m.tier, bytes := m.bytes, handle := 0 }

/-- A chip reset (R686 to R696): the state of power-on, but for the always-on domain, the fuses, the flash and the levels at the
pins; a failed palette cell stays failed (R181). A fuse burn that the reset cuts short has burnt part of its group, how much is a free value (R632). The ports stay down and nothing runs until the release. Events of class A or B that the safety pair has not taken are kept by the
always-on domain (R617, R693). -/
def State.chipReset (s : State) (kind origin reason : Nat) : State :=
  let s := s.owLow.fsAllLow
  let (cause, prev) := s.resetCause kind origin reason
  let regs := (keptRegs kind origin).foldl (fun (r : Table Word) a => tblSet regReset r a (s.reg a)) []
  let regs := tblSet regReset regs 0x23002000 cause
  let regs := if kind = 0 then regs else tblSet regReset regs 0x23002004 prev
  let late := (s.saf.events.map (fun e => logEntry s e.1 e.2)).filter (fun e => decide (e.cls ≤ 1))
  let kept : SafetyState := { kept := if kind = 0 then [] else (s.saf.kept ++ late).drop (s.saf.kept.length + late.length - 4) }
  let (s, cut) := if s.sec.burn.isSome then s.freeNat else (s, 0)
  let burnt (new old : Nat) : Nat := match s.sec.burn with | some (n, _, _) => if n = new then max old (cut % 9) else old | none => old
  let secret : SecurityState :=
    { secret := s.sec.secret, keyHash0 := s.sec.keyHash0, keyHash1 := s.sec.keyHash1, revoke := s.sec.revoke,
      authHash := s.sec.authHash, svn := s.sec.svn, lc0 := burnt 1 s.sec.lc0, lc1 := burnt 2 s.sec.lc1, lc2 := burnt 3 s.sec.lc2,
      hdr0 := s.sec.hdr0, hdr1 := s.sec.hdr1, slotA := s.sec.slotA, slotB := s.sec.slotB }
  let flash : ConstState :=
    if s.poleElig then
      { cfg := s.con.cfg, opKey := s.con.opKey, tenKeys := s.con.tenKeys, sealed := s.con.sealed, autos := s.con.autos,
        models := (s.con.models.filter (fun m => decide (1 ≤ m.st))).map Model.stored }
    else {}
  { mem := { badPar := s.mem.stuck, stuck := s.mem.stuck }
    pending := s.pending, free := s.free, out := s.out, straps := s.straps, regs := regs, saf := kept, sec := secret, con := flash
    cal := { trim0 := s.cal.trim0, trim1 := s.cal.trim1 }
    per := if kind = 0 then { gpioIn := s.per.gpioIn, doorIn := s.per.doorIn }
      else { gpioIn := s.per.gpioIn, doorIn := s.per.doorIn, tapIr := s.per.tapIr, cells := s.per.cells, drives := s.per.drives,
             highz := s.per.highz }
    pwr := { inReset := some kind, restart := if restarts kind origin then some 0 else none } }

/-- The cold detector asserts (R682). -/
def execPowerOnReset (s : State) : Out := .next (s.chipReset 0 0 0)

/-- The brownout detector asserts (R682). -/
def execBrownoutReset (s : State) : Out := .next (s.chipReset 1 0 0)

/-- A qualifying low pulse on RESET_N (R687). -/
def execResetN (s : State) : Out := .next (s.chipReset 2 0 0)

/-- The always-on domain issues a watchdog reset with its origin and reason (R688, R695). -/
def execWatchdogReset (origin reason : Fin 256) (s : State) : Out := .next (s.chipReset 3 origin reason)

/-- The dividers release together: reset release (R684, R688). Straps are sampled, every port enters DETECT, and the boot counter
rises (R694). The clear engine has written every bank and verifies it (R181); a clear that a reset has cut short covers everything
(R178). -/
def State.release (s : State) (straps : Nat) : State :=
  let count := if s.get fKind = 0 then 1 else (s.reg 0x23002008).toNat + 1
  let s := { s with now := 0, straps := straps, pwr := { s.pwr with inReset := none, restart := none } }
  let s := (s.setReg 0x23002008 (BitVec.ofNat 32 count)).setReg 0x23000000 7#32
  let s := s.setReg 0x25000000 (BitVec.ofNat 32 s.lifecycle)
  let s := (List.range 8).foldl (fun s c => s.verifyCore c { tenant := 7, all := true }) s
  if s.reg 0x2300200C = 0#32 then s else (List.range 8).foldl (fun s c => s.clearStart c 0 true) s

/-- Reset release (R684). -/
def execResetRelease (straps : BitVec 9) (s : State) : Out :=
  .next (if s.pwr.inReset.isSome then s.release straps.toNat else s)

/-- A clock restart has failed: the sequence restarts every 100 ms (R689). -/
def execCrystalRestartRetry (s : State) : Out :=
  .next (match s.pwr.inReset, s.pwr.restart with
    | some _, some t => if t + 100 * ms ≤ s.now then s.onPwr (fun p => { p with restart := some s.now }) else s
    | _, _ => s)

/-- 1 ms after a clock loss, a lockstep mismatch or a class A reaction the watchdog reset follows (R144, R472, R617). -/
def execFaultResetDelay (s : State) : Out := s.run (fun s =>
  .next (match s.tim.resetDue with
    | some (t, origin) => if t + ms ≤ s.now then s.chipReset 3 (origin % 256) (origin / 256) else s
    | none => s))

/-- 10 ms after SELF_LOST the chip issues a watchdog reset with ORIGIN 0x80 and the reason (R582, R695). -/
def execSelfLossReset (s : State) : Out := s.run (fun s =>
  .next (match s.loss.selfLost with
    | some (reason, t) => if t + 10 * ms ≤ s.now then s.chipReset 3 0x80 reason else s
    | none => s))

/-- CHIP_RESET (Table 17-8): the response first, the reset 10 ms later. For another node the order goes to it, and the chip may
rejoin after a third loss (R602). -/
def execChipReset (r : Req) (s : State) : Out := s.run (fun s =>
  s.serve r (fun s =>
    let n := byteAt r.data 0
    if r.data.length ≠ 1 then s.respond r 0x0109 []
    else s.onNode r n (fun s =>
      let s := s.respond r 0 []
      if n = s.node then s.onPwr (fun p => { p with chipReset := some s.now })
      else (s.onLoss (fun l => { l with pardoned := n :: l.pardoned.filter (fun x => x ≠ n) })).emit (.order n 0x0106 []))))

/-- 10 ms after the response (R686). -/
def execChipResetDelay (s : State) : Out := s.run (fun s =>
  .next (match s.pwr.chipReset with
    | some t => if t + 10 * ms ≤ s.now then s.chipReset 4 0 0 else s
    | none => s))

/-! ### Core-local reset (R690) -/

/-- BUSY of a core in `PWR_CORE_RST_STAT`. -/
def fCoreRst (c : Nat) : Fld := ⟨0x23002014, c, 1⟩

/-- Transactions that a core issued end locally; their tags are quarantined (R116), and a bulk count returns with the answer if that comes
first (R460). -/
def State.endCoreTxns (s : State) (c : Nat) : State :=
  let s := (s.fab.txns.filter (fun t => t.pk.issuer = c)).foldl (fun s t => s.quarantineTxn t) s
  { s with fab := { s.fab with
      quarantine := s.fab.quarantine.map (fun q => if q.issuer = c && decide (s.now + ms ≤ q.until_) then { q with reset := true } else q),
      tagWait := s.fab.tagWait.filter (fun w => w.pk.issuer ≠ c), inject := s.fab.inject.filter (fun x => x.core ≠ c) } }

/-- What a core-local reset does to the sequencer, the tensor unit, the DMA engine, thread groups and the SFU (R213, R252, R295,
R325). SEQ_CTX, SEQ_BASE, SEQ_LEN and SEQ_ENTRY stay, as do loaded slots. -/
def State.resetEngines (s : State) (c : Nat) : State :=
  let loading := (s.core c).sfu.loading
  let s := (s.endCoreTxns c).endWork c
  let s := match loading with | some i => s.sfuEmpty c i | none => s
  let s := s.onCore c (fun k => { k with
    chans := [], dma := {}, seq := {}, tg := {}, sfu := { k.sfu with loading := none, passAt := none, late := false } })
  let s := s.resetRegs (dmaReg c 0) (dmaReg c 0x1000)
  let s := ((s.set (fSeqState c) 0).set (fSeqPc c) 0).resetRegs (seqReg c 0x2C) (seqReg c 0x50)
  let s := (s.resetRegs (seqReg c 0x54) (seqReg c 0x60)).resetRegs (tnsReg c 8) (tnsReg c 0x14)
  let s := (s.setReg (tnsReg c 0) 0#32).resetRegs (tgReg c 0) (tgReg c 4)
  let s := s.resetRegs (tgReg c 0x10) (tgReg c 0x28)
  let s := (s.resetRegs (sfuReg c 8) (sfuReg c 0xC)).resetRegs (sfuReg c 0x10) (sfuReg c 0x14)
  let s := (s.resetRegs (sfuReg c 0x18) (sfuReg c 0x1C)).resetRegs (sfuReg c 0x400) (sfuReg c 0x800)
  (List.range 16).foldl (fun s i => s.resetRegs (aSlot c i 0xC) (aSlot c i 0x10)) s

/-- What a core-local reset does to the palette: windows close, events and counters reset, a tenant clear starts again; contents,
regions, bank power and bad banks stay (R178, R181). -/
def State.resetPalette (s : State) (c : Nat) : State :=
  let s := (List.range 16).foldl (fun s w => s.setReg (aWin c w 1) (s.reg (aWin c w 1) &&& ~~~ 1#32)) s
  let s := (s.resetRegs (palReg c 0x14) (palReg c 0x18)).resetRegs (palReg c 0x20) (palReg c 0x3C)
  match tblGet (fun _ => none) s.mem.clear c with
  | some k => s.clearPhase c { k with phase := 1 }
  | none => s

/-- The epoch in progress is abandoned for every plan that uses the core (R213). -/
def State.failEpoch (s : State) (c : Nat) : State :=
  s.coreFail c (if s.get (fSeqState c) = 0 then s.tim.epoch else (s.core c).seq.pass)

/-- Start the reset of core `c`; nothing happens while one is in progress (R690). A destination whose rings lie on the core finds its windows
closed, gets no more grants and fails under R402 (R410, R437). -/
def State.coreReset (s : State) (c : Nat) : State :=
  if s.get (fCoreRst c) = 1 then s
  else
    let s := s.setReg aGateStat (s.reg aGateStat ||| BitVec.ofNat 32 (2 ^ c))
    let s := ((s.failEpoch c).resetEngines c).resetPalette c
    (s.set (fCoreRst c) 1).onPwr (fun p => { p with coreRst := tblSet (fun _ => none) p.coreRst c (some s.now) })

/-- A write of `PWR_CORE_RST`. -/
def State.coreRstWrite (s : State) (v : Nat) : State :=
  ((List.range 8).filter (fun c => bit v c)).foldl (fun s c => s.coreReset c) s

/-- `PWR_CORE_RST` is written (R690). -/
def execPwrCoreRst (v : Word) (s : State) : Out := s.run (fun s => .next (s.coreRstWrite v.toNat))

/-- A core-local reset completes: its scratch memories are zero and CORE_RST_DONE is set (R690). -/
def State.coreResetDone (s : State) (c : Nat) : State :=
  if s.get (fCoreRst c) = 1 then
    let s := ((s.zeroScratch c).set (fCoreRst c) 0).event 0x2300202C 8
    s.onPwr (fun p => { p with coreRst := tblSet (fun _ => none) p.coreRst c none })
  else s

/-- A core-local reset completes (R690). -/
def execCoreResetDone (c : Fin 8) (s : State) : Out := s.run (fun s => .next (s.coreResetDone c))

end Sys2Proof.Machine
end

