-- ==== Sys2Proof/Machine/Security.lean ====
section
/-! DEFINITION. Security: measurement, attestation, the lifecycle, debug unlock and firmware update (22). -/

namespace Sys2Proof.Machine

/-- Change the security state. -/
def State.onSec (s : State) (f : SecurityState → SecurityState) : State := { s with sec := f s.sec }

/-- `SEC_DBG`. -/
def aDbg : Nat := 0x25000004
/-- `SEC_EVT`: MEAS_REFUSED bit 0, TOKEN_FAIL bit 1. -/
def aSecEvt : Nat := 0x25000008
/-- `SEC_MEAS_EXT_CTL`. -/
def aExtCtl : Nat := 0x25000330
/-- ROMLOCK. -/
def fRomlock : Fld := ⟨0x25000330, 9, 1⟩
/-- BUSY. -/
def fExtBusy : Fld := ⟨0x25000330, 10, 1⟩

/-! ### Measurement (R642, R643) -/

/-- The 48 bytes of `SEC_MEAS_EXT_DATA` for an extension of register `m`: most significant byte of each word first, as in a measurement
register; for register 4 the words hold a little-endian state block (R643, R776). -/
def State.extData (s : State) (m : Nat) : List Byte :=
  (List.range 12).flatMap (fun j =>
    let w := leBytes 4 (s.reg (0x25000300 + 4 * j)).toNat
    if m = 4 then w else w.reverse)

/-- Finish an extension in progress: register 4 takes the digest of the state block in the first 16 bytes (R643). -/
def State.extendDone (s : State) : State :=
  match s.sec.ext with
  | none => s
  | some (m, d, _) =>
    ((if m = 4 then s.measure 4 (d.take 16) else s.extend m d).onSec (fun x => { x with ext := none })).set fExtBusy 0

/-- An extension is refused after ROMLOCK: registers 0 to 2, and register 4 with a DEBUG byte of zero (R643). -/
def extRefused (locked : Bool) (m : Nat) (d : List Byte) : Bool :=
  locked && (decide (m ≤ 2) || (m = 4 && byteAt d 1 = 0))

/-- A write of `SEC_MEAS_EXT_CTL` (R643, R775): GO acts under the ROMLOCK held before the write. -/
def State.extWrite (s : State) (who : Who) (v : Word) : State :=
  let locked : Bool := s.get fRomlock = 1
  let t := s.putReg who false aExtCtl v
  let m := v.toNat % 8
  let d := s.extData m
  if !bit v.toNat 8 then t
  else if s.get fExtBusy = 1 || extRefused locked m d then t.event aSecEvt 1
  else (t.onSec (fun x => { x with ext := some (m, d, s.now) })).set fExtBusy 1

/-- GO is written (R643). -/
def execMeasExtend (v : Word) (s : State) : Out := s.run (fun s => .next (s.extWrite s.firmware (v ||| 0x100#32)))

/-- The extension completes within 2 us (R643). -/
def execMeasExtendDone (s : State) : Out := s.run (fun s => .next s.extendDone)

/-- ROMLOCK is written (R643). -/
def execRomlock (v : Word) (s : State) : Out := s.run (fun s => .next (s.extWrite s.firmware (v ||| 0x200#32)))

/-! ### The device key (R635) -/

/-- The order of the curve P-384. -/
def orderP384 : Nat := 0xFFFFFFFFFFFFFFFFFFFFFFFFFFFFFFFFFFFFFFFFFFFFFFFFC7634D81F4372DDF581A0DB248B0A77AECEC196ACCC52973

/-- "P7240-DEVKEY" in ASCII. -/
def labelKey : List Byte := [0x50#8, 0x37#8, 0x32#8, 0x34#8, 0x30#8, 0x2D#8, 0x44#8, 0x45#8, 0x56#8, 0x4B#8, 0x45#8, 0x59#8]

/-- The private scalar of the device key, 48 bytes big-endian. -/
def State.deviceKey (s : State) : List Byte :=
  let k := beAt (Config.hkdf (beBytes 32 s.sec.secret) (labelKey ++ leBytes 1 s.keyPhase) 56) 0 56
  beBytes 48 (k % (orderP384 - 1) + 1)

/-- The public key in SEC1 uncompressed form. -/
def State.publicKey (s : State) : List Byte := fit 97 (Config.ecdsaPublic s.deviceKey)

/-- The device ID: the first 16 bytes of its digest. -/
def State.deviceId (s : State) : List Byte := (sha384 s.publicKey).take 16

/-- SHA-384 of a message, signed by the device key. -/
def State.sign (s : State) (msg : List Byte) : List Byte := fit 96 (Config.ecdsaSign s.deviceKey (sha384 msg))

/-! ### Attestation (R644) -/

/-- The quote of this chip over a nonce (Table 22-8). -/
def State.quote (s : State) (nonce : List Byte) : List Byte :=
  let body := leBytes 4 0x5451424B ++ leBytes 1 1 ++ leBytes 1 s.node ++ leBytes 1 s.lifecycle ++ leBytes 1 (s.reg aDbg).toNat ++
    leBytes 2 0x7240 ++ leBytes 2 0xA1 ++ leBytes 4 s.sec.running ++ leBytes 4 s.sec.svn ++ leBytes 4 (s.reg 0x23002008).toNat ++
    leBytes 8 s.ctNs ++ fit 32 nonce ++ (List.range 8).flatMap s.meas ++ (List.range 4).flatMap s.fenceRecord
  body ++ s.sign body

/-- ATTEST_QUOTE: taken after an extension in progress has completed (R644, R659). -/
def execAttestQuote (r : Req) (s : State) : Out := s.run (fun s =>
  s.serve r (fun s =>
    let n := byteAt r.data 0
    if r.data.length ≠ 36 then s.respond r 0x0109 []
    else s.onNode r n (fun s =>
      if n = s.node then
        let s := s.extendDone
        s.respond r 0 (s.quote (slice r.data 4 32))
      else
        let (s, bs) := (s.emit (.order n 0x0800 r.data)).foreign 608
        s.respond r 0 bs)))

/-- ATTEST_CERT: the certificate chain, at most 4,000 bytes; a key in MANUFACTURE is not certified (Table 22-1). -/
def execAttestCert (r : Req) (s : State) : Out := s.run (fun s =>
  s.serve r (fun s =>
    let n := byteAt r.data 0
    if r.data.length ≠ 1 then s.respond r 0x0109 []
    else s.onNode r n (fun s =>
      if n = s.node then s.respond r 0 (if s.lifecycle = 0 then [] else Config.certChain.take 4000)
      else
        let (s, bs) := (s.emit (.order n 0x0801 r.data)).foreign 4000
        s.respond r 0 bs)))

/-! ### Nonces and tokens (R646) -/

/-- A fresh nonce and the result that carries it. -/
def State.challenge (s : State) : State × List Byte :=
  let (s, nonce) := s.random 32
  let s := s.onSec (fun x => { x with nonce := some (nonce, s.now) })
  (s, s.deviceId ++ leBytes 1 s.lifecycle ++ leBytes 3 0 ++ nonce)

/-- Answer with a challenge of a node. -/
def State.challengeOf (s : State) (r : Req) (n : Nat) : State :=
  s.onNode r n (fun s =>
    let (s, bs) := if n = s.node then s.challenge else (s.emit (.order n r.code r.data)).foreign 52
    s.respond r 0 bs)

/-- LIFECYCLE_STATUS. -/
def execLifecycleStatus (r : Req) (s : State) : Out := s.run (fun s =>
  s.serve r (fun s => if r.data.length ≠ 1 then s.respond r 0x0109 [] else s.challengeOf r (byteAt r.data 0)))

/-- A nonce lapses 60 s after it was issued (R646). -/
def execNonceLapse (s : State) : Out := s.run (fun s =>
  .next (match s.sec.nonce with
    | some (_, t) => if t + 60 * kmpSec ≤ s.now then s.onSec (fun x => { x with nonce := none }) else s
    | none => s))

/-- Verify a token against the current nonce, which it uses up: label, scope byte, and the payload from byte 4 (R646). -/
def State.token (s : State) (label : List Byte) (scope : Nat) (data : List Byte) : State × Bool :=
  let key := slice data 4 97
  let ok := match s.sec.nonce with
    | some (nonce, t) =>
      decide (s.now < t + 60 * kmpSec) && decide (sha384 key = beBytes 48 s.sec.authHash) &&
        Config.ecdsaOk key (sha384 (label ++ s.deviceId ++ nonce ++ leBytes 1 scope)) (slice data 101 96)
    | none => false
  let s := s.onSec (fun x => { x with nonce := none })
  (if ok then s else s.event aSecEvt 2, ok)

/-! ### Debug unlock (R646, R647) -/

/-- "KDBG" in ASCII. -/
def labelDebug : List Byte := [0x4B#8, 0x44#8, 0x42#8, 0x47#8]
/-- "KLCS" in ASCII. -/
def labelCycle : List Byte := [0x4B#8, 0x4C#8, 0x43#8, 0x53#8]

/-- Release a tenant on this chip and let the clear of every core run to its end; register 6 takes the inactive record (R176, R648,
Table 22-7). -/
def State.clearNow (s : State) (t : Nat) : State :=
  let s := (List.range 8).foldl (fun s c => (((s.clearNext c).clearNext c).clearNext c).clearNext c) (s.clearTenant t)
  s.measure 6 (s.fenceRecord t)

/-- Release every tenant of this chip. -/
def State.clearAll (s : State) : State :=
  ((List.range 4).filter (fun t => s.tenantOn t && bit (s.tenantMask t) s.node)).foldl (fun s t => s.clearNow t) s

/-- The steps of an accepted unlock: tenants, register 4, `SEC_DBG`, heartbeats; JTAG opens 1 ms later (R647). -/
def State.unlock (s : State) (scope : Nat) : State :=
  let dbg := (s.reg aDbg).toNat ||| scope
  let s := s.clearAll.measure 4 (s.stateBlock dbg)
  ((s.setReg aDbg (BitVec.ofNat 32 dbg)).set fHbEn 0).onSec (fun x => { x with jtagOpenAt := some (s.now + ms) })

/-- A node is in the plan of a started obstacle-warning instance. -/
def State.warns (s : State) (n : Nat) : Bool :=
  s.con.services.any (fun v => svcKind v.id = 1 && v.started && bit (s.plan v.plan).nodes n)

/-- DEBUG_UNLOCK with byte 1 = 0: a challenge. -/
def execDebugUnlockChallenge (r : Req) (s : State) : Out := s.run (fun s =>
  s.serve r (fun s =>
    if r.data.length ≠ 2 || byteAt r.data 1 ≠ 0 then s.respond r 0x0109 []
    else s.challengeOf r (byteAt r.data 0)))

/-- DEBUG_UNLOCK with byte 1 = 1: a token (R647). Checks 1 and 2 come before the token is verified. -/
def execDebugUnlockToken (r : Req) (s : State) : Out := s.run (fun s =>
  s.serve r (fun s =>
    let n := byteAt r.data 0
    let scope := byteAt r.data 2
    if r.data.length ≠ 197 || byteAt r.data 1 ≠ 1 || byteAt r.data 3 ≠ 0 then s.respond r 0x0109 []
    else if scope = 0 || decide (7 < scope) then s.respond r 0x0109 []
    else if r.role ≠ 4 then s.respond r 0x0105 []
    else s.onNode r n (fun s =>
      if s.lifecycle = 2 && s.warns n then s.respond r 0x010B []
      else if n = s.node then
        let (s, ok) := s.token labelDebug scope r.data
        if ok then (s.respond r 0 []).unlock scope else s.respond r 0x0802 []
      else (s.emit (.order n 0x0803 r.data)).respond r 0 [])))

/-! ### Lifecycle (R631 to R633) -/

/-- A transition of Table 22-1, and whether it needs a token. -/
def lifecycleStep (old new : Nat) : Option Bool :=
  if old = 0 && new = 1 then some true
  else if old = 1 && new = 2 then some false
  else if (old = 1 || old = 2) && new = 3 then some true
  else none

/-- Judge a LIFECYCLE_SET for this chip against the state the fuses leave: byte 2 is the target state (R632, R646). SECURED to FIELD
takes no token and path 0 only. -/
def State.lifecycleJudge (s : State) (r : Req) : State :=
  let new := byteAt r.data 2
  match lifecycleStep s.lifecycle new with
  | none => s.respond r 0x0801 []
  | some false =>
    if r.path ≠ 0 then s.respond r 0x0105 []
    else s.onSec (fun x => { x with burn := some (new, r, s.now) })
  | some true =>
    let (s, ok) := if r.data.length = 197 then s.token labelCycle new r.data else (s, false)
    if ok then s.onSec (fun x => { x with burn := some (new, r, s.now) }) else s.respond r 0x0802 []

/-- LIFECYCLE_SET (R632): for a chip whose burn is still running it waits behind it. -/
def execLifecycleSet (r : Req) (s : State) : Out := s.run (fun s =>
  s.serve r (fun s =>
    let n := byteAt r.data 0
    if (r.data.length ≠ 4 && r.data.length ≠ 197) || byteAt r.data 3 ≠ 0 then s.respond r 0x0109 []
    else s.onNode r n (fun s =>
      if n ≠ s.node then (s.emit (.order n 0x0804 r.data)).respond r 0 []
      else if s.sec.burn.isSome then s.onSec (fun x => { x with burnWait := x.burnWait ++ [r] })
      else s.lifecycleJudge r)))

/-- Waiting LIFECYCLE_SET requests are judged in turn, until one of them starts a burn (R632). -/
def State.lifecycleNext (s : State) : List Req → State
  | [] => s.onSec (fun x => { x with burnWait := [] })
  | r :: rs => if s.sec.burn.isSome then s.onSec (fun x => { x with burnWait := r :: rs }) else (s.lifecycleJudge r).lifecycleNext rs

/-- Burn the fuse group of a state. -/
def SecurityState.burnt (x : SecurityState) (new : Nat) : SecurityState :=
  if new = 1 then { x with lc0 := 8 } else if new = 2 then { x with lc1 := 8 } else { x with lc2 := 8 }

/-- Entry into RETURN releases every tenant and erases the model store and the sealed record (R633). -/
def State.enterReturn (s : State) : State :=
  let s := s.clearAll
  { s with con := { s.con with models := [], cfg := [], opKey := none, tenKeys := [], sealed := [] } }

/-- A burn completes: the state changes, register 7 is extended, and LIFECYCLE_SET is answered (R632, R633, R642). -/
def execFuseBurnDone (s : State) : Out := s.run (fun s =>
  .next (match s.sec.burn with
    | none => s
    | some (new, r, _) =>
      let old := s.lifecycle
      let s := s.onSec (fun x => { x.burnt new with burn := none })
      let s := (s.measure 7 (eventRecord 2 (old + 256 * new) 0)).setReg 0x25000000 (BitVec.ofNat 32 s.lifecycle)
      let s := if new = 3 then s.enterReturn else if s.con.sealed = [] then s else s.sealKeys
      (s.respond r 0 []).lifecycleNext s.sec.burnWait))

/-! ### Image sets and the boot header (R637 to R640) -/

/-- The header copy in force: true for copy 1; none when neither is valid (R638). -/
def SecurityState.hdrForce (x : SecurityState) : Option Bool :=
  match x.hdr0.valid, x.hdr1.valid with
  | true, true => some (decide (x.hdr0.seq < x.hdr1.seq))
  | true, false => some false
  | false, true => some true
  | false, false => none

/-- The header in force; slot A CONFIRMED when no copy is valid (R638). -/
def SecurityState.header (x : SecurityState) : BootHeader :=
  match x.hdrForce with
  | some true => x.hdr1
  | some false => x.hdr0
  | none => {}

/-- Write the copy that is not in force, SEQ one above (R638). -/
def SecurityState.writeHeader (x : SecurityState) (active st : Nat) : SecurityState :=
  let h : BootHeader := { valid := true, seq := x.header.seq + 1, active := active, st := st }
  match x.hdrForce with
  | some false => { x with hdr1 := h }
  | _ => { x with hdr0 := h }

/-- A firmware slot: 0 A, 1 B. -/
def SecurityState.slot (x : SecurityState) (k : Nat) : ImageSet := if k = 0 then x.slotA else x.slotB

/-- The state with a firmware slot replaced. -/
def SecurityState.setSlot (x : SecurityState) (k : Nat) (i : ImageSet) : SecurityState :=
  if k = 0 then { x with slotA := i } else { x with slotB := i }

/-- Lengths of the two images of a set header (Table 22-5). -/
def fwLen (h : List Byte) : Nat := fieldAt h 16 4
/-- SAFE_LEN. -/
def safeLen (h : List Byte) : Nat := fieldAt h 20 4

/-- An image set as its header and images give it (Table 22-5). -/
def imageSet (h data : List Byte) : ImageSet :=
  { present := true, version := fieldAt h 8 4, svn := fieldAt h 12 4, header := h, fwLen := fwLen h, safeLen := safeLen h, data := data }

/-- Every check of Table 22-6 passes for a set header and the images behind it (R640). -/
def SecurityState.setOk (x : SecurityState) (h data : List Byte) : Bool :=
  let key := byteAt h 5
  let pub := slice h 128 97
  let hash := if key = 0 then x.keyHash0 else x.keyHash1
  let fw := data.take (fwLen h)
  let safe := (data.drop (fwLen h)).take (safeLen h)
  fieldAt h 0 4 = 0x5453424B && byteAt h 4 = 1 && decide (key ≤ 1) && decide (fieldAt h 12 4 ≤ 64) &&
    decide (fwLen h + safeLen h ≤ 3145728) && decide (safeLen h ≤ 524288) &&
    decide (sha384 pub = beBytes 48 hash) && !bit x.revoke key &&
    Config.ecdsaOk pub (sha384 (h.take 3968)) (slice h 3968 96) &&
    decide (x.svn ≤ fieldAt h 12 4) &&
    decide (sha384 fw = slice h 24 48) && decide (sha384 safe = slice h 72 48)

/-! ### Firmware update (R655 to R657) -/

/-- The chip has a QSPI flash: its straps name it as a boot source (Table 16-5). -/
def State.hasFlash (s : State) : Bool := s.bootSrc = 0 || s.bootSrc = 3

/-- A lone chip that may not become pole: its flash is for firmware updates only (R3). -/
def State.loneGuest (s : State) : Bool := s.loss.lone && !s.poleElig

/-- Serve an update command: refused while a safety-tier service is started (R655), and on a lone chip that may not become pole and whose
straps do not name QSPI (R3). -/
def State.update (s : State) (r : Req) (run : State → State) : Out :=
  s.serve r (fun s => if s.warningOn || (s.loneGuest && !s.hasFlash) then s.respond r 0x010B [] else run s)

/-- Order a command to every other live pole-eligible chip. -/
def State.orderEligible (s : State) (code : Nat) (data : List Byte) : State :=
  s.otherEligible.foldl (fun s n => s.emit (.order n code data)) s

/-- The firmware transfer with a handle, while its handle has not lapsed. -/
def State.fwTransfer (s : State) (h : Nat) : Option (Transfer × List Byte × Bool) :=
  match s.sec.xfer with
  | some (k, hash, ok) => if k = h then (s.transfer k).map (fun t => (t, hash, ok)) else none
  | none => none

/-- FW_BEGIN (Table 22-12): the inactive slot is erased. -/
def execFwBegin (r : Req) (s : State) : Out := s.run (fun s =>
  s.update r (fun s =>
    let total := fieldAt r.data 4 4
    let busy := match s.sec.xfer with | some (h, _, _) => (s.transfer h).isSome | none => false
    if r.data.length ≠ 56 then s.respond r 0x0109 []
    else if busy then s.respond r 0x0B04 []
    else if decide (4194304 < total) then s.respond r 0x0B02 []
    else
      let h := s.con.nextHandle
      let t : Transfer := { handle := h, pkg := 0, tenant := 7, total := total, crc := 0, at_ := s.now }
      let s := { s with con := { s.con with transfers := s.con.transfers ++ [t], nextHandle := h % 65535 + 1 } }
      let s := s.onSec (fun x => { x.setSlot (1 - x.header.active) {} with xfer := some (h, slice r.data 8 48, false) })
      (s.orderEligible 0x0B10 r.data).respond r 0 (leBytes 2 h)))

/-- FW_CHUNK (Table 22-12). -/
def execFwChunk (r : Req) (s : State) : Out := s.run (fun s =>
  s.update r (fun s =>
    let off := fieldAt r.data 4 4
    let data := r.data.drop 8
    match s.fwTransfer (fieldAt r.data 0 2) with
    | none => s.respond r 0x0109 []
    | some (t, _, _) =>
      if decide (r.data.length < 8) || fieldAt r.data 2 2 ≠ 0 || decide (4056 < data.length) || decide (t.total < off + data.length) then
        s.respond r 0x0109 []
      else ((s.setTransfer { t with chunks := t.chunks ++ [(off, data)], at_ := s.now }).orderEligible 0x0B11 r.data).respond r 0 []))

/-- FW_VERIFY (Table 22-12): the digest of the set and the checks of Table 22-6. -/
def execFwVerify (r : Req) (s : State) : Out := s.run (fun s =>
  s.update r (fun s =>
    match s.fwTransfer (fieldAt r.data 0 2) with
    | none => s.respond r 0x0109 []
    | some (t, hash, _) =>
      if !t.whole then s.respond r 0x0318 []
      else
        let bs := t.bytes
        let h := bs.take 4096
        let data := bs.drop 4096
        if decide (sha384 bs = hash) && s.sec.setOk h data then
          let s := s.onSec (fun x => { x.setSlot (1 - x.header.active) (imageSet h data) with xfer := some (t.handle, hash, true) })
          (s.orderEligible 0x0B12 r.data).respond r 0 []
        else s.respond r 0x0B01 []))

/-- FW_ACTIVATE (R656): the header names the new slot as TRIAL; every member resets at boundary(R), two epochs ahead. -/
def execFwActivate (r : Req) (s : State) : Out := s.run (fun s =>
  s.update r (fun s =>
    match s.fwTransfer (fieldAt r.data 0 2) with
    | none => s.respond r 0x0109 []
    | some (_, _, false) => s.respond r 0x0B01 []
    | some (_, _, true) =>
      if s.opBusy r.code [(2, 0)] then s.respond r 0x0108 []
      else
        let s := (s.opStart r [(2, 0)]).1
        let n := s.tim.epoch + 2
        let s := s.onSec (fun x => { x.writeHeader (1 - x.header.active) 1 with resetEpoch := some n })
        (nodesOf (without s.loss.members s.node)).foldl (fun s k => s.emit (.order k 0x0B13 (leBytes 8 n))) s))

/-- FW_STATUS of a node: ACTIVE, STATE and SEQ of the header in force, FW_VERSION of both slots (Table 22-12). -/
def execFwStatus (r : Req) (s : State) : Out := s.run (fun s =>
  s.update r (fun s =>
    let n := byteAt r.data 0
    let h := s.sec.header
    if r.data.length ≠ 1 then s.respond r 0x0109 []
    else s.onNode r n (fun s =>
      if n = s.node then
        s.respond r 0 (leBytes 1 h.active ++ leBytes 1 h.st ++ leBytes 2 0 ++ leBytes 4 h.seq ++ leBytes 4 s.sec.slotA.version ++
          leBytes 4 s.sec.slotB.version)
      else
        let (s, bs) := (s.emit (.order n 0x0B14 r.data)).foreign 16
        s.respond r 0 bs)))

/-- At boundary(R) the chip resets into the new slot (R656). -/
def State.resetBoundary (s : State) (n : Nat) : State := if s.sec.resetEpoch = some n then s.chipReset 4 0 0 else s

/-- The constellation has formed at the new version: the pole confirms the update (R657). -/
def execFwConfirm (s : State) : Out := s.run (fun s =>
  .next (
    let h := s.sec.header
    if s.isPole && s.loss.formed && h.st = 2 then
      let i := s.sec.slot h.active
      let s := s.onSec (fun x => { x.writeHeader h.active 0 with svn := max x.svn i.svn, trialFrom := none })
      let s := (s.orderEligible 0x0B13 (leBytes 4 i.svn)).measure 7 (eventRecord 1 i.version i.svn)
      s.kmpEvent 0x8B01 (leBytes 1 s.node ++ leBytes 1 h.active ++ leBytes 1 0) none
    else s))

/-- Trial firmware not confirmed 120 s after reset release issues a watchdog reset with ORIGIN 0x81 (R657, R695). -/
def execTrialTimeout (s : State) : Out := s.run (fun s =>
  .next (match s.sec.trialFrom with
    | some t => if t + 120 * kmpSec ≤ s.now then s.chipReset 3 0x81 0 else s
    | none => s))

end Sys2Proof.Machine
end

