-- ==== Sys2Proof/Machine/Cal.lean ====
section
/-! DEFINITION. Cal: calibration runs, their windows, and the trim record (23). -/

namespace Sys2Proof.Machine

/-- Change the calibration state. -/
def State.onCal (s : State) (f : CalState → CalState) : State := { s with cal := f s.cal }

/-- AUTO and DT of `CAL_CTL`. -/
def fCalAuto : Fld := ⟨0x23001000, 1, 1⟩
/-- DT in °C. -/
def fCalDt : Fld := ⟨0x23001000, 8, 5⟩
/-- BUSY, RESULT and ROOT_MARGIN of `CAL_STAT`. -/
def fCalBusy : Fld := ⟨0x23001004, 0, 1⟩
/-- RESULT. -/
def fCalResult : Fld := ⟨0x23001004, 1, 2⟩
/-- ROOT_MARGIN. -/
def fCalMargin : Fld := ⟨0x23001004, 8, 8⟩
/-- `CAL_T_REF_s`. -/
def aTRef (i : Nat) : Nat := 0x23001020 + 4 * i

/-- A temperature sensor's reading in 0.1 °C (Table 21-7). -/
def State.temp (s : State) (i : Nat) : Int := signed 16 (s.get ⟨0x24000060 + 4 * i, 0, 16⟩)

/-- The hottest of the 8 sensors. -/
def State.hottest (s : State) : Int := (List.range 8).foldl (fun m i => max m (s.temp i)) (s.temp 0)

/-! ### Runs (R671, R672) -/

/-- Lanes and trims of a task on a port: on a D-PHY port TERM (0) of each used lane and SKEW (1) of each used data lane at rates of
at most 1,500 Mbit/s; on a link port AMP (0), CTLE (1) and DFE (2) of both lanes. -/
def State.calTodo (s : State) (task port : Nat) : List (Nat × Nat) :=
  if task = 4 then
    let ctl := (s.reg (camReg port 0)).toNat
    let data := List.range (if bits ctl 1 2 = 0 then 1 else if bits ctl 1 2 = 1 then 2 else 4)
    (data ++ [4]).map (fun l => (l, 0)) ++ (if bits ctl 16 12 ≤ 1500 then data.map (fun l => (l, 1)) else [])
  else if task = 5 then (List.range 2).flatMap (fun l => (List.range 3).map (fun w => (l, w)))
  else [(0, 0)]

/-- Start a run: `CAL_T_REF_s` take the readings, and task 1 begins. -/
def State.calStart (s : State) : State :=
  let s := (List.range 8).foldl (fun s i => s.set ⟨aTRef i, 0, 16⟩ (unsigned 16 (s.temp i))) s
  ((s.set fCalBusy 1).bump 0x2300100C).onCal (fun q =>
    { q with tasks := [{ task := 1, since := s.now }], runAt := some s.now, held := false, wasForced := false, wasRailed := false })

/-- A trigger: a run starts, or waits for the end of the one in progress and of the 1 s spacing. -/
def State.calTrigger (s : State) : State :=
  let near := match s.cal.runAt with | some t => decide (s.now < t + kmpSec) | none => false
  if s.get fCalBusy = 1 || near then s.onCal (fun q => { q with held := true }) else s.calStart

/-- Some sensor differs from its reference by at least DT. -/
def State.calDrift (s : State) : Bool :=
  (List.range 8).any (fun i =>
    let d := s.temp i - signed 16 (s.get ⟨aTRef i, 0, 16⟩)
    decide ((10 * s.get fCalDt : Int) ≤ d) || decide (d ≤ -(10 * s.get fCalDt : Int)))

/-- The temperature trigger (R671). -/
def execCalTempTrigger (s : State) : Out := s.run (fun s => .next (if s.get fCalAuto = 1 && s.calDrift then s.calTrigger else s))

/-- `CAL_CTL`.RUN is written (R671). -/
def execCalRunWrite (s : State) : Out := s.run (fun s => .next s.calTrigger)

/-- The 1 s spacing ends and a held trigger starts its run (R671, R679). -/
def execCalHoldEnd (s : State) : Out := s.run (fun s =>
  .next (
    let apart := match s.cal.runAt with | some t => decide (t + kmpSec ≤ s.now) | none => true
    if s.cal.held && s.get fCalBusy = 0 && apart then s.calStart else s))

/-! ### The trim record (R673 to R676) -/

/-- The image of the trims: CAL_ registers 0x100 to 0x2FF. -/
def State.trimImage (s : State) : List Word := (List.range 128).map (fun i => s.reg (0x23001100 + 4 * i))

/-- The slot in force: true for slot 1; none when neither is valid (R674). -/
def CalState.trimForce (q : CalState) : Option Bool :=
  match q.trim0.valid, q.trim1.valid with
  | true, true => some (decide (q.trim0.seq < q.trim1.seq))
  | true, false => some false
  | false, true => some true
  | false, false => none

/-- The record in force; an invalid one when there is none. -/
def CalState.trim (q : CalState) : TrimSlot :=
  match q.trimForce with
  | some true => q.trim1
  | some false => q.trim0
  | none => {}

/-- The codes within a trim register: lowest bit, width. -/
def trimFields (i : Nat) : List (Nat × Nat) :=
  if i = 0 then [(0, 6)] else if i = 1 then [(0, 3)]
  else if 16 ≤ i && i < 48 then [(0, 6), (8, 5)]
  else if 64 ≤ i && i < 88 then [(0, 5), (8, 4), (16, 5)]
  else []

/-- Some code differs from an image by at least two steps (R675). -/
def State.trimMoved (s : State) (image : List Word) : Bool :=
  (List.range 128).any (fun i => (trimFields i).any (fun f =>
    let a := bits (s.reg (0x23001100 + 4 * i)).toNat f.1 f.2
    let b := bits (image.getD i 0#32).toNat f.1 f.2
    let dfe : Bool := f.1 = 16
    let d : Int := if dfe then signed 5 a - signed 5 b else (a : Int) - b
    decide (2 ≤ d) || decide (d ≤ -2)))

/-- A trim record slot as it lies in the flash (Table 23-4). -/
def TrimSlot.bytes (t : TrimSlot) : List Byte :=
  let body := leBytes 4 0x4D49524B ++ leBytes 4 t.seq ++ leBytes 2 0x7240 ++ leBytes 2 t.fw ++ leBytes 4 0 ++ fit 16 t.device ++
    (List.range 8).flatMap (fun i => leBytes 2 (t.tref.getD i 0)) ++ leBytes 8 t.ctLast ++ leBytes 8 0 ++
    (List.range 128).flatMap (fun i => leBytes 4 (t.image.getD i 0#32).toNat)
  let body := fit 4092 body
  body ++ leBytes 4 (crc32c body).toNat

/-- Write the record to the slot that is not in force, at least 4 h after the one before (R674, R675). A lone chip that may
not become pole leaves its flash alone (R3). -/
def State.trimWrite (s : State) : State :=
  let near := match s.cal.recordAt with | some t => decide (s.now < t + 14400 * kmpSec) | none => false
  if !s.cal.recordDue || near || !s.hasFlash || s.loneGuest then s
  else
    let slot : TrimSlot :=
      { valid := true, seq := s.cal.trim.seq + 1, device := s.deviceId, tref := (List.range 8).map (fun i => s.get ⟨aTRef i, 0, 16⟩)
        fw := s.sec.running % 65536, ctLast := s.ctNs, image := s.trimImage }
    s.onCal (fun q =>
      let q := { q with recordAt := some s.now, recordDue := false }
      match q.trimForce with
      | some false => { q with trim1 := slot }
      | _ => { q with trim0 := slot })

/-- A trim record is written (R675). -/
def execTrimRecordWrite (s : State) : Out := s.run (fun s => .next s.trimWrite)

/-- At firmware start the image is loaded into the trims, apart from the VCO bands and the timestamp trims, when the record is this
chip's and every sensor lies within DT of it (R676); the boot run follows (R671). -/
def State.calBoot (s : State) : State :=
  let r := s.cal.trim
  let near := (List.range 8).all (fun i =>
    let d := s.temp i - signed 16 (r.tref.getD i 0)
    decide (d < (10 * s.get fCalDt : Int)) && decide (-(10 * s.get fCalDt : Int) < d))
  let s := if r.valid && s.hasFlash && decide (r.device = s.deviceId) && near then
      (List.range 128).foldl (fun s i =>
        if i = 2 || (88 ≤ i && i < 94) then s else s.putReg s.firmware false (0x23001100 + 4 * i) (r.image.getD i 0#32)) s
    else s
  s.calTrigger

/-- The run ends (R672): 2 where a trim reached the end of its range, 1 where a task was forced, 0 otherwise. -/
def State.calEnd (s : State) : State :=
  let result := if s.cal.wasRailed then 2 else if s.cal.wasForced then 1 else 0
  let s := (((s.set fCalBusy 0).set fCalResult result).event 0x23001008 1).onCal (fun q => { q with tasks := [] })
  let s := if !s.cal.trim.valid || s.trimMoved s.cal.trim.image then s.onCal (fun q => { q with recordDue := true }) else s
  s.kmpEvent 0x8901 (leBytes 1 s.node ++ leBytes 1 result) none

/-- PARK is entered: a record is due (R675). -/
def State.calPark (s : State) : State :=
  (s.onCal (fun q => { q with recordDue := true })).trimWrite

/-- The run goes on when its tasks have ended: task 2 after 1, 3 after 2, then tasks 4 and 5 together (R672). -/
def State.calNext (s : State) : State :=
  if s.cal.tasks.any (fun t => !t.todo.isEmpty) then s
  else match s.cal.tasks with
    | [] => s
    | t :: _ =>
      let new (k p : Nat) : CalTask := { task := k, port := p, since := s.now, todo := s.calTodo k p }
      if t.task = 1 || t.task = 2 then s.onCal (fun q => { q with tasks := [new (t.task + 1) 0] })
      else if t.task = 3 then
        s.onCal (fun q => { q with tasks := (List.range 4).map (new 4) ++ (List.range 6).map (new 5) })
      else s.calEnd

/-! ### Steps (R663 to R670) -/

/-- The bandgap code for a temperature in 0.1 °C: between the fused points, to nearest (R665). -/
def bgTarget (t : Int) : Int :=
  let seg (a b : Nat) (t0 t1 : Int) : Int :=
    roundDiv ((a : Int) * (t1 - t0) + ((b : Int) - a) * (t - t0)) (t1 - t0)
  if t < 250 then seg (Config.bgPoint 0) (Config.bgPoint 1) (-400) 250
  else if t < 850 then seg (Config.bgPoint 1) (Config.bgPoint 2) 250 850
  else seg (Config.bgPoint 2) (Config.bgPoint 3) 850 1250

/-- The trim register and field of a lane. -/
def trimFld (task port lane what : Nat) : Fld :=
  if task = 4 then ⟨0x23001140 + 0x20 * port + 4 * lane, if what = 0 then 0 else 8, if what = 0 then 6 else 5⟩
  else ⟨0x23001200 + 0x10 * port + 4 * lane, 8 * what, if what = 1 then 4 else 5⟩

/-- The step count that a measurement asks for; zero where the trim is in band. For TERM the measurement is the replica count, for
SKEW the count of the delay line, for AMP the replica swing in mV, for CTLE and DFE the code wanted (R663, R664, Table 23-3). SKEW is
kept at its boot count, the first one measured; one code step at a time, and a higher count asks for more delay (log entry 45). -/
def State.calSteps (s : State) (task port lane what : Nat) (n : Int) : Int :=
  let f := trimFld task port lane what
  let code : Int := if task = 5 && what = 2 then signed 5 (s.get f) else s.get f
  if task = 4 && what = 0 then
    let t : Int := Config.termCount port lane
    if decide (100 * (n - t) ≤ t) && decide (-t ≤ 100 * (n - t)) then 0 else roundDiv ((n - t) * 1000) (6 * t)
  else if task = 4 then
    match tblGet (fun _ => none) s.cal.skewBoot (8 * port + lane) with
    | none => 0
    | some b =>
      if decide (100 * (n - b) ≤ b) && decide (-(b : Int) ≤ 100 * (n - b)) then 0 else if (b : Int) < n then 1 else -1
  else if what = 0 then (if decide (2 * (n - 800) ≤ 25) && decide (-25 ≤ 2 * (n - 800)) then 0 else if n < 800 then 1 else -1)
  else clampTo 1 (n - code)

/-- Pre-cursor and post-cursor of a transmit preset, in hundredths of the full swing (Table 23-2). -/
def presetTaps (k : Nat) : Int × Int :=
  [((0 : Int), (0 : Int)), (0, -10), (0, -20), (0, -30), (-5, -10), (-5, -20), (-10, -20), (-10, -30)].getD k (0, 0)

/-- The taps of a port's transmit filter, pre, main and post, in hundredths: the main tap is what the others leave (R662). -/
def State.txTaps (s : State) (p : Nat) : Int × Int × Int :=
  let (pre, post) := presetTaps (s.get (fPreset p))
  (pre, 100 - pre.natAbs - post.natAbs, post)

/-- The differential peak-to-peak swing of a link lane before the filter, in tenths of a mV (R663). -/
def State.txSwing (s : State) (p lane : Nat) : Nat := 6000 + 125 * s.get (trimFld 5 p lane 0)

/-- The nominal termination of a D-PHY lane, in tenths of an ohm (R664). -/
def State.termOhms (s : State) (p lane : Nat) : Nat := 820 + 6 * s.get (trimFld 4 p lane 0)

/-- The window of a task's port is open (R668, R669). `window` says that a lane-level pair of an ACTIVE port follows 16 periods
without data. -/
def State.calWindow (s : State) (task port : Nat) (window : Bool) : Bool :=
  if task = 4 then
    s.get (fCamEn port) = 0 ||
      (s.get (fCamRx port) = 1 && (match (s.cam port).blank with | some (_, close) => decide (s.ctNs + 2000 ≤ close) | none => false))
  else
    let st := s.get (fLnkState port)
    st = 0 || st = 1 || (st = 4 && window)

/-- The window that is open on a task's port: a blanking by its close, a lane-level pair by its instant. While EN = 0 a D-PHY port is
always in a window, and each measurement has a window of its own (R668, R669). -/
def State.windowId (s : State) (task port : Nat) : Option Nat :=
  if task = 4 then (if s.get (fCamEn port) = 0 then none else (s.cam port).blank.map (fun x => x.2)) else some s.now

/-- Steps that a lane may still take in the window that is open: 4 of a D-PHY lane, each begun with 2 us left, and 1 of a link lane
(R664, R668, R669). -/
def State.calLeft (s : State) (t : CalTask) (lane : Nat) : Nat :=
  let w := s.windowId t.task t.port
  let used := if w.isSome && t.winAt = w then ((t.used.filter (fun x => x.1 = lane)).map (fun x => x.2)).foldl (· + ·) 0 else 0
  if t.task = 4 then
    match w with
    | some close => min (4 - used) ((close - s.ctNs) / 1000 - 1)
    | none => 4
  else 1 - used

/-- A port task has a step to make now: in a window, or one forced step per 5 ms where no window comes; link tasks wait in ALIGN,
EQUALIZE and RETRAIN. The answer is the number of steps it may take (R668 to R670). -/
def State.calMay (s : State) (t : CalTask) (lane : Nat) (window : Bool) : Nat :=
  let st := s.get (fLnkState t.port)
  let spaced := match t.lastForced with | some x => decide (x + 5 * ms ≤ s.now) | none => true
  if s.calWindow t.task t.port window then s.calLeft t lane
  else if t.forced && spaced && (t.task = 4 || st = 4) then 1
  else 0

/-- Change one task of the run. -/
def State.onTask (s : State) (task port : Nat) (f : CalTask → CalTask) : State :=
  s.onCal (fun q => { q with tasks := q.tasks.map (fun t => if t.task = task && t.port = port then f t else t) })

/-- Apply steps to a lane's trim: the code stops at the end of its range (R664, R672). -/
def State.calApply (s : State) (t : CalTask) (lane what : Nat) (k : Int) (window : Bool) : State :=
  let f := trimFld t.task t.port lane what
  let dfe : Bool := t.task = 5 && what = 2
  let code : Int := if dfe then signed 5 (s.get f) else s.get f
  let lo : Int := if dfe then -16 else 0
  let hi : Int := if dfe then 15 else 2 ^ f.w - 1
  let new := max lo (min hi (code + k))
  let railed : Bool := new ≠ code + k
  let once : Bool := t.task = 5 && decide (1 ≤ what)
  let s := s.set f (unsigned f.w new)
  let s := if railed then s.onCal (fun q => { q with wasRailed := true }) else s
  let open_ := s.calWindow t.task t.port window
  let s := if open_ then s else ((s.bump 0x23001010).onCal (fun q => { q with wasForced := true }))
  let w := if open_ then s.windowId t.task t.port else t.winAt
  s.onTask t.task t.port (fun t => { t with
    winAt := w, used := (if t.winAt = w then t.used else []) ++ [(lane, k.natAbs)]
    todo := if railed || once then t.todo.filter (fun x => x ≠ (lane, what)) else t.todo
    forced := t.forced && !open_, since := if open_ then s.now else t.since, lastForced := if open_ then t.lastForced else some s.now })

/-- The read-assist band of a temperature. -/
def raBand (t : Int) : Nat := ((List.range 7).filter (fun k => decide (Config.raEdge k ≤ t))).length

/-- The read-assist level that task 2 applies: that of the band of the hottest sensor; it changes only when the temperature has passed
the band's edge by 4 °C (R665). The band in force is the first with the level in force. -/
def State.raWanted (s : State) : Nat :=
  let t := s.hottest
  let level (b : Nat) : Nat := (Config.raLevel b).toNat
  match (List.range 8).find? (fun b => level b = s.get ⟨0x23001104, 0, 3⟩) with
  | none => level (raBand t)
  | some b => if b < raBand (t - 40) then level (raBand (t - 40)) else if raBand (t + 40) < b then level (raBand (t + 40)) else level b

/-- Tasks 1 to 3: BG moves by one code per 10 us, SRAM_RA takes its level, ROOT_MARGIN is read (R665, R666). -/
def State.calFirst (s : State) (task : Nat) (n : Int) : State :=
  let done (s : State) : State := s.onTask task 0 (fun t => { t with todo := [] })
  if task = 1 then
    let code : Int := s.get ⟨0x23001100, 0, 6⟩
    let want : Int := max 0 (min 63 (bgTarget (s.temp 0)))
    let near := s.cal.tasks.any (fun t => match t.stepAt with | some x => decide (s.now < x + 10 * us) | none => false)
    if code = want then done s
    else if near then s
    else
      let s := (s.set ⟨0x23001100, 0, 6⟩ (code + clampTo 1 (want - code)).toNat).onTask 1 0 (fun t => { t with stepAt := some s.now })
      if (s.get ⟨0x23001100, 0, 6⟩ : Int) = want then done s else s
  else if task = 2 then done (s.set ⟨0x23001104, 0, 3⟩ s.raWanted)
  else
    let s := s.set fCalMargin n.toNat
    done (if n < 10 then s.event 0x23001008 4 else s)

/-- A step of a calibration task: `n` is what the task has measured (R663 to R669). -/
def State.calStep (s : State) (task port lane what : Nat) (n : Int) (window : Bool) : State :=
  match s.cal.tasks.find? (fun t => t.task = task && (t.port = port || decide (task ≤ 3)) && (decide (task ≤ 3) || t.todo.contains (lane, what))) with
  | none => s
  | some t =>
    (if task ≤ 3 then s.calFirst task n
    else
      let k := s.calSteps task port lane what n
      let m := s.calMay t lane window
      let first : Bool := task = 4 && what = 1 && (tblGet (fun _ => none) s.cal.skewBoot (8 * port + lane)).isNone
      let s := if first then s.onCal (fun q => { q with skewBoot := tblSet (fun _ => none) q.skewBoot (8 * port + lane) (some n.toNat) }) else s
      if k = 0 then s.onTask task port (fun t => { t with todo := t.todo.filter (fun x => x ≠ (lane, what)) })
      else if m = 0 then s
      else s.calApply t lane what (clampTo m k) window).calNext

/-- A calibration task applies trim steps (R668, R669). -/
def execCalTaskStep (task : Fin 5) (port : Fin 6) (lane : Fin 5) (what : Fin 3) (n : Int) (window : Bool) (s : State) : Out := s.run (fun s =>
  .next (s.calStep (task + 1) port lane what n window))

/-- A task that has waited 250 ms for a window becomes forced (R670). -/
def execCalForce (task : Fin 5) (port : Fin 6) (s : State) : Out := s.run (fun s =>
  .next (
    match s.cal.tasks.find? (fun t => t.task = task.val + 1 && t.port = port.val && decide (4 ≤ t.task)) with
    | some t =>
      if decide (t.since + 250 * ms ≤ s.now) && !t.todo.isEmpty && !t.forced then
        ((s.onTask t.task t.port (fun t => { t with forced := true })).onCal (fun q => { q with wasForced := true })).event 0x23001008 2
      else s
    | none => s))

/-! ### Commands (R677) -/

/-- CAL_STATUS (Table 23-5). -/
def execCalStatus (r : Req) (s : State) : Out := s.run (fun s =>
  s.serve r (fun s =>
    let n := byteAt r.data 0
    if r.data.length ≠ 1 then s.respond r 0x0109 []
    else s.onNode r n (fun s =>
      if n = s.node then
        s.respond r 0 (leBytes 1 (s.get fCalBusy) ++ leBytes 1 (s.get fCalResult) ++ leBytes 1 (s.get fCalMargin) ++ leBytes 1 0 ++
          leBytes 4 (s.reg 0x2300100C).toNat ++ leBytes 4 (s.reg 0x23001010).toNat ++
          (List.range 8).flatMap (fun i => leBytes 2 (s.get ⟨aTRef i, 0, 16⟩)))
      else
        let (s, bs) := (s.emit (.order n 0x0900 r.data)).foreign 28
        s.respond r 0 bs)))

/-- CAL_RUN: 0x0901 during a run. -/
def execCalRun (r : Req) (s : State) : Out := s.run (fun s =>
  s.serve r (fun s =>
    let n := byteAt r.data 0
    if r.data.length ≠ 1 then s.respond r 0x0109 []
    else s.onNode r n (fun s =>
      if n ≠ s.node then (s.emit (.order n 0x0901 r.data)).respond r 0 []
      else if s.get fCalBusy = 1 then s.respond r 0x0901 []
      else s.calTrigger.respond r 0 [])))

/-- CAL_CONFIG: AUTO, DT and the Ethernet timestamp trims. -/
def execCalConfig (r : Req) (s : State) : Out := s.run (fun s =>
  s.serve r (fun s =>
    let n := byteAt r.data 0
    let dt := byteAt r.data 2
    if r.data.length ≠ 12 || dt < 4 || 16 < dt then s.respond r 0x0109 []
    else s.onNode r n (fun s =>
      if n ≠ s.node then (s.emit (.order n 0x0902 r.data)).respond r 0 []
      else
        let s := (s.set fCalAuto (byteAt r.data 1 % 2)).set fCalDt dt
        let s := s.putReg s.firmware false 0x23001280 (BitVec.ofNat 32 (fieldAt r.data 4 4))
        (s.putReg s.firmware false 0x23001284 (BitVec.ofNat 32 (fieldAt r.data 8 4))).respond r 0 [])))

end Sys2Proof.Machine
end

