-- ==== Sys2Proof/Machine/Power.lean ====
section
/-! DEFINITION. Power: the modes ACTIVE, IDLE and PARK, the governor and telemetry (24). -/

namespace Sys2Proof.Machine

/-- `PWR_POWER_MW`. -/
def aPower : Nat := 0x23002020
/-- PMAX in mW. -/
def fPmax : Fld := ⟨0x23002024, 0, 16⟩
/-- T_THR in °C. -/
def fThr : Fld := ⟨0x23002024, 16, 8⟩
/-- LEVEL, THERMAL and LIMIT of `PWR_GOV_STAT`. -/
def fLevel : Fld := ⟨0x23002028, 0, 3⟩
/-- THERMAL. -/
def fThermal : Fld := ⟨0x23002028, 8, 1⟩
/-- LIMIT. -/
def fLimit : Fld := ⟨0x23002028, 9, 1⟩
/-- `PWR_EVT`: LEVEL_CHG, LIMIT, MODE_CHG, CORE_RST_DONE. -/
def aPwrEvt : Nat := 0x2300202C

/-! ### The governor (R703 to R707) -/

/-- A write of `PWR_GOV_CTL`: PMAX above 10,000 takes 10,000 (Table 24-7). -/
def State.govWrite (s : State) (v : Word) : State := s.setReg 0x23002024 (v &&& 0xFF0000#32 ||| BitVec.ofNat 32 (min 10000 (v.toNat % 65536)))

/-- The power fields of the record reach the governor (R519, R704). -/
def State.govRecord (s : State) : State :=
  if s.cfgField 180 2 = 0 then s else s.govWrite (BitVec.ofNat 32 (s.cfgField 180 2 + 65536 * s.cfgField 182 1))

/-- Every 100 us: an estimate, and the average of the last 1 ms, rounded to nearest (R703, R263). -/
def execGovernorEstimate (mw : Nat) (s : State) : Out := s.run (fun s =>
  .next (
    if s.now < s.pwr.estAt + 100 * us then s
    else
      let xs := (mw :: s.pwr.ests).take 10
      (s.onPwr (fun p => { p with estAt := s.now, ests := xs })).setReg aPower
        (BitVec.ofNat 32 (min 65535 (roundDiv (xs.foldl (· + ·) 0 : Nat) xs.length).toNat))))

/-- GOVERNOR for the level in force, at most once per 100 ms (R707). -/
def State.govReport (s : State) : State :=
  let near := match s.pwr.reportAt with | some t => decide (s.now < t + 100 * ms) | none => false
  if !s.pwr.reportDue || near then s
  else
    (s.onPwr (fun p => { p with reportDue := false, reportAt := some s.now })).kmpEvent 0x8A01
      (leBytes 1 s.node ++ leBytes 4 (s.reg aPower).toNat ++ leBytes 1 (s.get fLevel)) none

/-- The level that follows the one in force: a step up above PMAX or at T_THR, else a step down after 10 ms below both margins
(R704). -/
def State.nextLevel (s : State) : Nat :=
  let l := s.get fLevel
  if decide (s.get fPmax < (s.reg aPower).toNat) || decide ((10 * s.get fThr : Int) ≤ s.hottest) then min 7 (l + 1)
  else if 10 ≤ s.pwr.calm then l - 1
  else l

/-- Every 1 ms the throttle level changes by at most one step (R704, R707). -/
def execGovernorStep (s : State) : Out := s.run (fun s =>
  .next (
    if s.now < s.pwr.stepAt + ms then s
    else
      let mw := (s.reg aPower).toNat
      let old := s.get fLevel
      let hot : Bool := decide ((10 * s.get fThr : Int) ≤ s.hottest)
      let calm : Bool := decide (mw + 300 < s.get fPmax) && decide (s.hottest < (10 * s.get fThr : Int) - 50)
      let s := s.onPwr (fun p => { p with stepAt := s.now, calm := if calm then p.calm + 1 else 0 })
      let s := if 0 < old then s.bump 0x23002030 else s
      let new := s.nextLevel
      let s := if old < new then s.set fThermal (b2n hot) else s
      let s := if old = new then s
        else (((s.set fLevel new).event aPwrEvt 1).onPwr (fun p =>
          { p with reportDue := true, limitFrom := if new = 7 then some s.now else none })).set fLimit 0
      s.govReport))

/-- 100 ms at level 7 with the average above PMAX (R707). -/
def execGovernorLimit (s : State) : Out := s.run (fun s =>
  .next (match s.pwr.limitFrom with
    | some t =>
      if s.get fLevel = 7 && decide (t + 100 * ms ≤ s.now) && decide (s.get fPmax < (s.reg aPower).toNat) then
        (s.set fLimit 1).event aPwrEvt 2
      else s
    | none => s))

/-! ### IDLE (R698) -/

/-- A core holds a context. -/
def State.holdsContext (s : State) (c : Nat) : Bool := s.get (fTenant c) ≠ 7 || s.get (fSeqState c) ≠ 0

/-- What boundary(n) does to IDLE: the chip enters it after one whole epoch without a context, when no staged region, one that is
enabled and not yet locked by its switch, exists (R567, R698). -/
def State.idleBoundary (s : State) : State :=
  let staged (c r : Nat) : Bool := (s.rgn c r).en && !(s.rgn c r).lock
  let busy := (List.range 8).any (fun c => s.holdsContext c || (List.range 8).any (staged c))
  let s := s.onPwr (fun p => { p with idleEpochs := if busy then 0 else p.idleEpochs + 1 })
  if s.get fMode = 0 && decide (2 ≤ s.pwr.idleEpochs) && s.firmwareUp then
    let s := s.gateWrite (s.reg aGate &&& 0xFF00#32)
    let s := s.setReg aGateStat (s.reg aGateStat &&& 0xFF00#32)
    s.mode 1
  else s

/-! ### PARK (R699 to R702) -/

/-- The lowest epoch at least 2 ahead that follows every pending switch, commit and the epoch given. -/
def State.parkLead (s : State) (after : Nat) : Nat :=
  let m := max (s.tim.epoch + 2) after
  let m := (s.con.models.filter (fun x => x.phase = 3)).foldl (fun m x => max m (x.goAt + 1)) m
  let m := s.con.commits.foldl (fun m c => if c.2.st = 3 then max m (c.2.s_ + 1) else m) m
  s.plans.foldl (fun m p => p.2.pend.foldl (fun m q => max m (q.1 + 1)) m) m

/-- The pole sends an epoch to every member by path 3. -/
def State.parkOrder (s : State) (code n : Nat) : State :=
  (nodesOf (without s.loss.members s.node)).foldl (fun s k => s.emit (.order k code (leBytes 8 n))) s

/-- PARK_REQ has held a level for 1 s (R699, R700, R702, R710): no sample has shown the other level meanwhile. Only the pole acts, and only
where the record names the line. -/
def execParkReqDebounce (level : Bool) (s : State) : Out := s.run (fun s =>
  .next (
    let b := s.cfgField 183 1
    let on : Bool := level == bit b 1
    let held := match s.pwr.parkSince with | some t => s.pwr.parkLevel == level && decide (t + 1000 * ms ≤ s.now) | none => false
    if !s.isPole || !bit b 0 || !held || s.pwr.parkReq = on then s
    else if on then
      let p := s.parkLead 0
      ((s.onPwr (fun q => { q with parkReq := true, parkEpoch := some p, exitEpoch := none, exitReady := false })).parkOrder 0x40 p)
    else
      let x := s.parkLead (match s.pwr.parkEpoch with | some p => p + 1 | none => 0)
      (s.onPwr (fun q => { q with parkReq := false, exitEpoch := some x, exitReady := false })).parkOrder 0x41 x))

/-- A pair holds a region with PWR = 1, enabled or not (R158, R170). -/
def State.retains (s : State) (c pair : Nat) : Bool :=
  (List.range 8).any (fun r =>
    let g := s.rgn c r
    decide (0 < g.size) && g.retain && decide (g.pair0 ≤ pair) && decide (pair < g.pair0 + g.pairs))

/-- Services, cameras and feeds stop and are remembered (R700, steps 1 and 2). -/
def State.parkStop (s : State) : State :=
  let svc := (s.con.services.filter (fun v => v.started)).map (fun v => v.id)
  let cams := (List.range 4).filter (fun p => s.get (fCamEn p) = 1)
  let feeds := (List.range 8).filter (fun f => s.get (fFeedEn f) = 1)
  let mask (xs : List Nat) : Nat := xs.foldl (fun m i => m ||| 2 ^ i) 0
  let s := svc.foldl (fun s i => match s.service i with | some v => s.stopService v | none => s) s
  let s := (List.range 8).foldl (fun s c => s.haltCore c) s
  let s := cams.foldl (fun s p => s.camStop p) s
  let s := feeds.foldl (fun s f => s.feedEnWrite f false) s
  s.onPwr (fun p => { p with parkedSvc := svc, parkedCams := mask cams, parkedFeeds := mask feeds })

/-- Steps 3 to 5 of PARK entry, once no calibration runs: the trim record, the pairs, the cores (R700). -/
def State.parkDown (s : State) : State :=
  let s := s.calPark
  let s := s.onPwr (fun p => { p with parkedPairs := (List.range 8).map (fun c => (s.reg (palReg c 8)).toNat) })
  let s := (List.range 8).foldl (fun s c =>
    s.bankPower c (((List.range 16).filter (fun p => s.retains c p && bit (s.reg (palReg c 8)).toNat p)).foldl (fun m p => m ||| 2 ^ p) 0)) s
  let s := s.setReg aGateStat (s.reg aGateStat &&& 0xFF00#32)
  (s.onPwr (fun p => { p with parkCal := false })).mode 2

/-- Entry to PARK at boundary(P) (R700): a core reset in progress completes first (R710), and a calibration run completes before the
trim record is written (R679). -/
def State.parkEnter (s : State) : State :=
  let s := ((List.range 8).filter (fun c => s.get (fCoreRst c) = 1)).foldl (fun s c =>
    (((s.zeroScratch c).set (fCoreRst c) 0).event aPwrEvt 8).onPwr (fun p => { p with coreRst := tblSet (fun _ => none) p.coreRst c none })) s
  let s := s.parkStop.onPwr (fun p => { p with parkEpoch := none, parkHeld := false })
  if s.get fCalBusy = 1 then s.onPwr (fun p => { p with parkCal := true }) else s.parkDown

/-- A core powers up: its registers but PAL_ take their reset values, its slots are EMPTY, its scratch memories are zero (R701,
R702). -/
def State.coreUp (s : State) (c : Nat) : State :=
  let s := (s.zeroScratch c).resetRegs (dmaReg c 0) (tgReg c 0x1000)
  (s.setCore c {}).setReg aGateStat (s.reg aGateStat ||| BitVec.ofNat 32 (2 ^ c))

/-- Plans that run on this chip. -/
def State.plansHere (s : State) : List Nat :=
  (s.plans.filter (fun p => p.2.end_.isNone && bit p.2.nodes s.node)).map (fun p => p.1)

/-- Write again the sections of a plan that lay in regions with PWR = 0: from the store where this chip holds the package; bytes that
another chip's store supplies are free values (R558, R702). -/
def State.rewrite (s : State) (plan : Nat) (h : Config.Share) : State :=
  let dropped (c off : Nat) : Bool := match s.rgnAt c off with | some r => !(s.rgn c r).retain | none => false
  match s.planModel plan with
  | some m => ((m.bodies s.node).filter (fun x => dropped x.1 x.2.1)).foldl (fun (s : State) (x : Nat × Nat × List Byte) => s.ingressPut x.1 x.2.1 x.2.2) s
  | none => (h.bodies.filter (fun x => dropped x.1 x.2.1)).foldl (fun (s : State) (x : Nat × Nat × Nat × Nat) =>
      let (s, bs) := s.foreign x.2.2.1
      s.ingressPut x.1 x.2.1 bs) s

/-- Restore a plan for boundary(X) (R702). -/
def State.restore (s : State) (x plan : Nat) : State :=
  let h := s.share plan (s.shareSel plan)
  if !h.present then s
  else
    let s := h.regions.foldl (fun (s : State) (r : Nat × Nat × Nat × Nat × Nat) =>
      let g := s.rgn r.1 r.2.1
      s.powerNow r.1 ((List.range g.pairs).map (fun i => g.pair0 + i))) s
    ((((s.rewrite plan h).stageLists h).loadTables h).1.giveCores h).armLists h x

/-- At least 5 ms before boundary(X) the chip prepares its exit (R702). -/
def execParkExitPrepare (s : State) : Out := s.run (fun s =>
  .next (match s.pwr.exitEpoch with
    | some x =>
      if s.get fMode = 2 && !s.pwr.exitReady && decide (s.ctNs + 5000000 ≤ s.boundary x) then
        let s := (List.range 8).foldl (fun s c => (s.coreUp c).bankPower c (s.pwr.parkedPairs.getD c 0)) s
        let s := s.plansHere.foldl (fun s p => s.restore x p) s
        s.onPwr (fun p => { p with exitReady := true })
      else s
    | none => s))

/-- Exit from PARK at boundary(X): cameras, feeds and instances start again (R702). A chip that is not armed reports itself lost with
a reason that the spec does not give (Table 24-9). -/
def State.parkLeave (s : State) : State :=
  let p := s.pwr
  let s := s.onPwr (fun p => { p with exitEpoch := none, exitReady := false, parkedSvc := [], parkedCams := 0, parkedFeeds := 0, parkedPairs := [], parkCal := false })
  if p.exitReady then
    let s := s.mode 0
    let s := ((List.range 4).filter (bit p.parkedCams)).foldl (fun s c => s.camStart c) s
    let s := ((List.range 8).filter (bit p.parkedFeeds)).foldl (fun s f => s.feedEnWrite f true) s
    p.parkedSvc.foldl (fun s i => match s.service i with | some v => s.startService v | none => s) s
  else
    let (s, why) := s.freeNat
    s.selfLoss (why % 256)

/-- What boundary(n) does to PARK. -/
def State.parkBoundary (s : State) (n : Nat) : State :=
  let s := if s.pwr.parkEpoch = some n && s.get fMode ≠ 2 then
      (if s.clearBusy then s.onPwr (fun p => { p with parkHeld := true }) else s.parkEnter)
    else s
  if s.pwr.exitEpoch = some n && (s.get fMode = 2 || s.pwr.parkCal) then s.parkLeave else s

/-! ### Telemetry (R708) -/

/-- TELEMETRY (Table 24-6). -/
def execTelemetry (r : Req) (s : State) : Out := s.run (fun s =>
  s.serve r (fun s =>
    let n := byteAt r.data 0
    if r.data.length ≠ 1 then s.respond r 0x0109 []
    else s.onNode r n (fun s =>
      if n = s.node then
        s.respond r 0 (
          (List.range 8).flatMap (fun i => leBytes 2 (s.get ⟨0x24000060 + 4 * i, 0, 16⟩)) ++
          (List.range 7).flatMap (fun i => leBytes 2 (s.get ⟨0x24000040 + 4 * i, 0, 16⟩)) ++ leBytes 2 0 ++
          leBytes 4 (s.reg aPower).toNat ++ leBytes 1 (s.get fLevel) ++ leBytes 1 (s.get fMode) ++
          leBytes 1 (s.get fThermal + 2 * s.get fLimit) ++ leBytes 1 0 ++ leBytes 4 (s.reg 0x23002030).toNat ++
          leBytes 4 (s.reg 0x23002000).toNat ++ leBytes 4 (s.reg 0x23002008).toNat)
      else
        let (s, bs) := (s.emit (.order n 0x0A03 r.data)).foreign 52
        s.respond r 0 bs)))

end Sys2Proof.Machine
end

