-- ==== Sys2Proof/Machine/Peri.lean ====
section
/-! DEFINITION. Peri: the MDIO, QSPI, I²C and UART controllers, the input lines, and the test access port (R722 to R726, R759 to
R762). -/

namespace Sys2Proof.Machine

/-- Change the peripherals. -/
def State.onPer (s : State) (f : PeriState → PeriState) : State := { s with per := f s.per }

/-- The bytes of `n` bytes of buffer words from an address (Table 25-9). -/
def State.bufBytes (s : State) (a n : Nat) : List Byte :=
  ((List.range ((n + 3) / 4)).flatMap (fun i => leBytes 4 (s.reg (a + 4 * i)).toNat)).take n

/-- Write bytes into buffer words; the rest of a last word stays. -/
def State.setBuf (s : State) (a : Nat) (bs : List Byte) : State :=
  (List.range ((bs.length + 3) / 4)).foldl (fun s i =>
    let new := (bs.drop (4 * i)).take 4
    let old := (leBytes 4 (s.reg (a + 4 * i)).toNat).drop new.length
    s.setReg (a + 4 * i) (BitVec.ofNat 32 (leNat (new ++ old)))) s

/-! ### MDIO (R722) -/

/-- `PER_MDIO_CMD` is written. -/
def State.mdioWrite (s : State) (v : Word) : State :=
  let s := s.setReg 0x22002000 (v &&& 0x1FFF#32)
  if v.getLsbD 31 && s.per.mdio.isNone then
    ((s.onPer (fun p => { p with mdio := some (v.toNat % 8192) })).set ⟨0x22002004, 16, 1⟩ 1).emit
      (.mdio (v.toNat % 8192) ((s.reg 0x22002004).toNat % 65536))
  else s

/-- `PER_MDIO_CMD` is written (R722). -/
def execMdioGo (v : Word) (s : State) : Out := s.run (fun s => .next (s.mdioWrite v))

/-- A frame reads: Clause 22 with OP 2, Clause 45 with OP 2 or 3 (Table 25-7). -/
def mdioReads (cmd : Nat) : Bool := bits cmd 10 2 = 2 || (bit cmd 12 && bits cmd 10 2 = 3)

/-- The frame ends. A turnaround that no PHY drives reads 0xFFFF (R722). -/
def execMdioDone (driven : Bool) (rd : BitVec 16) (s : State) : Out := s.run (fun s =>
  .next (match s.per.mdio with
    | none => s
    | some cmd =>
      let s := (s.onPer (fun p => { p with mdio := none })).set ⟨0x22002004, 16, 1⟩ 0
      if mdioReads cmd then s.set ⟨0x22002004, 0, 16⟩ (if driven then rd.toNat else 0xFFFF) else s))

/-! ### QSPI (R724) -/

/-- `PER_QSPI_CMD` is written. A read command that matches RD_CMD uses the lane mode and the dummy cycles of the configuration; every
other command is 1-1-1 with none (R724). -/
def State.qspiWrite (s : State) (v : Word) : State :=
  let cfg := (s.reg 0x27000000).toNat
  let s := s.setReg 0x27000004 (v &&& 0x7FFFF#32)
  if v.getLsbD 31 && s.per.qspi.isNone then
    let cmd := v.toNat % 524288
    let data := if bit cmd 9 then s.bufBytes 0x27000100 (min 256 (bits cmd 10 9)) else []
    let rd : Bool := decide (cmd % 256 = bits cfg 8 8) && !bit cmd 9
    let wide := if bit cmd 8 then (if bit cfg 2 then 4 else 3) else 0
    ((s.onPer (fun p => { p with qspi := some cmd })).set ⟨0x2700000C, 0, 1⟩ 1).emit
      (.qspi cmd ((s.reg 0x27000008).toNat % 256 ^ wide) wide (rd && bit cfg 3) (if rd then bits cfg 4 4 else 0) data)
  else s

/-- `PER_QSPI_CMD` is written (R724). -/
def execQspiGo (v : Word) (s : State) : Out := s.run (fun s => .next (s.qspiWrite v))

/-- The command ends: a read has filled the buffer with LEN bytes (R724). -/
def execQspiDone (data : List Byte) (s : State) : Out := s.run (fun s =>
  .next (match s.per.qspi with
    | none => s
    | some cmd =>
      let s := if bit cmd 9 then s else s.setBuf 0x27000100 (fit (min 256 (bits cmd 10 9)) data)
      ((s.onPer (fun p => { p with qspi := none })).set ⟨0x2700000C, 0, 1⟩ 0).event 0x2700000C 2))

/-! ### I2C_4 (R725) -/

/-- `PER_I2C_CMD` is written: GO is ignored with LEN 0, while a transfer runs and with EN = 0. -/
def State.i2cWrite (s : State) (v : Word) : State :=
  let s := s.setReg 0x27001004 (v &&& 0x7FFF#32)
  let cmd := v.toNat % 32768
  let n := min 32 (bits cmd 8 6)
  if v.getLsbD 31 && s.per.i2c.isNone && n ≠ 0 && (s.reg 0x27001000).getLsbD 2 then
    ((s.onPer (fun p => { p with i2c := some cmd })).set ⟨0x27001008, 0, 1⟩ 1).emit
      (.i2c 4 (leBytes 1 (2 * (cmd % 128) + bits cmd 7 1) ++ if bit cmd 7 then [] else s.bufBytes 0x27001020 n) (!bit cmd 14))
  else s

/-- `PER_I2C_CMD` is written (R725). -/
def execI2c4Go (v : Word) (s : State) : Out := s.run (fun s => .next (s.i2cWrite v))

/-- The transfer ends with DONE, NACK or STUCK (R725). -/
def execI2c4Done (nack stuck : Bool) (data : List Byte) (s : State) : Out := s.run (fun s =>
  .next (match s.per.i2c with
    | none => s
    | some cmd =>
      let s := (s.onPer (fun p => { p with i2c := none })).set ⟨0x27001008, 0, 1⟩ 0
      if stuck then s.event 0x27001008 8
      else if nack then s.event 0x27001008 4
      else
        let s := if bit cmd 7 then s.setBuf 0x27001020 (fit (min 32 (bits cmd 8 6)) data) else s
        s.event 0x27001008 2))

/-- SCL of a bus is held low for more than 1 ms: 9 clock pulses and a STOP (R367, R370, R725). Whether they free the bus changes
nothing on the chip. -/
def execI2cStuckBus (b : Fin 5) (_freed : Bool) (s : State) : Out := s.run (fun s =>
  .next (
    if b.val < 4 then s.camStuck b
    else
      let s := (s.emit (.i2c 4 [] true)).event 0x27001008 8
      if s.per.i2c.isSome then (s.onPer (fun p => { p with i2c := none })).set ⟨0x27001008, 0, 1⟩ 0 else s))

/-! ### UART (R723, R726) -/

/-- A register of UART u. -/
def uartReg (u off : Nat) : Nat := 0x27002000 + 0x100 * u + off

/-- The transmit FIFO of a UART. -/
def State.uartTx (s : State) (u : Nat) : List Byte := tblGet (fun _ => []) s.per.uartTx u

/-- The receive FIFO of a UART. -/
def State.uartRx (s : State) (u : Nat) : List Byte := tblGet (fun _ => []) s.per.uartRx u

/-- Replace the transmit FIFO, and show its level. -/
def State.setUartTx (s : State) (u : Nat) (q : List Byte) : State :=
  (s.onPer (fun p => { p with uartTx := tblSet (fun _ => []) p.uartTx u q })).set ⟨uartReg u 0xC, 0, 7⟩ q.length

/-- Replace the receive FIFO, and show its level. -/
def State.setUartRx (s : State) (u : Nat) (q : List Byte) : State :=
  (s.onPer (fun p => { p with uartRx := tblSet (fun _ => []) p.uartRx u q })).set ⟨uartReg u 0xC, 8, 7⟩ q.length

/-- Push a byte into the transmit FIFO; a full one drops it. -/
def State.uartPush (s : State) (u : Nat) (b : Byte) : State :=
  if (s.uartTx u).length < 64 then s.setUartTx u (s.uartTx u ++ [b]) else s.event (uartReg u 0xC) 0x80000

/-- `PER_UART_u_TX` is written. -/
def execUartTxWrite (u : Fin 2) (b : Byte) (s : State) : Out := s.run (fun s => .next (s.uartPush u b))

/-- A read of `PER_UART_u_RX`: the word, and the state with the oldest byte popped. -/
def State.uartPop (s : State) (u : Nat) : State × Word :=
  match s.uartRx u with
  | [] => (s, 0#32)
  | b :: rest => (s.setUartRx u rest, b.setWidth 32 ||| 0x100#32)

/-- `PER_UART_u_RX` is read. -/
def execUartRxRead (u : Fin 2) (s : State) : Out := s.run (fun s => .next (s.uartPop u).1)

/-- A byte is received; a full receive FIFO drops it. -/
def execUartByteReceived (u : Fin 2) (b : Byte) (frameErr parErr : Bool) (s : State) : Out := s.run (fun s =>
  let cfg := (s.reg (uartReg u 0)).toNat
  .next (
    if !bit cfg 0 then s
    else
      let s := if frameErr then s.event (uartReg u 0xC) 0x20000 else s
      let s := if parErr && bit cfg 1 then s.event (uartReg u 0xC) 0x40000 else s
      if (s.uartRx u).length < 64 then s.setUartRx u (s.uartRx u ++ [b]) else s.event (uartReg u 0xC) 0x10000))

/-- The bits of a UART frame: start, 8 data bits, least significant first, the parity bit that the configuration asks for, and one or two
stop bits (Table 25-10). -/
def uartFrame (cfg : Nat) (b : Byte) : List Bool :=
  let data := (List.range 8).map b.getLsbD
  let odd := data.foldl xor false
  [false] ++ data ++ (if bit cfg 1 then [xor odd (bit cfg 2)] else []) ++ (if bit cfg 3 then [true, true] else [true])

/-- The oldest byte of the transmit FIFO has left. -/
def execUartByteSent (u : Fin 2) (s : State) : Out := s.run (fun s =>
  .next (match s.uartTx u with
    | [] => s
    | b :: rest =>
      let cfg := (s.reg (uartReg u 0)).toNat
      if bit cfg 0 then (s.setUartTx u rest).emit (.uart u b (uartFrame cfg b)) else s))

/-! ### Lines -/

/-- A number with bit `i` at a level. -/
def withBit (v i : Nat) (on : Bool) : Nat := if on then v ||| 2 ^ i else v - (if bit v i then 2 ^ i else 0)

/-- An edge on a GPIO pad: PER_GPIO_EVT records it where its edge is enabled. -/
def State.gpioEdge (s : State) (i : Nat) (rise : Bool) : State :=
  let s := s.onPer (fun p => { p with gpioIn := withBit p.gpioIn i rise })
  let k := i + if rise then 0 else 16
  if bit (s.reg 0x2700300C).toNat k then s.event 0x27003010 (2 ^ k) else s

/-- An edge on a GPIO pad (Table 25-10). -/
def execGpioEdge (i : Fin 16) (rise : Bool) (s : State) : Out :=
  .next (if s.pwr.inReset.isSome then s.onPer (fun p => { p with gpioIn := withBit p.gpioIn i rise }) else s.gpioEdge i rise)

/-- `PER_GPIO_OUT` or `PER_GPIO_OE` is written: a line with OE = 1 drives OUT, and its pad follows. -/
def State.gpioWrite (s : State) (a : Nat) (v : Word) : State :=
  let s := s.setReg a (v &&& 0xFFFF#32)
  let out := (s.reg 0x27003000).toNat
  let oe := (s.reg 0x27003004).toNat
  (List.range 16).foldl (fun s i =>
    if bit oe i && bit s.per.gpioIn i ≠ bit out i then (s.emit (.pin ("GPIO_" ++ toString i) (bit out i))).gpioEdge i (bit out i) else s) s

/-- An edge on a door-state input. -/
def execDoorEdge (i : Fin 8) (rise : Bool) (s : State) : Out :=
  let t := s.onPer (fun p => { p with doorIn := withBit p.doorIn i rise })
  .next (if s.pwr.inReset.isSome then t else t.event 0x27004004 (2 ^ (i.val + if rise then 0 else 8)))

/-! ### Test access port (R759 to R762) -/

/-- The 68 pins of the boundary register in ascending ball order (R761): name, whether an output cell acts, and whether it only
pulls low. -/
def scanPins : List (String × Bool × Bool) :=
  [("I2C_0_SCL", true, true), ("MDC", true, false), ("I2C_0_SDA", true, false), ("UART_0_TX", true, false),
   ("MDIO", true, false), ("I2C_1_SCL", true, true), ("UART_0_RX", false, false), ("QSPI_SCK", true, false),
   ("I2C_1_SDA", true, false), ("UART_1_TX", true, false), ("QSPI_CS_N", true, false), ("UART_1_RX", false, false),
   ("QSPI_IO_0", true, false), ("I2C_4_SCL", true, true), ("QSPI_IO_1", true, false), ("I2C_4_SDA", true, false),
   ("QSPI_IO_2", true, false), ("QSPI_IO_3", true, false), ("SPI_SCK", false, false), ("SPI_CS_N", false, false),
   ("SPI_MOSI", false, false), ("SPI_MISO", true, false), ("HOST_INT_N", true, true), ("RESET_N", false, false),
   ("DOOR_0", false, false), ("GPIO_8", true, false), ("GPIO_0", true, false), ("I2C_2_SCL", true, true),
   ("TEST_EN", false, false), ("DOOR_1", false, false), ("GPIO_9", true, false), ("GPIO_1", true, false),
   ("I2C_2_SDA", true, false), ("NODE_ID_0", false, false), ("DOOR_2", false, false), ("GPIO_10", true, false),
   ("GPIO_2", true, false), ("I2C_3_SCL", true, true), ("NODE_ID_1", false, false), ("DOOR_3", false, false),
   ("GPIO_11", true, false), ("GPIO_3", true, false), ("I2C_3_SDA", true, false), ("NODE_ID_2", false, false),
   ("DOOR_4", false, false), ("GPIO_12", true, false), ("GPIO_4", true, false), ("FSYNC_0", true, false),
   ("NODE_ID_3", false, false), ("DOOR_5", false, false), ("GPIO_13", true, false), ("GPIO_5", true, false),
   ("FSYNC_1", true, false), ("NODE_ID_4", false, false), ("DOOR_6", false, false), ("GPIO_14", true, false),
   ("GPIO_6", true, false), ("FSYNC_2", true, false), ("NODE_ID_5", false, false), ("DOOR_7", false, false),
   ("GPIO_15", true, false), ("GPIO_7", true, false), ("FSYNC_3", true, false), ("POLE_ELIGIBLE", false, false),
   ("OW_VALID_A", true, false), ("BOOT_SRC_0", false, false), ("OW_VALID_B", true, false), ("BOOT_SRC_1", false, false)]

/-- Whether the boundary-scan instructions act (Table 22-1, R759): always outside FIELD; there 1 ms after an unlock with scope
bit 0. -/
def State.scanOpen (s : State) : Bool :=
  s.lifecycle ≠ 2 || ((s.reg aDbg).getLsbD 0 && match s.sec.jtagOpenAt with | some t => decide (t ≤ s.now) | none => true)

/-- The debug instructions act (R647, R759). -/
def State.debugOpen (s : State) : Bool :=
  bits (s.reg aDbg).toNat 1 2 ≠ 0 && match s.sec.jtagOpenAt with | some t => decide (t ≤ s.now) | none => true

/-- Cell `i` of the boundary register. -/
def State.cell (s : State) (i : Nat) : Bool := s.per.cells.getD i false

/-- The pins follow the output cells: a pin drives where its enable cell is 1; an open-drain pin drives low only. -/
def State.drivePins (s : State) : State :=
  (List.range 68).foldl (fun s k =>
    match scanPins[k]? with
    | some (name, out, od) =>
      if out && s.cell (3 * k + 2) && !(od && s.cell (3 * k + 1)) then s.emit (.pin name (s.cell (3 * k + 1))) else s
    | none => s) s

/-- Load an instruction; `drives` and `z` say whether the boundary register takes the pins. -/
def State.tapLoad (s : State) (ir : Nat) (drives z : Bool) : State :=
  s.onPer (fun p => { p with tapIr := ir, drives := drives, highz := z })

/-- A boundary-scan instruction, or BYPASS where it is not allowed (R759). -/
def State.tapScan (s : State) (ir : Nat) (drives z : Bool) : State := if s.scanOpen then s.tapLoad ir drives z else s.tapLoad 0xFF false false

/-- TAP reset loads IDCODE (R759, R762). -/
def execTapReset (s : State) : Out := .next (s.tapLoad 1 false false)

/-- EXTEST: the pins take the boundary register (R761). -/
def execExtest (s : State) : Out :=
  let s := s.tapScan 0 true false
  .next (if s.per.drives then s.drivePins else s)

/-- IDCODE reads 0x1724_096B (R760). -/
def execIdcode (s : State) : Out :=
  .next ((s.tapLoad 1 false false).emit (.tdo ((List.range 32).map (fun i => bit 0x1724096B i))))

/-- The level of a pin as the chip knows it: the GPIO lines, the door inputs, FSYNC and the straps; any other is a free value. -/
def State.pinLevel (s : State) (f k : Nat) : Bool :=
  match scanPins[k]? with
  | some (name, _, _) =>
    match (List.range 16).find? (fun i => name == "GPIO_" ++ toString i) with
    | some i => bit s.per.gpioIn i
    | none => match (List.range 8).find? (fun i => name == "DOOR_" ++ toString i) with
      | some i => bit s.per.doorIn i
      | none => match (List.range 4).find? (fun i => name == "FSYNC_" ++ toString i) with
        | some i => (s.fs i).pin
        | none =>
          let i := ["NODE_ID_0", "NODE_ID_1", "NODE_ID_2", "NODE_ID_3", "NODE_ID_4", "NODE_ID_5", "POLE_ELIGIBLE", "BOOT_SRC_0",
            "BOOT_SRC_1"].findIdx (fun n => n == name)
          if i < 9 then bit s.straps i else bit f k
  | none => false

/-- SAMPLE/PRELOAD captures the pins and the output cells, and shifts new cells in (R761). -/
def execSamplePreload (cells : List Bool) (s : State) : Out :=
  .next (
    if s.scanOpen then
      let (s, f) := s.freeNat
      let taken := (List.range 68).flatMap (fun k => [s.pinLevel f k, s.cell (3 * k + 1), s.cell (3 * k + 2)])
      ((s.tapLoad 2 false false).onPer (fun p => { p with cells := (cells ++ List.replicate 204 false).take 204 })).emit (.tdo taken)
    else s.tapLoad 0xFF false false)

/-- CLAMP holds the pins from the boundary register. -/
def execClamp (s : State) : Out :=
  let s := s.tapScan 4 true false
  .next (if s.per.drives then s.drivePins else s)

/-- HIGHZ takes every pin of the chain to high impedance. -/
def execHighz (s : State) : Out := .next (s.tapScan 5 false true)

/-- BYPASS. -/
def execBypass (s : State) : Out := .next (s.tapLoad 0xFF false false)

/-- A Kereifold debug instruction, codes 0x80 to 0xFE: under a debug unlock the spec gives it no effect, and the model stops;
otherwise, as every other code, it acts as BYPASS (R759). -/
def execDebugInstruction (code : Fin 256) (s : State) : Out :=
  if decide (0x80 ≤ code.val) && decide (code.val ≤ 0xFE) && s.debugOpen then .fault .debugInstruction
  else .next (s.tapLoad 0xFF false false)

end Sys2Proof.Machine
end

