-- ==== Sys2Proof/Machine/Ptp.lean ====
section
/-! DEFINITION. Ptp: vehicle time from an IEEE 1588 master, on the pole's port (R139 to R142). The message layouts are those of
IEEE 1588 (PRESUMED, log entry 37). -/

namespace Sys2Proof.Machine

/-- Change the IEEE 1588 state. -/
def State.onPtp (s : State) (f : Ptp → Ptp) : State := { s with tim := { s.tim with ptp := f s.tim.ptp } }

/-- The pole serves the message: it came by the port and in the domain of PTP_CONFIG, version 2, with its message type. -/
def State.ptpMine (s : State) (e type : Nat) (d : List Byte) : Bool :=
  s.isPole && s.tim.ptp.enabled && decide (e = s.tim.ptp.port) && decide (byteAt d 0 % 16 = type) && decide (byteAt d 1 % 16 = 2) &&
    decide (byteAt d 4 = s.tim.ptp.domain)

/-- correctionField in whole ns, rounded to nearest (R263). -/
def ptpCorrection (d : List Byte) : Int := roundDiv (signed 64 (beAt d 8 8)) 65536

/-- A timestamp of 6 bytes of seconds and 4 of ns at an offset, in ns. -/
def ptpTime (d : List Byte) (off : Nat) : Int := beAt d off 6 * 1000000000 + beAt d (off + 6) 4

/-- The port identity at an offset. -/
def ptpIdentity (d : List Byte) (off : Nat) : List Byte := slice d off 10

/-- 2^log seconds in root-clock cycles. -/
def ptpInterval (log : Int) : Nat := if 0 ≤ log then sec * 2 ^ log.toNat else sec / 2 ^ (-log).toNat

/-- What the best master clock algorithm compares: priority1, class, accuracy, variance, priority2, grandmaster identity,
steps removed, sender (IEEE 1588, 9.3.4). -/
def ptpDataset (d : List Byte) : List Nat :=
  [beAt d 47 1, beAt d 48 1, beAt d 49 1, beAt d 50 2, beAt d 52 1, beAt d 53 8, beAt d 61 2, beAt d 20 10]

/-- The first data set is the better one: of one grandmaster the steps removed and the sender decide. -/
def ptpBetter (a b : List Nat) : Bool :=
  if a.getD 5 0 = b.getD 5 0 then decide (a.drop 6 < b.drop 6) else decide (a < b)

/-- The masters heard within 3 of their announce intervals. -/
def State.ptpAlive (s : State) : List Master := s.tim.ptp.masters.filter (fun m => decide (s.now ≤ m.heard + 3 * m.interval))

/-- The master that the algorithm selects. -/
def State.ptpMaster (s : State) : Option Master :=
  s.ptpAlive.foldl (fun (b : Option Master) m => match b with
    | none => some m
    | some x => if ptpBetter m.dataset x.dataset then some m else b) none

/-- The message comes from the selected master. -/
def State.fromMaster (s : State) (d : List Byte) : Bool := match s.ptpMaster with | some m => m.id == ptpIdentity d 20 | none => false

/-- How far INC lies from nominal, in 0.001 ppm. -/
def State.steering (s : State) : Int := roundDiv (((s.inc : Int) - 10737418240) * 1000000000) 10737418240

/-- INC is set to nominal times 1 + steering * 10^-9. -/
def State.steer (s : State) (x : Int) : State := s.setReg64 0x23000018 (10737418240 + roundDiv (10737418240 * x) 1000000000).toNat

/-- The master's rate against this chip's nominal one, in 0.001 ppm, by two Syncs in turn: what INC would have to be, limited to ±20 ppm
(R141). -/
def State.masterRate (s : State) (t1 t2 : Int) : Int :=
  let p := s.tim.ptp
  if t2 ≤ p.t2 then s.steering else clampTo 20000 (s.steering + roundDiv (((t1 - p.t1) - (t2 - p.t2)) * 1000000000) (t2 - p.t2))

/-- A Sync is complete: origin `t1` and arrival `t2` (R140, R141). VT is PTP time less CT. INC goes from where it stands towards the
master's rate, by at most 1 ppm per second since the last measurement and never by more than 1 ppm at once. How much of that way it
goes, and when the servo counts as locked, are not in the spec: free values. -/
def State.ptpMeasure (s : State) (t1 t2 : Int) : State :=
  let want := s.masterRate t1 t2
  let s := s.onPtp (fun p => { p with t1 := t1, t2 := t2, sync := none })
  match s.tim.ptp.meanDelay with
  | none => s
  | some delay =>
    let (s, f) := s.freeNat
    let p := s.tim.ptp
    let way := clampTo (min 1000 ((s.now - p.steerAt) * 1000 / (1000 * ms))) (want - s.steering)
    let part : Int := (f / 2 % (way.natAbs + 1) : Nat)
    let s := s.onPtp (fun p => { p with vt := t1 + delay - t2, locked := p.locked || f % 2 = 1, steerAt := s.now })
    s.steer (s.steering + way.sign * part)

/-- A Sync arrives: complete in the one-step form, else it waits for its Follow_Up (R139). -/
def execPtpSync (e : Fin 2) (data : List Byte) (s : State) : Out := s.run (fun s =>
  let (s, at_) := s.ethTake e 5 data
  .next (
    if s.ptpMine e 0 data && s.fromMaster data then
      let s := s.onPtp (fun p => { p with lastSync := some s.now })
      if bit (byteAt data 6) 1 then
        s.onPtp (fun p => { p with sync := some (beAt data 30 2, ((at_ : Int) - ptpCorrection data).toNat) })
      else s.ptpMeasure (ptpTime data 34 + ptpCorrection data) at_
    else s))

/-- A Follow_Up gives the origin of the Sync with its sequence ID (R139). -/
def execPtpFollowUp (e : Fin 2) (data : List Byte) (s : State) : Out := s.run (fun s =>
  let (s, _) := s.ethTake e 6 data
  .next (match s.tim.ptp.sync with
    | some (n, t2) =>
      if s.ptpMine e 8 data && s.fromMaster data && decide (beAt data 30 2 = n) then s.ptpMeasure (ptpTime data 34 + ptpCorrection data) t2
      else s
    | none => s))

/-- An Announce enters the selection of the master; one that has passed 255 clocks does not (R139). -/
def execPtpAnnounce (e : Fin 2) (data : List Byte) (s : State) : Out := s.run (fun s =>
  let (s, _) := s.ethTake e 6 data
  .next (
    if s.ptpMine e 0xB data && decide (beAt data 61 2 < 255) then
      let m : Master :=
        { dataset := ptpDataset data, port := e, id := ptpIdentity data 20, interval := ptpInterval (signed 8 (byteAt data 33)), heard := s.now }
      s.onPtp (fun p => { p with masters := m :: s.ptpAlive.filter (fun x => x.id ≠ m.id) })
    else s))

/-- This clock's port identity: the EUI-64 of the station address, port 1. -/
def State.ptpId (s : State) (e : Nat) : List Byte :=
  let m := beBytes 6 (s.mac e)
  m.take 3 ++ [0xFF#8, 0xFE#8] ++ m.drop 3 ++ beBytes 2 1

/-- The pole sends a Delay_Req to the selected master's domain; its departure is timestamped as it leaves (R139, R140). -/
def execPtpDelayReqSend (s : State) : Out := s.run (fun s =>
  let p := s.tim.ptp
  .next (
    if s.isPole && p.enabled && s.ptpMaster.isSome then
      let n := (p.delaySeq + 1) % 65536
      let msg := beBytes 1 1 ++ beBytes 1 2 ++ beBytes 2 44 ++ beBytes 1 p.domain ++ beBytes 15 0 ++ s.ptpId p.port ++ beBytes 2 n ++
        beBytes 1 1 ++ beBytes 1 0x7F ++ beBytes 10 0
      let tag := if s.cfgField 3243 1 % 2 = 1 then s.portTag p.port else none
      (s.onPtp (fun p => { p with delaySeq := n, delayReq := some (n, s.ctNs) })).udpSend p.port 16 0xE0000181 319 319 64 0 tag msg
    else s))

/-- A Delay_Resp to this clock's Delay_Req: the mean path delay from the four times (R139). -/
def execPtpDelayResp (e : Fin 2) (data : List Byte) (s : State) : Out := s.run (fun s =>
  let (s, _) := s.ethTake e 6 data
  .next (match s.tim.ptp.delayReq with
    | some (n, t3) =>
      if s.ptpMine e 9 data && s.fromMaster data && decide (beAt data 30 2 = n) && ptpIdentity data 44 == s.ptpId e then
        let t4 := ptpTime data 34 - ptpCorrection data
        s.onPtp (fun p => { p with delayReq := none, meanDelay := some (roundDiv ((p.t2 - p.t1) + (t4 - t3)) 2) })
      else s
    | none => s))

/-- No Sync for 3 announce intervals: VT is frozen and not valid until a master returns (Table 4-8, R142). Of several masters known, the
longest interval counts, which the spec does not say (DESIGN CHOICE, log entry 33). -/
def execPtpMasterLoss (s : State) : Out := s.run (fun s =>
  let p := s.tim.ptp
  let interval := p.masters.foldl (fun n m => max n m.interval) 0
  .next (match p.lastSync with
    | some t =>
      if s.isPole && decide (t + 3 * interval ≤ s.now) then
        s.onPtp (fun p => { p with locked := false, lastSync := none, sync := none, delayReq := none, meanDelay := none })
      else s
    | none => s))

end Sys2Proof.Machine
end

