-- ==== Sys2Proof/Machine/Tensor.lean ====
section
/-! DEFINITION. Tensor: the tensor unit: descriptors, checks, products, accumulation and drain (07, 08). An operation's
result is computed whole at its completion: palette, accumulator and counters change then. -/

namespace Sys2Proof.Machine

/-! ## Descriptor (Table 7-5) -/

/-- The fields of a tensor descriptor. Strides and dilations are the steps themselves. -/
structure TDesc where
  op : Nat
  arr : Nat
  ws : Bool
  fa : Nat
  fb : Nat
  accFp : Bool
  cnt : Nat
  accIn : Bool
  drain : Bool
  res : Bool
  id : Nat
  accBase : Nat
  accTiles : Nat
  aBase : Nat
  aWrap : Nat
  bBase : Nat
  fo : Nat
  act : Nat
  cBase : Nat
  cWrap : Nat
  slot : Nat
  qBase : Nat
  rBase : Nat
  fr : Nat
  outH : Nat
  outW : Nat
  cIn : Nat
  cOut : Nat
  kh : Nat
  kw : Nat
  sy : Nat
  sx : Nat
  dy : Nat
  dx : Nat
  padT : Nat
  padB : Nat
  padL : Nat
  padR : Nat
  pack : Bool
  aRow : Nat
  aPix : Nat
  cRow : Nat
  cPix : Nat
  b1 : Nat
  b2 : Nat
  zp : Int
  b1A : Nat
  b1B : Nat
  b1C : Nat
  b2A : Nat
  b2B : Nat
  b2C : Nat
  deriving DecidableEq, Repr

/-- The descriptor that 16 words spell (Table 7-5). -/
def tdescOf (ws : List Nat) : TDesc :=
  let f (i lo w : Nat) : Nat := bits (word ws i) lo w
  let b (i lo : Nat) : Bool := bit (word ws i) lo
  { op := f 0 8 2, arr := f 0 10 4, ws := b 0 14, fa := f 0 15 4, fb := f 0 19 4, accFp := b 0 23, cnt := f 0 24 3,
    accIn := b 0 27, drain := b 0 28, res := b 0 29, id := f 1 0 16, accBase := f 1 16 8, accTiles := f 1 24 8 + 1,
    aBase := f 2 0 22, aWrap := f 2 22 5, bBase := f 3 0 22, fo := f 3 22 4, act := f 3 26 2, cBase := f 4 0 22,
    cWrap := f 4 22 5, slot := f 4 27 4, qBase := f 5 0 22, rBase := f 6 0 22, fr := f 6 22 4, outH := f 7 0 16,
    outW := f 7 16 16, cIn := f 8 0 16, cOut := f 8 16 16, kh := f 9 0 4, kw := f 9 4 4, sy := f 9 8 2 + 1, sx := f 9 10 2 + 1,
    dy := f 9 12 2 + 1, dx := f 9 14 2 + 1, padT := f 9 16 3, padB := f 9 19 3, padL := f 9 22 3, padR := f 9 25 3,
    pack := b 9 28, aRow := f 10 0 22, aPix := 16 * f 10 22 10, cRow := f 11 0 22, cPix := 16 * f 11 22 10, b1 := f 12 0 8,
    b2 := f 12 8 8, zp := signed 8 (f 12 16 8), b1A := 64 * f 13 0 16, b1B := 64 * f 13 16 16, b1C := 64 * f 14 0 16,
    b2A := 64 * f 14 16 16, b2B := 64 * f 15 0 16, b2C := 64 * f 15 16 16 }

/-- Bits that a tensor descriptor may set. -/
def tensorMask : List Nat :=
  [0x3FFFFFFF, 0xFFFFFFFF, 0x7FFFFFF, 0xFFFFFFF, 0x7FFFFFFF, 0x3FFFFF, 0x3FFFFFF, 0xFFFFFFFF, 0xFFFFFFFF, 0x1FFFFFFF,
    0xFFFFFFFF, 0xFFFFFFFF, 0xFFFFFF, 0xFFFFFFFF, 0xFFFFFFFF, 0xFFFFFFFF]

/-- Arrays of the operation, in ascending number. -/
def TDesc.arrays (t : TDesc) : List Nat := (List.range 4).filter (fun a => bit t.arr a)

/-- K (R239). -/
def TDesc.kLen (t : TDesc) : Nat := if t.op = 0 then t.kh * t.kw * t.cIn else t.kh * t.kw
/-- Input rows and columns, halo included and padding not (R239). -/
def TDesc.inH (t : TDesc) : Nat := (t.outH - 1) * t.sy + (t.kh - 1) * t.dy + 1 - t.padT - t.padB
/-- Input columns. -/
def TDesc.inW (t : TDesc) : Nat := (t.outW - 1) * t.sx + (t.kw - 1) * t.dx + 1 - t.padL - t.padR
/-- Output-channel blocks and column blocks. -/
def TDesc.chBlocks (t : TDesc) : Nat := (t.cOut + 15) / 16
/-- Column blocks. -/
def TDesc.colBlocks (t : TDesc) : Nat := (t.outW + 15) / 16
/-- Tiles of one channel block, and of the operation. -/
def TDesc.jTiles (t : TDesc) : Nat := t.outH * t.colBlocks
/-- Tiles of the operation in loop order. -/
def TDesc.tiles (t : TDesc) : Nat := t.b1 * t.b2 * t.chBlocks * t.jTiles
/-- Bytes of one B block (R240). -/
def TDesc.bBlock (t : TDesc) : Nat := fmtBytes t.fb (16 * t.kLen)
/-- Bytes of one packed C block (R240). -/
def TDesc.cBlock (t : TDesc) : Nat := fmtBytes t.fo (16 * t.outH * t.outW)

/-! ## Checks at issue (Table 7-7) -/

/-- An integer operand format. -/
def isIntFmt (f : Nat) : Bool := f ≤ 2

/-- The pair of operand formats is one of Table 7-4, with the accumulator it names. -/
def pairOk (fa fb : Nat) (fp : Bool) : Bool :=
  if isIntFmt fa && isIntFmt fb then !fp
  else fp && ((decide (3 ≤ fa) && decide (fa ≤ 4) && decide (3 ≤ fb) && decide (fb ≤ 4)) ||
    (decide (fa = fb) && decide (5 ≤ fa) && decide (fa ≤ 7)))

/-- CORE_CLK cycles of a tile's K steps (Table 7-4). -/
def TDesc.kCycles (t : TDesc) : Nat :=
  if t.fa = 2 && t.fb = 2 then (t.kLen + 1) / 2 else if 5 ≤ t.fa && t.fa ≤ 7 then 2 * t.kLen else t.kLen

/-- A footprint: where it begins and how long it is; `wrap` widens it to the rings of its first and last start. -/
def tSpan (base more len wrap : Nat) : Nat × Nat :=
  if wrap = 0 then (base, more + len)
  else
    let w := 2 ^ wrap
    (base / w * w, (base + more) / w * w + w - base / w * w)

/-- Largest batch offset of an operand. -/
def TDesc.more (t : TDesc) (s1 s2 : Nat) : Nat := (t.b1 - 1) * s1 + (t.b2 - 1) * s2

/-- Footprint of A; empty when every input is padding. -/
def TDesc.spanA (t : TDesc) : Nat × Nat :=
  if t.inH = 0 || t.inW = 0 then (t.aBase, 0)
  else tSpan t.aBase (t.more t.b1A t.b2A) ((t.inH - 1) * t.aRow + (t.inW - 1) * t.aPix + fmtBytes t.fa t.cIn) t.aWrap
/-- Footprint of B. -/
def TDesc.spanB (t : TDesc) : Nat × Nat := tSpan t.bBase (t.more t.b1B t.b2B) (t.chBlocks * t.bBlock) 0
/-- Footprint of Q. -/
def TDesc.spanQ (t : TDesc) : Nat × Nat := (t.qBase, 16 * t.cOut)
/-- Footprint of R. -/
def TDesc.spanR (t : TDesc) : Nat × Nat :=
  tSpan t.rBase (t.more t.b1C t.b2C) ((t.outH - 1) * t.cRow + (t.outW - 1) * t.cPix + fmtBytes t.fr t.cOut) 0
/-- Footprint of C. -/
def TDesc.spanC (t : TDesc) : Nat × Nat :=
  if t.pack then tSpan t.cBase (t.more t.b1C t.b2C) (t.chBlocks * t.cBlock) 0
  else tSpan t.cBase (t.more t.b1C t.b2C) ((t.outH - 1) * t.cRow + (t.outW - 1) * t.cPix + fmtBytes t.fo t.cOut) t.cWrap

/-- What the operation reads at its beats. Q and R are read by a drain only (R246). -/
def TDesc.reads (t : TDesc) : List (Nat × Nat) :=
  [t.spanA, t.spanB] ++ (if t.drain then [t.spanQ] ++ (if t.res then [t.spanR] else []) else [])
/-- The operands that row 0x07 places: A, B, Q, and R with RES, whether the operation drains or not. -/
def TDesc.placed (t : TDesc) : List (Nat × Nat) := [t.spanA, t.spanB, t.spanQ] ++ (if t.res then [t.spanR] else [])
/-- Every footprint of the operation (row 0x08). -/
def TDesc.spans (t : TDesc) : List (Nat × Nat) := t.placed ++ [t.spanC]

/-- Two spans share a byte; an empty one shares none. -/
def spansMeet (a b : Nat × Nat) : Bool := decide (0 < a.2) && decide (0 < b.2) && decide (a.1 < b.1 + b.2) && decide (b.1 < a.1 + a.2)

/-- Row 0x04: counts, kernel, padding and strides. INT4 and BS8 are asked of every format field, whether the operation uses it or not, as
the row names no operand (log entry 34). -/
def TDesc.shapeBad (t : TDesc) : Bool :=
  [t.outH, t.outW, t.cIn, t.cOut, t.kh, t.kw, t.b1, t.b2].contains 0 ||
    decide (t.kh ≤ t.padT) || decide (t.kh ≤ t.padB) || decide (t.kw ≤ t.padL) || decide (t.kw ≤ t.padR) ||
    (t.op = 1 && decide (t.cIn ≠ t.cOut)) || decide (t.aPix < fmtBytes t.fa t.cIn) ||
    (!t.pack && decide (t.cPix < fmtBytes t.fo t.cOut)) || ([t.fa, t.fb, t.fo, t.fr].contains 2 && decide (t.cIn % 2 ≠ 0)) ||
    ([t.fa, t.fb, t.fo, t.fr].contains 7 && (decide (t.cIn % 16 ≠ 0) || decide (t.cOut % 16 ≠ 0)))

/-- Accumulator tiles that R245 asks for. -/
def TDesc.needTiles (t : TDesc) : Nat :=
  if t.drain && !t.accIn then 2 * t.arrays.length else if t.drain then max t.tiles (2 * t.arrays.length) else t.tiles

/-- Row 0x09: wraps. -/
def TDesc.wrapBad (t : TDesc) : Bool :=
  let bad (w row : Nat) : Bool := w ≠ 0 && (decide (w < 8) || decide (20 < w) || decide (2 ^ w < row))
  bad t.aWrap ((t.inW - 1) * t.aPix + fmtBytes t.fa t.cIn) ||
    bad t.cWrap ((t.outW - 1) * t.cPix + fmtBytes t.fo t.cOut) || (t.pack && decide (t.cWrap ≠ 0))

/-- The first failing check of Table 7-7 at issue; 0 when none fails (R248). A row asks what it says whether DRAIN and RES are set or
not; only row 0x07, and with it 0x08, makes R depend on RES, and only row 0x04 makes the pixel stride of C depend on C_PACK. -/
def State.tensorCheck (s : State) (c : Nat) (ws : List Nat) : Nat :=
  let t := tdescOf ws
  let n := t.arrays.length
  let who := s.coreWho c
  let flying := ((s.core c).seq.tensor.filter (fun r => !r.test)).map (fun r => tdescOf r.words)
  let wide (w : Bool) (sp : Nat × Nat) : Bool := sp.2 = 0 || s.inOneRegion who c sp.1 sp.2 w true
  if strayBits tensorMask ws || decide (2 ≤ t.op) || [t.fa, t.fb, t.fo, t.fr].any (fun f => decide (11 ≤ f)) then 1
  else if n = 0 || n = 3 then 2
  else if !pairOk t.fa t.fb t.accFp || decide (t.fr < 3) || t.fr = 8 || t.fr = 9 ||
    (decide (2 ≤ t.act) && t.fo = 9) then 3
  else if t.shapeBad then 4
  else if 256 < t.accBase + t.accTiles || t.accTiles < t.needTiles ||
    flying.any (fun u => spansMeet (t.accBase, t.accTiles) (u.accBase, u.accTiles)) then 5
  else if t.ws && decide (16384 < t.bBlock) then 6
  else if !t.placed.all (wide false) then 7
  else if !wide true t.spanC || t.placed.any (spansMeet t.spanC) || flying.any (fun u => u.spans.any (spansMeet t.spanC)) then 8
  else if t.wrapBad then 9
  else if t.act = 3 && !(s.sfuSlot c t.slot).ready then 0xA
  else 0

/-- Record a fault of the tensor unit (Table 7-9). -/
def State.tensorFault (s : State) (c code id : Nat) : State := s.setReg (tnsReg c 4) (BitVec.ofNat 32 (code + 65536 * id))

/-- Put a tensor step in flight, or kill the context with the failing check (R248). -/
def State.tensorStart (s : State) (c step attempt : Nat) (ws : List Nat) : State :=
  let code := s.tensorCheck c ws
  if code ≠ 0 then (s.kill c 1 code step).tensorFault c code (tdescOf ws).id
  else
    (s.onSeq c (fun q => { q with tensor := q.tensor ++
      [({ step := step, words := ws, arrays := (tdescOf ws).arr, attempt := attempt, since := s.now } : TensorRun)] })).showTns c

/-- A TENSOR step can issue: its arrays are free, and fewer than four operations are in flight (R232). -/
def State.tensorFree (s : State) (c : Nat) (ws : List Nat) : Bool :=
  s.arraysBusy c &&& (tdescOf ws).arr = 0 && decide ((s.core c).seq.tensor.length < 4)

/-- A TENSOR step issues once its arrays are free and its checks pass, or kills the context (R232, R248). -/
def execTensor (c : Fin 8) (s : State) : Out := s.run (fun s =>
  .next (s.atStep c 1 (fun pc ws s =>
    if s.tensorFree c ws then
      let code := s.tensorCheck c ws
      let t := s.tensorStart c pc ((s.core c).seq.attempt pc) ws
      if code = 0 then t.issued c else t
    else s.held c)))

/-! ## Operands -/

/-- Palette address of a byte of a pixel-layout operand: batch start, wrap, row, column and byte (R238). -/
def pixAddr (start wrap rowStride pixStride y x b : Nat) : Nat := sideAddr start wrap ((y * rowStride + x * pixStride + b : Nat) : Int)

/-- Bytes of element `i` in a run of `n` elements: its own and, for BS8, its exponent's (R238, R260). -/
def elemBytes (fmt n i : Nat) : List Nat :=
  if fmt = 2 then [i / 2]
  else if fmt = 7 then [i, n + i / 16]
  else if fmt = 5 || fmt = 6 || fmt = 8 then [2 * i, 2 * i + 1]
  else if fmt = 9 || fmt = 10 then [4 * i, 4 * i + 1, 4 * i + 2, 4 * i + 3]
  else [i]

/-- The value of element `i` from the bytes that `elemBytes` names. -/
def elemVal (fmt i : Nat) (bs : List Byte) : FVal :=
  let v := leNat bs
  if fmt = 2 then fmtVal 2 (if i % 2 = 0 then v else v / 16)
  else if fmt = 7 then bs8Val (v % 256) (v / 256)
  else fmtVal fmt v

/-- The byte at a palette address. -/
def State.palByte (s : State) (c a : Nat) : Byte :=
  match s.palKeyOf c a with
  | some k => tblGet byteZero s.mem.pal k
  | none => 0#8

/-- Where one operation stands in its loops: batch indices, channel block, output row, column block (R242). -/
structure TilePos where
  b2 : Nat
  b1 : Nat
  j : Nat
  y : Nat
  xb : Nat
  deriving DecidableEq, Repr

/-- Tile `i` of an operation in loop order (R242). -/
def TDesc.tilePos (t : TDesc) (i : Nat) : TilePos :=
  let xb := i % t.colBlocks
  let i := i / t.colBlocks
  let y := i % t.outH
  let i := i / t.outH
  let j := i % t.chBlocks
  let i := i / t.chBlocks
  { b2 := i / t.b1, b1 := i % t.b1, j := j, y := y, xb := xb }

/-- Outputs of a tile: column and channel within the block, channel-major as in R713, missing ones left out (R243). -/
def TDesc.outputs (t : TDesc) (p : TilePos) : List (Nat × Nat) :=
  (List.range 16).flatMap (fun n => (List.range 16).filterMap (fun x =>
    if 16 * p.j + n < t.cOut && 16 * p.xb + x < t.outW then some (x, n) else none))

/-- Addresses of A's bytes for output pixel (y, x), output channel n and index k; empty for padding (R238, R239). -/
def TDesc.addrA (t : TDesc) (p : TilePos) (x n k : Nat) : List Nat × Nat :=
  let ch := if t.op = 0 then k % t.cIn else n
  let kk := if t.op = 0 then k / t.cIn else k
  let iy : Int := (p.y : Int) * t.sy + ((kk / t.kw : Nat) : Int) * t.dy - t.padT
  let ix : Int := (x : Int) * t.sx + ((kk % t.kw : Nat) : Int) * t.dx - t.padL
  let start := t.aBase + p.b1 * t.b1A + p.b2 * t.b2A
  if 0 ≤ iy && iy < t.inH && 0 ≤ ix && ix < t.inW then
    ((elemBytes t.fa t.cIn ch).map (fun b => pixAddr start t.aWrap t.aRow t.aPix iy.toNat ix.toNat b), ch)
  else ([], ch)

/-- Addresses of B's bytes for output channel n of block j and index k (R240). -/
def TDesc.addrB (t : TDesc) (p : TilePos) (n k : Nat) : List Nat :=
  let start := t.bBase + p.b1 * t.b1B + p.b2 * t.b2B + p.j * t.bBlock
  (elemBytes t.fb (16 * t.kLen) (16 * k + n)).map (fun b => start + b)

/-- Addresses of R's bytes for output pixel (y, x) and channel n. -/
def TDesc.addrR (t : TDesc) (p : TilePos) (x n : Nat) : List Nat :=
  let start := t.rBase + p.b1 * t.b1C + p.b2 * t.b2C
  (elemBytes t.fr t.cOut n).map (fun b => pixAddr start 0 t.cRow t.cPix p.y x b)

/-- Palette addresses that one output reads, each with its read port: 0 RD_0, 1 RD_1 (R233). -/
def TDesc.outReads (t : TDesc) (p : TilePos) (x n : Nat) : List (Nat × Nat) :=
  let ch := 16 * p.j + n
  let col := 16 * p.xb + x
  (List.range t.kLen).flatMap (fun k =>
    (t.addrA p col ch k).1.map (fun a => (0, a)) ++ (t.addrB p n k).map (fun a => (1, a))) ++
  (if t.drain then (List.range 16).map (fun b => (1, t.qBase + 16 * ch + b)) ++
    (if t.res then (t.addrR p col ch).map (fun a => (1, a)) else []) else [])

/-- Every palette address that an operation reads, in loop order. -/
def TDesc.allReads (t : TDesc) : List (Nat × Nat) :=
  (List.range t.tiles).flatMap (fun i =>
    let p := t.tilePos i
    (t.outputs p).flatMap (fun o => t.outReads p o.1 o.2))

/-! ## Products and drain -/

/-- The signed integer of an integer-format value. -/
def FVal.int : FVal → Int
  | .fin n m _ => sgn n m
  | _ => 0

/-- Value of A at an output and index; padding is a zero (R239). -/
def State.valA (s : State) (c : Nat) (t : TDesc) (p : TilePos) (x n k : Nat) : FVal :=
  let (as, ch) := t.addrA p x n k
  if as.isEmpty then .fin false 0 0 else elemVal t.fa ch (as.map (s.palByte c))

/-- Value of B at a channel and index. -/
def State.valB (s : State) (c : Nat) (t : TDesc) (p : TilePos) (n k : Nat) : FVal :=
  elemVal t.fb (16 * k + n) ((t.addrB p n k).map (s.palByte c))

/-- The B block of a channel block (R240). -/
def TDesc.startB (t : TDesc) (p : TilePos) : Nat := t.bBase + p.b1 * t.b1B + p.b2 * t.b2B + p.j * t.bBlock

/-- Value of B at a channel and index from the bytes of its block in a weight buffer (R244). -/
def TDesc.bufB (t : TDesc) (bs : List Byte) (n k : Nat) : FVal :=
  elemVal t.fb (16 * k + n) ((elemBytes t.fb (16 * t.kLen) (16 * k + n)).map (fun b => bs.getD b 0#8))

/-- What the weight buffers hold while tile `i` runs (R244): with WS = 1 the block of its channel block, read once, at the first of its tiles;
without, nothing. When a block that fits 8 KiB is loaded ahead, the model has no cycle to say (log entry 34). -/
def State.loadB (s : State) (c : Nat) (t : TDesc) (i : Nat) (buf : Option (Nat × List Byte)) : Option (Nat × List Byte) :=
  if !t.ws then none
  else if buf.map (fun b => b.1) = some (i / t.jTiles) then buf
  else some (i / t.jTiles, s.palBytes c (t.startB (t.tilePos i)) t.bBlock)

/-- The accumulator entry after every product, from a start (R237): INT32 wraps; FP32 adds in ascending k, each addition
rounded once. B comes from the weight buffers where they hold it (R244). -/
def State.tensorSum (s : State) (c : Nat) (t : TDesc) (p : TilePos) (buf : Option (Nat × List Byte)) (x n start : Nat) : Nat :=
  (List.range t.kLen).foldl (fun acc k =>
    let a := s.valA c t p (16 * p.xb + x) (16 * p.j + n) k
    let b := match buf with | some e => t.bufB e.2 n k | none => s.valB c t p n k
    if t.accFp then toF32 ((f32 acc).add (a.mul b)) else unsigned 32 (signed 32 acc + a.int * b.int)) start

/-- The greater of two FP32 values: NaN if either is, and -0 below +0 (R265, R336). -/
def fmaxBits (f : FloatFmt) (a b : Nat) : Nat :=
  let x := f.decode a
  let y := f.decode b
  if x = .nan || y = .nan then f.nan
  else if x.lt y then b else if y.lt x then a else if bit a (f.eb + f.mb) then b else a

/-- The lesser of two values. -/
def fminBits (f : FloatFmt) (a b : Nat) : Nat :=
  let x := f.decode a
  let y := f.decode b
  if x = .nan || y = .nan then f.nan
  else if x.lt y then a else if y.lt x then b else if bit a (f.eb + f.mb) then a else b

/-- The drained value of an output before its conversion, and the SFU uses on the way (R246). -/
def State.drainVal (s : State) (c : Nat) (t : TDesc) (p : TilePos) (x n acc : Nat) : State × FVal :=
  let ch := 16 * p.j + n
  let q (i : Nat) : Nat := leNat ((List.range 4).map (fun b => s.palByte c (t.qBase + 16 * ch + 4 * i + b)))
  let sInt : Int := max (-2147483648) (min 2147483647 (signed 32 acc + signed 32 (q 0)))
  let sBits := if t.accFp then fadd acc (q 0) else toF32 (FVal.ofInt sInt)
  if t.fo = 9 then
    let v := if t.accFp then f32 (if t.act = 1 then fmaxBits fp32 sBits 0 else sBits)
      else FVal.ofInt (if t.act = 1 then max sInt 0 else sInt)
    (s, v)
  else
    let y := fmul sBits (q 1)
    let y := if t.res then
        fadd y (fp32.encode true (elemVal t.fr ch ((t.addrR p (16 * p.xb + x) ch).map (s.palByte c))))
      else y
    let (s, y) :=
      if t.act = 1 then (s, fmaxBits fp32 y 0)
      else if t.act = 2 then (s, fminBits fp32 (fmaxBits fp32 y (q 2)) (q 3))
      else if t.act = 3 then (let (s, v, _) := s.sfuEval c t.slot y; (s, v))
      else (s, y)
    let y := if t.fo ≤ 2 || t.fo = 8 then fadd y (toF32 (FVal.ofInt t.zp)) else y
    (s, f32 y)

/-- Write the bits of element `i` of a run through an address function. -/
def State.putElem (s : State) (c fmt i v : Nat) (at_ : Nat → Nat) : State :=
  ((elemBytes fmt 0 i).zip (leBytes 4 v)).foldl (fun s e => s.palPut c (at_ e.1) [e.2]) s

/-- Write INT4 values two by two from byte `a` on, each byte whole (R154, R238). The upper half of a last byte that holds one value is not
stated: a free value (log entry 34). -/
def State.putPairs (s : State) (c a : Nat) (vs : List Nat) (at_ : Nat → Nat) : State :=
  let odd := decide (vs.length % 2 = 1)
  let vs := if odd then vs ++ [Config.freeValue s.free % 16] else vs
  let s := if odd then { s with free := s.free + 1 } else s
  (List.range (vs.length / 2)).foldl (fun s i => s.palPut c (at_ (a + i)) (leBytes 1 (vs.getD (2 * i) 0 + 16 * vs.getD (2 * i + 1) 0))) s

/-- Write the output channels of one pixel of a tile: values of channels 16j on, in order (R238, R240, R246, R260). A packed
block is filled up with zeros (R240). -/
def State.putPixel (s : State) (c : Nat) (t : TDesc) (p : TilePos) (x : Nat) (vs : List FVal) : State :=
  let start := t.cBase + p.b1 * t.b1C + p.b2 * t.b2C
  let k := p.y * t.outW + x
  let at_ (b : Nat) : Nat :=
    if t.pack then start + p.j * t.cBlock + b else pixAddr start t.cWrap t.cRow t.cPix p.y x b
  let first := if t.pack then 16 * k else 16 * p.j
  let vs := if t.pack then vs ++ List.replicate (16 - vs.length) (.fin false 0 0) else vs
  if t.fo = 7 then
    let n := if t.pack then 16 * t.outH * t.outW else t.cOut
    let (x8, qs) := toBs8 vs
    let s := ((List.range 16).zip qs).foldl (fun s e => s.palPut c (at_ (first + e.1)) (leBytes 1 e.2)) s
    let s := s.palPut c (at_ (n + first / 16)) (leBytes 1 x8)
    let used := n + n / 16
    if first + 16 = n then ((List.range ((4 - used % 4) % 4)).foldl (fun s i => s.palPut c (at_ (used + i)) [0#8]) s) else s
  else if t.fo = 2 then s.putPairs c (first / 2) (vs.map (fmtBits 2)) at_
  else
    ((List.range vs.length).zip vs).foldl (fun s e => s.putElem c t.fo (first + e.1) (fmtBits t.fo e.2) at_) s

/-- Accumulator index of an entry of a tile (R713). -/
def accKey (c tile x n : Nat) : Nat := 65536 * c + 256 * tile + 16 * n + x

/-- The accumulator tile of tile `i` (R243, R245): its own when the sums stay, else the two of its array in alternation. -/
def TDesc.accTile (t : TDesc) (i : Nat) : Nat :=
  if t.drain && !t.accIn then
    let n := t.arrays.length
    let group := i / t.jTiles
    let inGroup := i % t.jTiles
    let a := inGroup % n
    let perGroup := (t.jTiles + n - 1 - a) / n
    t.accBase + 2 * a + (group * perGroup + inGroup / n) % 2
  else t.accBase + i

/-- One tile: its sums into the accumulator, and with DRAIN its outputs into C. -/
def State.runTile (s : State) (c : Nat) (t : TDesc) (i : Nat) (buf : Option (Nat × List Byte)) : State :=
  let p := t.tilePos i
  let tile := t.accTile i
  let outs := t.outputs p
  let sums := outs.map (fun o =>
    s.tensorSum c t p buf o.1 o.2 (if t.accIn then (tblGet wordZero s.mem.acc (accKey c tile o.1 o.2)).toNat else 0))
  let s := (outs.zip sums).foldl (fun s e =>
    { s with mem := { s.mem with acc := tblSet wordZero s.mem.acc (accKey c tile e.1.1 e.1.2) (BitVec.ofNat 32 e.2) } }) s
  if !t.drain then s
  else
    (List.range 16).foldl (fun s x =>
      let mine := (outs.zip sums).filter (fun e => e.1.1 = x)
      if mine.isEmpty then s
      else
        let (s, vs) := mine.foldl (fun (sv : State × List FVal) e =>
          let (s, v) := sv.1.drainVal c t p x e.1.2 e.2
          (s, sv.2 ++ [v])) (s, [])
        s.putPixel c t p (16 * p.xb + x) vs) s

/-! ## Completion and faults -/

/-- An operation in flight, by its step. -/
def State.tensorRun (s : State) (c st : Nat) : Option TensorRun := (s.core c).seq.tensor.find? (fun t => !t.test && t.step = st)

/-- Remove an operation. -/
def State.tensorDrop (s : State) (c : Nat) (r : TensorRun) : State := (s.onSeq c (fun q => { q with tensor := q.tensor.erase r })).showTns c

/-- The first operand of an operation that gives a parity error: its agent and address. -/
def State.operandBad (s : State) (c : Nat) (t : TDesc) : Option (Nat × Nat) :=
  if s.mem.parityOk then none else t.allReads.find? (fun e => s.palBad c e.2)

/-- A poisoned operand aborts the operation (R229, R230): the parity error is recorded where the palette has one; else the operation read
its SFU slot (R294). -/
def State.tensorAbort (s : State) (c : Nat) (r : TensorRun) : State :=
  let t := tdescOf r.words
  let bad := s.operandBad c t
  let s := (s.tensorDrop c r).tensorFault c 0x11 t.id
  match bad with
  | some e => (s.parityError c e.2 e.1 r.step r.attempt).poisonAbort c r.step .palette (!t.accIn)
  | none => s.poisonAbort c r.step .slot (!t.accIn)

/-- The first operand of an operation, or its output, that cannot be reached, as the access leaves the state: an access to a pair that is not
ready sets PWR_FAULT (R159, Table 5-8). -/
def State.beatFault (s : State) (c : Nat) (t : TDesc) : Option State :=
  let who := s.coreWho c
  let fails (w : Bool) (sp : Nat × Nat) : Option State :=
    let x := s.palCheck who true w c sp.1 sp.2
    if sp.2 ≠ 0 && decide (x.2 ≠ 0) then some x.1 else none
  (t.reads.map (fails false) ++ (if t.drain then [fails true t.spanC] else [])).findSome? id

/-- An operation meets an address or fence fault at a beat (R248, code 0x10). -/
def State.tensorBeatFault (s : State) (c : Nat) (r : TensorRun) : State :=
  (((s.beatFault c (tdescOf r.words)).getD s).kill c 1 0x10 r.step).tensorFault c 0x10 (tdescOf r.words).id

/-- A running operation reads poison (0x11), or faults at a beat (0x10) (R229, R248, R251). -/
def execTensorOperandFault (c : Fin 8) (st : Nat) (code : Nat) (s : State) : Out := s.run (fun s =>
  .next (
    match s.tensorRun c st with
    | none => s
    | some r => if code = 0x10 then s.tensorBeatFault c r else if code = 0x11 then s.tensorAbort c r else s))

/-- An operand or the output of an operation cannot be reached at a beat (R248, code 0x10). -/
def State.beatBad (s : State) (c : Nat) (t : TDesc) : Bool := (s.beatFault c t).isSome

/-- An operation uses an SFU slot. -/
def TDesc.usesSlot (t : TDesc) : Bool := t.drain && t.act = 3

/-- An operation cannot read or write on. -/
def State.tensorStop (s : State) (c : Nat) (r : TensorRun) : Bool :=
  let t := tdescOf r.words
  s.beatBad c t || (s.operandBad c t).isSome || (t.usesSlot && !(s.sfuSlot c t.slot).ready)

/-- `n` further tiles of an operation: the state, what the weight buffers hold then, and whether an evaluation of its slot was poisoned,
which takes the slot out of READY (R294). -/
def State.runTiles (s : State) (c : Nat) (r : TensorRun) (n : Nat) : State × Option (Nat × List Byte) × Bool :=
  let t := tdescOf r.words
  let x := (List.range n).foldl (fun (x : State × Option (Nat × List Byte)) i =>
    let buf := x.1.loadB c t (r.tiles + i) x.2
    (x.1.runTile c t (r.tiles + i) buf, buf)) (s, r.buf)
  (x.1, x.2, t.usesSlot && !(x.1.sfuSlot c t.slot).ready)

/-- The last output write of an operation is granted (R221, R237, R246, Table 7-9): its remaining sums and outputs stand, the counters
rise. An operand that cannot be read any more faults or aborts instead, and so does a slot that has been unloaded (R285, R293). -/
def execTensorComplete (c : Fin 8) (st : Nat) (s : State) : Out := s.run (fun s =>
  .next (
    match s.tensorRun c st with
    | none => s
    | some r =>
      let t := tdescOf r.words
      if s.beatBad c t then s.tensorBeatFault c r
      else if (s.operandBad c t).isSome then s.tensorAbort c r
      else if t.usesSlot && !(s.sfuSlot c t.slot).ready then s.sfuKill c 1 t.slot r.step
      else
        let (u, _, poison) := s.runTiles c r (t.tiles - r.tiles)
        if poison then ((s.sfuEmpty c t.slot).event (aSfuEvt c) 8).tensorAbort c r
        else
          let u := ((u.bump (tnsReg c 8)).bumpBy (tnsReg c 0xC) (t.tiles * t.kCycles)).wideLedger c
          (u.stepDone c t.cnt).tensorDrop c r))

end Sys2Proof.Machine
end

