-- ==== Sys2Proof/Machine/Tg.lean ====
section
/-! DEFINITION. Tg: thread-group launches, residency, faults and memory spaces (10). -/

namespace Sys2Proof.Machine

/-! ## Launch fields (Table 10-1) -/

/-- MODE: independent. -/
def Launch.indep (l : Launch) : Bool := bit (word l.words 0) 8
/-- SPLIT. -/
def Launch.split (l : Launch) : Nat := bits (word l.words 0) 9 2
/-- GANG. -/
def Launch.gang (l : Launch) : Bool := bit (word l.words 0) 11
/-- IDEMP. -/
def Launch.idemp (l : Launch) : Bool := bit (word l.words 0) 12
/-- CNT. -/
def Launch.cnt (l : Launch) : Nat := bits (word l.words 0) 24 3
/-- DESC_ID. -/
def Launch.id (l : Launch) : Nat := bits (word l.words 1) 0 16
/-- THREADS. -/
def Launch.threads (l : Launch) : Nat := bits (word l.words 1) 16 16
/-- GROUPS. -/
def Launch.groups (l : Launch) : Nat := (l.threads + 31) / 32
/-- CODE_BASE. -/
def Launch.code (l : Launch) : Nat := word l.words 2 % 4194304
/-- CODE_LEN. -/
def Launch.codeLen (l : Launch) : Nat := word l.words 3 % 65536
/-- v registers per thread. -/
def Launch.vregs (l : Launch) : Nat := 8 * bits (word l.words 4) 0 5
/-- RS_FIRST. -/
def Launch.rsFirst (l : Launch) : Nat := bits (word l.words 4) 8 5
/-- RS_COUNT. -/
def Launch.rsCount (l : Launch) : Nat := bits (word l.words 4) 16 6
/-- LS_GRP in granules. -/
def Launch.lsGrp (l : Launch) : Nat := bits (word l.words 5) 0 10
/-- LS_SHR in granules. -/
def Launch.lsShr (l : Launch) : Nat := bits (word l.words 5) 16 10
/-- PARAM. -/
def Launch.paramAt (l : Launch) : Nat := word l.words 6 % 4194304
/-- LIMIT in units of 1,024 cycles. -/
def Launch.limit (l : Launch) : Nat := word l.words 7

/-- Bits that a TG_LAUNCH entry may set. -/
def launchMask : List Nat := [0x7001FFF, 0xFFFFFFFF, 0x3FFFFF, 0xFFFF, 0x3F1F1F, 0x3FF03FF, 0x3FFFFF, 0xFFFFFFFF]

/-- Local-store granules of a split (Table 10-2). -/
def granuleCount (split : Nat) : Nat := 512 - 128 * split

/-- Change a core's cluster. -/
def State.onTg (s : State) (c : Nat) (f : TgState → TgState) : State := s.onCore c (fun k => { k with tg := f k.tg })

/-- The group of a slot. -/
def State.group (s : State) (c g : Nat) : Option Group := tblGet (fun _ => none) (s.core c).tg.groups g

/-- Resident groups of a core, with their slots. -/
def State.tgGroups (s : State) (c : Nat) : List (Nat × Group) :=
  (List.range 32).filterMap (fun g => (s.group c g).map (fun x => (g, x)))

/-- The state with a slot's group replaced. -/
def State.setGroup (s : State) (c g : Nat) (x : Option Group) : State :=
  s.onTg c (fun t => { t with groups := tblSet (fun _ => none) t.groups g x })

/-- The launch of a step, if in flight. -/
def State.launch (s : State) (c st : Nat) : Option Launch := (s.core c).tg.launches.find? (fun l => l.step = st)

/-- Replace a launch. -/
def State.setLaunch (s : State) (c : Nat) (l : Launch) : State :=
  s.onTg c (fun t => { t with launches := t.launches.map (fun (x : Launch) => if x.step = l.step then l else x) })

/-- Physical v registers that no group holds. -/
def State.freeVregs (s : State) (c : Nat) : List Nat :=
  let used := (s.tgGroups c).flatMap (fun e => e.2.vbase)
  (List.range 2048).filter (fun r => !used.contains r)

/-- Granules of the split in force that no window holds. -/
def State.freeGranules (s : State) (c split : Nat) : List Nat :=
  let used := (s.tgGroups c).flatMap (fun e => e.2.grans) ++ (s.core c).tg.launches.flatMap (fun l => l.shared)
  (List.range (granuleCount split)).filter (fun r => !used.contains r)

/-- Free slots. -/
def State.freeSlots (s : State) (c : Nat) : List Nat := (List.range 32).filter (fun g => (s.group c g).isNone)

/-! ## Issue (R298) -/

/-- The first failing check of Table 10-5 at issue; 0 when none fails. -/
def State.launchCheck (s : State) (c : Nat) (l : Launch) : Nat :=
  let who := s.coreWho c
  let gr := granuleCount l.split
  if strayBits launchMask l.words then 1
  else if l.threads = 0 || 32768 < l.threads || l.vregs = 0 || 128 < l.vregs || l.codeLen = 0 || 32 < l.rsFirst + l.rsCount ||
    512 < l.lsGrp || 512 < l.lsShr then 2
  else if gr < l.lsShr + l.lsGrp ||
    (l.gang && (decide (32 < l.groups) || decide (2048 < l.groups * l.vregs) || decide (gr < l.lsShr + l.groups * l.lsGrp))) then 3
  else if l.code % 8 ≠ 0 || l.paramAt % 64 ≠ 0 || !s.inOneRegion who c l.code (8 * l.codeLen) false false ||
    !s.inOneRegion who c l.paramAt 64 false false then 4
  else if (s.core c).tg.launches.any (fun m => spansMeet (l.rsFirst, l.rsCount) (m.rsFirst, m.rsCount)) then 5
  else 0

/-- Fewer than four launches in flight, and the split in force is the launch's or free to change. -/
def State.launchTurn (s : State) (c : Nat) (l : Launch) : Bool :=
  let t := (s.core c).tg
  decide (t.launches.length < 4) && (t.launches.isEmpty || t.split = l.split)

/-- The shared window, and with GANG everything that its groups need, is free. What no cluster could ever have free is not waited for: the
checks refuse it (Table 10-5 code 0x03; DEDUCED from the worked example of 10, log entry 23). -/
def State.launchRoom (s : State) (c : Nat) (l : Launch) : Bool :=
  let free := (s.freeGranules c l.split).length
  let grans := l.lsShr + if l.gang then l.groups * l.lsGrp else 0
  (decide (granuleCount l.split < grans) || decide (grans ≤ free)) &&
    (!l.gang || ((decide (32 < l.groups) || decide (l.groups ≤ (s.freeSlots c).length)) &&
      (decide (2048 < l.groups * l.vregs) || decide (l.groups * l.vregs ≤ (s.freeVregs c).length))))

/-- Show where a fault or an abort of the cluster happened (Table 10-6). -/
def State.tgRecord (s : State) (c code slot lane pc grp id : Nat) : State :=
  let s := s.setReg (tgReg c 4) (BitVec.ofNat 32 (code + 256 * slot + 8192 * lane))
  (s.setReg (tgReg c 8) (BitVec.ofNat 32 (pc % 4194304))).setReg (tgReg c 0xC) (BitVec.ofNat 32 (grp % 1024 + 65536 * id))

/-- Record a fault of the cluster (Table 10-6). -/
def State.tgFault (s : State) (c code slot lane pc grp id : Nat) : State := (s.tgRecord c code slot lane pc grp id).event (tgReg c 0x10) 1

/-- End a launch and its groups (R320). -/
def State.launchDrop (s : State) (c : Nat) (l : Launch) : State :=
  (s.onTg c (fun t => { t with
    launches := t.launches.filter (fun x => x.step ≠ l.step),
    groups := t.groups.filter (fun e => match e.2 with | some g => g.launch ≠ l.step | none => false) })).showTg c

/-- Where a launch met a fault or poison: slot, lane, address and group index. -/
structure TgSite where
  slot : Nat := 0
  lane : Nat := 0
  pc : Nat := 0
  group : Nat := 0
  deriving DecidableEq, Repr

/-- Poisoned data aborts a launch: code 0x20 is recorded and reported (R317, R320). -/
def State.launchAbort (s : State) (c : Nat) (l : Launch) (x : TgSite) (at_ : PoisonAt) : State :=
  let s := (s.launchDrop c l).tgRecord c 0x20 x.slot x.lane x.pc x.group l.id
  let s := (s.event (tgReg c 0x10) 2).setReg (seqReg c 0x50) (BitVec.ofNat 32 (0x20 + 256 * 3 + 65536 * (l.step % 65536)))
  (s.tenantFault c 3 0x20 l.step).poisonAbort c l.step at_ l.idemp

/-- A parity error in the register file or the local store of a core: a safety event, class B at the fourth within 1 s (R320, R322). -/
def State.tgPerr (s : State) (c : Nat) : State :=
  let times := (s.now :: (s.core c).tg.perrs).take 4
  let s := (s.bump (tgReg c 0x24)).onTg c (fun t => { t with perrs := times })
  let many := times.length = 4 && decide (s.now - times.getD 3 0 < 1000 * ms)
  s.safety 0x0C (c + if many then 0x100 else 0)

/-- A group reads such an error: the launch aborts (R320, R323). -/
def State.tgParity (s : State) (c : Nat) (l : Launch) (x : TgSite) : State := (s.tgPerr c).launchAbort c l x .other

/-- A parity error in a u or p register: the launch aborts (R320, R323). -/
def State.upParity (s : State) (c : Nat) (l : Launch) (x : TgSite) : State := (s.bump (tgReg c 0x24)).launchAbort c l x .other

/-- A change of split discards the local store and the near cache (R298). -/
def State.setSplit (s : State) (c split : Nat) : State :=
  if (s.core c).tg.split = split then s
  else
    let s := { s with free := s.free + 1, mem := { s.mem with
      near := tblClear s.mem.near (131072 * c) (131072 * (c + 1)),
      nearFree := tblSet (fun _ => none) s.mem.nearFree c (some s.free) } }
    s.onTg c (fun t => { t with split := split })

/-- Start a launch whose checks pass: the parameter block, the shared window, the caches (R298, R303). A parameter block that the palette
does not serve is code 0x12 (R159, R317). -/
def State.launchStart (s : State) (c : Nat) (l : Launch) : State :=
  let (s, f) := s.palCheck (s.coreWho c) false false c l.paramAt 64
  if f ≠ 0 then (s.kill c 3 0x12 l.step).tgFault c 0x12 0 0 l.code 0 l.id
  else
  let (s, bs, bad) := s.palRead c l.paramAt 64 6 l.step l.attempt
  let l := { l with param := words16 bs, shared := (s.freeGranules c l.split).take l.lsShr, since := s.now }
  let s := (s.onTg c (fun t => { t with launches := t.launches ++ [l], cache := [], ncBad := [], icache := [] })).showTg c
  if bad then s.launchAbort c l { pc := l.code } .palette else s

/-- A launch that need not wait sets the split in force where none is in flight, is checked, and starts or kills the context (R298);
`go` records its issue. -/
def State.launchIssue (s : State) (c : Nat) (l : Launch) (go : State → State) : State :=
  let s := if (s.core c).tg.launches.isEmpty then (s.setSplit c l.split).showTg c else s
  let code := s.launchCheck c l
  if code ≠ 0 then (s.kill c 3 code l.step).tgFault c code 0 0 l.code 0 l.id else (go s).launchStart c l

/-- A TG_LAUNCH step issues, waits, or kills the context (R298). -/
def execTgLaunch (c : Fin 8) (s : State) : Out := s.run (fun s =>
  .next (s.atStep c 3 (fun pc ws s =>
    let l : Launch := { step := pc, words := ws, param := [], attempt := (s.core c).seq.attempt pc }
    if s.launchTurn c l && s.launchRoom c l then s.launchIssue c l (fun s => s.issued c) else s.held c)))

/-! ## Residency (R299 to R301) -/

/-- Key of a register-file word. -/
def rfKey (c r lane : Nat) : Nat := 65536 * c + 32 * r + lane

/-- Lanes of group `i` that exist. -/
def Launch.lanes (l : Launch) (i : Nat) : Nat := if i + 1 = l.groups then 2 ^ (l.threads - 32 * i) - 1 else 0xFFFFFFFF

/-- Group `i` of a launch becomes resident in a slot (R301). -/
def State.groupStart (s : State) (c g : Nat) (l : Launch) (i : Nat) : State :=
  let vb := (s.freeVregs c).take l.vregs
  let ex := l.lanes i
  let u := l.param ++ [i, l.groups, l.threads, (s.core c).seq.pass % 4294967296] ++ List.replicate 44 0
  let x : Group :=
    { launch := l.step, index := i, vbase := vb, grans := (s.freeGranules c (s.core c).tg.split).take l.lsGrp, pc := l.code,
      exist := ex, active := if l.indep then 0 else ex, u := u, p := [ex, 0, 0, 0, 0, 0, 0, 0],
      resume := List.replicate 32 l.code }
  let rf := vb.foldl (fun rf r => tblClear rf (rfKey c r 0) (rfKey c (r + 1) 0)) s.mem.rf
  let rf := (List.range 32).foldl (fun rf k => tblSet wordZero rf (rfKey c (vb.getD 0 0) k) (BitVec.ofNat 32 (32 * i + k))) rf
  let mine (k : Nat) : Bool := decide (k / 65536 = c) && vb.contains (k % 65536 / 32)
  (({ s with mem := { s.mem with rf := rf, rfBad := s.mem.rfBad.filter (fun k => !mine k) } }).setGroup c g (some x)).setLaunch c { l with next := i + 1 }

/-- The earliest launch with a group that is not yet resident (R299). -/
def State.nextLaunch (s : State) (c : Nat) : Option Launch := (s.core c).tg.launches.find? (fun l => decide (l.next < l.groups))

/-- What the groups of a launch still need for all of them to be resident at once is free (R299, R300). -/
def State.gangFree (s : State) (c : Nat) (l : Launch) : Bool :=
  decide (l.groups ≤ (s.freeSlots c).length) && decide (l.groups * l.vregs ≤ (s.freeVregs c).length) &&
    decide (l.groups * l.lsGrp ≤ (s.freeGranules c (s.core c).tg.split).length)

/-- The next group becomes resident in slot `g`; with GANG every group of the launch does, in the same cycle (R299). -/
def execGroupResident (c : Fin 8) (g : Fin 32) (s : State) : Out := s.run (fun s =>
  .next (
    match s.nextLaunch c with
    | none => s
    | some l =>
      if (s.group c g).isSome then s
      else if l.gang then
        if s.gangFree c l then
          ((List.range l.groups).foldl (fun s i =>
            match s.freeSlots c, s.launch c l.step with
            | slot :: _, some l => s.groupStart c slot l i
            | _, _ => s) s).showTg c
        else s
      else if (s.freeVregs c).length < l.vregs || (s.freeGranules c (s.core c).tg.split).length < l.lsGrp then s
      else (s.groupStart c g l l.next).showTg c))

/-- Every group of a launch has ended and its notes have finished (R302). -/
def Launch.over (l : Launch) : Bool := decide (l.groups ≤ l.ended) && l.notes.isEmpty

/-- Cycles in which both pipes issued (R305, R323): the model has no cycles, so how many a launch had is a free value, at most half of
the instructions issued; they count when it completes (log entry 34). -/
def State.dualLedger (s : State) (c : Nat) : State :=
  let room := (s.reg (tgReg c 0x14)).toNat / 2 - (s.reg (tgReg c 0x18)).toNat
  ({ s with free := s.free + 1 } : State).bumpBy (tgReg c 0x18) (min (Config.freeValue s.free) room)

/-- A launch completes: its counter rises and the caches are invalidated (R302, R303). -/
def State.launchFinish (s : State) (c : Nat) (l : Launch) : State :=
  let s := s.onTg c (fun t => { t with launches := t.launches.filter (fun x => x.step ≠ l.step), cache := [], ncBad := [], icache := [] })
  ((s.dualLedger c).stepDone c l.cnt).showTg c

/-- A launch completes (R302, R303). -/
def execLaunchComplete (c : Fin 8) (st : Nat) (s : State) : Out := s.run (fun s =>
  .next (
    match s.launch c st with
    | none => s
    | some l => if l.over then s.launchFinish c l else s))

/-- LIMIT of a launch expires before its completion (R319); a completion in the same cycle wins (R324). -/
def execLaunchLimit (c : Fin 8) (st : Nat) (s : State) : Out := s.run (fun s =>
  .next (
    match s.launch c st with
    | none => s
    | some l =>
      if l.limit = 0 || s.now < l.since + l.limit * 1024 * 8 then s
      else if l.over then s.launchFinish c l
      else (((s.kill c 3 0x18 l.step).tgFault c 0x18 0 0 0 0 l.id).event (tgReg c 0x10) 8)))

/-! ## Memory spaces (R311 to R314) -/

/-- The local-store byte that a thread address names: its key, or none outside both windows (Table 10-4, R314). -/
def lsKey (c : Nat) (l : Launch) (x : Group) (a : Nat) : Option Nat :=
  if a < 256 * l.lsGrp then some (131072 * c + 256 * x.grans.getD (a / 256) 0 + a % 256)
  else if 0x20000 ≤ a && a < 0x20000 + 256 * l.lsShr then
    some (131072 * c + 256 * l.shared.getD ((a - 0x20000) / 256) 0 + a % 256)
  else none

/-- Read bytes of the local store. -/
def State.lsRead (s : State) (k n : Nat) : List Byte := tblGets s.mem.nearByte s.mem.near k n

/-- Write bytes of the local store. -/
def State.lsWrite (s : State) (k : Nat) (bs : List Byte) : State :=
  { s with mem := { s.mem with near := tblSets s.mem.nearByte s.mem.near k bs,
                               nearBad := s.mem.nearBad.filter (fun b => b < k || k + bs.length ≤ b) } }

/-- A byte of a local-store span has wrong parity. -/
def State.lsBad (s : State) (k n : Nat) : Bool := s.mem.nearBad.any (fun b => decide (k ≤ b) && decide (b < k + n))

/-- Bank conflicts of an access: words beyond the first that it names in a bank (R314). -/
def lsConflicts (keys : List Nat) : Nat :=
  let ws := (keys.map (fun k => k / 4)).eraseDups
  ws.length - (ws.map (fun w => w % 32)).eraseDups.length

/-- Near-cache set of a line, none without a near cache (R313). -/
def State.cacheSet (s : State) (c a : Nat) : Option Nat :=
  let sets := 128 * (s.core c).tg.split
  if sets = 0 then none else some (a / 64 % sets)

/-- The bytes that a cached load finds, if its line is present. -/
def State.cacheHit (s : State) (c a : Nat) : Option (List Byte) :=
  match s.cacheSet c a with
  | none => none
  | some i => ((tblGet (fun _ => []) (s.core c).tg.cache i).find? (fun e => e.1 = a / 64 * 64)).map (fun e => e.2)

/-- A near-cache line whose parity is wrong is dropped when a load meets it (R321, R323). -/
def State.cacheCheck (s : State) (c a : Nat) : State :=
  match s.cacheSet c a with
  | none => s
  | some i =>
    let line := a / 64 * 64
    if (s.cacheHit c a).isSome && (s.core c).tg.ncBad.contains line then
      ((s.onTg c (fun t => { t with
        cache := tblSet (fun _ => []) t.cache i ((tblGet (fun _ => []) t.cache i).filter (fun e => e.1 ≠ line))
        ncBad := t.ncBad.filter (· ≠ line) })).event (tgReg c 0x10) 4).bump (tgReg c 0x24)
    else s

/-- Install a line, the oldest of its set making room (R313). The whole line is read and checked; one with a parity error is not installed
(R164, R165). -/
def State.cacheFill (s : State) (c a : Nat) (l : Launch) : State :=
  match s.cacheSet c a with
  | none => s
  | some i =>
    let line := a / 64 * 64
    let (s, bs, bad) := (s.bump (tgReg c 0x1C)).palRead c line 64 6 l.step l.attempt
    if bad then s
    else
      let put (m : Table (List (Nat × List Byte))) : Table (List (Nat × List Byte)) :=
        tblSet (fun _ => []) m i (((line, bs) :: tblGet (fun _ => []) m i).take 4)
      s.onTg c (fun t => { t with cache := put t.cache, ncBad := t.ncBad.filter (· ≠ line) })

/-- A store updates a line that is present (R313). -/
def State.cacheStore (s : State) (c a : Nat) (bs : List Byte) : State :=
  match s.cacheSet c a with
  | none => s
  | some i =>
    let line := a / 64 * 64
    let upd (e : Nat × List Byte) : Nat × List Byte :=
      if e.1 = line then (e.1, e.2.take (a - line) ++ bs ++ e.2.drop (a - line + bs.length)) else e
    s.onTg c (fun t => { t with cache := tblSet (fun _ => []) t.cache i ((tblGet (fun _ => []) t.cache i).map upd) })

/-- A load of a lane from the palette: the bytes and whether they are poisoned (R313, R320, R321). -/
def State.tgLoad (s : State) (c a n : Nat) (cached : Bool) (l : Launch) : State × List Byte × Bool :=
  let s := if cached then s.cacheCheck c a else s
  match (if cached then s.cacheHit c a else none) with
  | some line => (s, slice line (a % 64) n, false)
  | none => (if cached then s.cacheFill c a l else s).palRead c a n 6 l.step l.attempt

/-- The instruction-cache line of an address, if it is present. -/
def State.icacheHit (s : State) (c a : Nat) : Option (List Byte) :=
  ((s.core c).tg.icache.find? (fun e => e.1 = a / 64 * 64)).map (fun e => e.2)

/-- The word of an instruction as its group finds it: in the instruction cache, or in the palette. -/
def State.insAt (s : State) (c a : Nat) : Nat :=
  leNat (match s.icacheHit c a with
    | some line => slice line (a % 64) 8
    | none => slice (s.palBytes c (a / 64 * 64) 64) (a % 64) 8)

/-- Fetch an instruction (R306): a hit reads the instruction cache; a miss reads one palette row of 8 instructions and installs it. Which
line makes room in a full cache is the model's choice (DESIGN CHOICE, log entry 34). The fault of the row, or the word and whether it is
poisoned; a row with a parity error is not installed. -/
def State.fetchIns (s : State) (c a : Nat) (l : Launch) : State × (Nat ⊕ (Nat × Bool)) :=
  match s.icacheHit c a with
  | some line => (s, .inr (leNat (slice line (a % 64) 8), false))
  | none =>
    let row := a / 64 * 64
    match s.palCheck (s.coreWho c) false false c row 64 with
    | (s, 0) =>
      let poison := (List.range 8).any (fun b => s.palBad c (a + b))
      let (s, bs, bad) := s.palRead c row 64 6 l.step l.attempt
      let s := if bad then s else s.onTg c (fun t => { t with icache := ((row, bs) :: t.icache).take 256 })
      (s, .inr (leNat (slice bs (a % 64) 8), poison))
    | (s, f) => (s, .inl f)

end Sys2Proof.Machine
end

