-- ==== Sys2Proof/Machine/Operands.lean ====
section
/-! DEFINITION. Operands: the fields of a thread-group instruction, its operand forms, and which words are malformed (11). -/

namespace Sys2Proof.Machine

/-! ## Fields (Table 11-1) -/

/-- OP. -/
def iOp (w : Nat) : Nat := w % 256
/-- IMM. -/
def iImm (w : Nat) : Bool := bit w 8
/-- PEN. -/
def iPen (w : Nat) : Bool := bit w 9
/-- PNEG. -/
def iPneg (w : Nat) : Bool := bit w 10
/-- PG. -/
def iPg (w : Nat) : Nat := bits w 11 3
/-- DST. -/
def iDst (w : Nat) : Nat := bits w 14 7
/-- SRCA, or BASE. -/
def iA (w : Nat) : Nat := bits w 21 7
/-- TY, or SZ. -/
def iTy (w : Nat) : Nat := bits w 28 3
/-- A_U, or BASE_U. -/
def iAU (w : Nat) : Bool := bit w 31
/-- SRCB. -/
def iB (w : Nat) : Nat := bits w 32 7
/-- SRCC. -/
def iC (w : Nat) : Nat := bits w 39 7
/-- B_U; SPACE of format M. -/
def iBU (w : Nat) : Bool := bit w 46
/-- C_U; UNC of format M. -/
def iCU (w : Nat) : Bool := bit w 47
/-- D_U of format A. -/
def iDU (w : Nat) : Bool := if iImm w then bit w 56 else bit w 48
/-- CMP. -/
def iCmp (w : Nat) : Nat := if iImm w then bits w 57 3 else bits w 49 3
/-- SUBSEL. -/
def iSub (w : Nat) : Nat := bits w 52 3
/-- IMM24. -/
def iImm24 (w : Nat) : Nat := bits w 32 24
/-- AOP. -/
def iAop (w : Nat) : Nat := bits w 48 4
/-- OFS, signed. -/
def iOfs (w : Nat) : Int := signed 12 (bits w 52 12)
/-- RCV, signed. -/
def iRcv (w : Nat) : Int := signed 18 (bits w 14 18)
/-- TGT, signed. -/
def iTgt (w : Nat) : Int := signed 24 (bits w 32 24)
/-- SLOT. -/
def iSlot (w : Nat) : Nat := bits w 32 4
/-- OTY. -/
def iOty (w : Nat) : Nat := bits w 36 3
/-- RS. -/
def iRs (w : Nat) : Nat := bits w 39 5
/-- RS2. -/
def iRs2 (w : Nat) : Nat := bits w 44 5
/-- NSLOT. -/
def iNslot (w : Nat) : Nat := bits w 49 2
/-- NKIND. -/
def iNkind (w : Nat) : Nat := bits w 51 2
/-- NBYTES. -/
def iNbytes (w : Nat) : Nat := bits w 53 7

/-- B operand of an immediate (R329). -/
def immValue (w : Nat) : Nat :=
  let v := iImm24 w
  if iTy w ≤ 1 then unsigned 32 (signed 24 v) else if iTy w = 2 then 256 * v else v % 65536

/-- Bytes of a memory access by SZ (R340). -/
def szBytes (z : Nat) : Nat := if z ≤ 1 then 1 else if z ≤ 3 then 2 else 4

/-- The registers that a load writes for the bytes read (R340). -/
def szExtend (z : Nat) (bs : List Byte) : Nat :=
  let v := leNat bs
  if z = 1 then unsigned 32 (signed 8 v) else if z = 3 then unsigned 32 (signed 16 v) else v

/-- Width of a CVT type code, 0 where the code is not allowed (R338). -/
def cvtWidth (t : Nat) : Nat :=
  if t = 2 then 4 else if t = 0 || t = 1 || t = 3 || t = 4 then 8
  else if t = 5 || t = 6 || t = 8 || t = 11 then 16 else if t = 9 || t = 10 then 32 else 0

/-- The value of a CVT source of a type from its bits (R268, R338). -/
def cvtIn (t w : Nat) : FVal := if t = 11 then u16Val (w % 65536) else fmtVal t w

/-- The register that a CVT result of a type gives: signed integers extended, others with upper bits zero (R338). -/
def cvtOut (t : Nat) (v : FVal) : Nat :=
  let v := f32 (fp32.encode true v)
  if t = 11 then toU16 v
  else if t = 1 then unsigned 32 (signed 8 (fmtBits 1 v))
  else if t = 2 then unsigned 32 (signed 4 (fmtBits 2 v))
  else if t = 8 then unsigned 32 (signed 16 (fmtBits 8 v))
  else fmtBits t v

/-- The floating format of TY or OTY 2, 3, 4 (R330). -/
def tyFmt (t : Nat) : FloatFmt := if t = 3 then fp16 else if t = 4 then bf16 else fp32

/-- The value of a register read in a floating type (R330). -/
def tyVal (t v : Nat) : FVal := if t = 2 then f32 v else (tyFmt t).decode (v % 65536)

/-! ## Formats (Table 11-2) -/

/-- Opcodes of format C. -/
def isFmtC (o : Nat) : Bool := o ≤ 9
/-- Opcodes of format A. -/
def isFmtA (o : Nat) : Bool := (0x10 ≤ o && o ≤ 0x27) || (0x30 ≤ o && o ≤ 0x36) || (0x40 ≤ o && o ≤ 0x43)
/-- Opcodes of format M. -/
def isFmtM (o : Nat) : Bool := 0x50 ≤ o && o ≤ 0x52
/-- Opcodes of format S. -/
def isFmtS (o : Nat) : Bool := (0x60 ≤ o && o ≤ 0x64) || o = 0x70 || o = 0x71
/-- An opcode of Table 11-2. -/
def isOpcode (o : Nat) : Bool := isFmtC o || isFmtA o || isFmtM o || isFmtS o || o = 0x44

/-- TY values that an opcode allows (Table 11-2): NOTE and NOTEST, which name none, take every value that is not reserved (R330). -/
def tyAllowed (o t : Nat) : Bool :=
  if (0x10 ≤ o && o ≤ 0x16) || o = 0x1B || o = 0x30 then t ≤ 1
  else if (0x20 ≤ o && o ≤ 0x27) || o = 0x31 || o = 0x60 then 2 ≤ t && t ≤ 4
  else if o = 0x62 then t = 2
  else if o = 0x70 || o = 0x71 then t ≤ 4
  else t = 0

/-- Opcodes that read SRCB as a register or immediate. -/
def readsB (o : Nat) : Bool :=
  (0x10 ≤ o && o ≤ 0x1C) || (0x20 ≤ o && o ≤ 0x25) || o = 0x30 || o = 0x31 || o = 0x35 || o = 0x36 || o = 0x41 || o = 0x43
/-- Opcodes that read SRCC as a register. -/
def readsC (o : Nat) : Bool := o = 0x14 || o = 0x23 || o = 0x43
/-- Opcodes whose SRCA, SRCB or DST is a predicate. -/
def predOps : List Nat := [0x30, 0x31, 0x32, 0x34]

/-- A v or u register name is malformed (R326). -/
def badName (vregs : Nat) (u : Bool) (r : Nat) : Bool := if u then 64 ≤ r else vregs ≤ r

/-- A format-A word is malformed (R326 to R332, R335 to R339). With D_U = 1 a v or p register as a source is malformed
whatever the opcode's own destination, and so is a predicate as the destination (DEDUCED from R332, log entry 34). -/
def badA (vregs w : Nat) : Bool :=
  let o := iOp w
  let imm := iImm w
  let name (u : Bool) (r : Nat) : Bool := badName vregs u r
  let dstP := predOps.contains o
  let dstU := iDU w || o = 0x33 || o = 0x36
  let aBad :=
    if o = 0x32 || o = 0x33 then 8 ≤ iA w else if o = 0x34 then 64 ≤ iA w
    else if o = 0x36 then name false (iA w) else name (iAU w) (iA w)
  let bBad := !imm && ((o = 0x32 && 8 ≤ iB w) || (readsB o && name (iBU w) (iB w)))
  let cBad := (readsC o && !imm && name (iCU w) (iC w)) || (o = 0x1C && !imm && 8 ≤ iC w)
  let dBad := if dstP then 8 ≤ iDst w else name dstU (iDst w)
  let immBad := imm && (o = 0x14 || o = 0x1C || o = 0x23 || o = 0x32 || o = 0x40 || bits w 60 4 ≠ 0 ||
    ((iTy w = 3 || iTy w = 4) && bits w 48 8 ≠ 0))
  let cmpBad := ((o = 0x30 || o = 0x31) && 6 ≤ iCmp w) || ((o = 0x32 || o = 0x35) && 4 ≤ iCmp w)
  let duBad := iDU w &&
    (dstP || o = 0x1C || o = 0x33 || o = 0x36 || !iAU w || (readsB o && !imm && !iBU w) || (readsC o && !imm && !iCU w))
  let pickBad := o = 0x36 && !imm && !iBU w
  let cvtBad := o = 0x40 && (bits w 36 3 ≠ 0 || bits w 43 3 ≠ 0 || cvtWidth (bits w 32 4) = 0 || cvtWidth (bits w 39 4) = 0 ||
    32 ≤ cvtWidth (bits w 32 4) * iSub w)
  (!imm && bits w 55 9 ≠ 0) || aBad || bBad || cBad || dBad || immBad || cmpBad || duBad || pickBad || cvtBad

/-- A format-M word is malformed (R340, R341). -/
def badM (vregs w : Nat) : Bool :=
  let o := iOp w
  bit w 8 || decide (5 ≤ iTy w) || badName vregs false (iDst w) || badName vregs (iAU w) (iA w) ||
    (iCU w && (o ≠ 0x50 || iBU w)) ||
    (o = 0x52 && (!iBU w || iTy w ≠ 4 || 10 ≤ iAop w || badName vregs false (iB w) || (iAop w = 9 && badName vregs false (iC w))))

/-- A format-S word is malformed (R343, R344). -/
def badS (vregs w : Nat) : Bool :=
  let o := iOp w
  bit w 8 || decide (bits w 60 4 ≠ 0) ||
    (o = 0x60 && (badName vregs false (iDst w) || badName vregs (iAU w) (iA w) || iOty w < 2 || 4 < iOty w)) ||
    (o = 0x61 && (!iAU w || 64 ≤ iA w)) || (o = 0x62 && badName vregs (iAU w) (iA w)) || (o = 0x64 && 58 < iDst w) ||
    (o = 0x70 && (!iAU w || 63 ≤ iA w || iA w % 2 ≠ 0 || badName vregs false (iDst w) || iNbytes w < 4 || 64 < iNbytes w ||
      iNbytes w % 4 ≠ 0 || iNkind w = 3)) ||
    (o = 0x71 && 64 ≤ iDst w)

/-- A word is malformed (R326 to R334). -/
def malformedIns (vregs w : Nat) : Bool :=
  let o := iOp w
  if o = 0x44 then bit w 8 || decide (bits w 22 10 ≠ 0) || badName vregs (bit w 21) (iDst w)
  else if isFmtC o then
    bit w 8 || decide (bits w 56 8 ≠ 0) || (iPen w && !(o = 1 || o = 2 || o = 3))
  else if isFmtA o then !tyAllowed o (iTy w) || badA vregs w
  else if isFmtM o then badM vregs w
  else if isFmtS o then !tyAllowed o (iTy w) || badS vregs w
  else true

/-! ## Operands of a group -/

/-- A group at its instruction: core, slot, group, launch, lanes served and executing, address and word. -/
structure TgAt where
  c : Nat
  slot : Nat
  g : Group
  l : Launch
  mask : Nat
  exec : Nat
  pc : Nat
  w : Nat
  deriving DecidableEq, Repr

/-- Lanes that execute, ascending. -/
def TgAt.lanes (x : TgAt) : List Nat := (List.range 32).filter (bit x.exec)

/-- A v register of a lane. -/
def State.vreg (s : State) (x : TgAt) (r lane : Nat) : Nat := (tblGet wordZero s.mem.rf (rfKey x.c (x.g.vbase.getD r 0) lane)).toNat

/-- The state with a v register of a lane written. -/
def State.setV (s : State) (x : TgAt) (r lane v : Nat) : State :=
  let k := rfKey x.c (x.g.vbase.getD r 0) lane
  { s with mem := { s.mem with rf := tblSet wordZero s.mem.rf k (BitVec.ofNat 32 v), rfBad := s.mem.rfBad.filter (· ≠ k) } }

/-- Where an instruction meets a fault: its slot, a lane, its address and its group. -/
def TgAt.site (x : TgAt) (lane : Nat) : TgSite := { slot := x.slot, lane := lane, pc := x.pc, group := x.g.index }

/-- A v or u register as a source in a lane. -/
def State.src (s : State) (x : TgAt) (u : Bool) (r lane : Nat) : Nat := if u then x.g.u.getD r 0 % 4294967296 else s.vreg x r lane

/-- The A operand of a lane. -/
def State.opA (s : State) (x : TgAt) (lane : Nat) : Nat := s.src x (iAU x.w) (iA x.w) lane
/-- The B operand of a lane: a register or the immediate (R329). -/
def State.opB (s : State) (x : TgAt) (lane : Nat) : Nat := if iImm x.w then immValue x.w else s.src x (iBU x.w) (iB x.w) lane
/-- The C operand of a lane; zero with an immediate (R335). -/
def State.opC (s : State) (x : TgAt) (lane : Nat) : Nat := if iImm x.w then 0 else s.src x (iCU x.w) (iC x.w) lane

end Sys2Proof.Machine
end

