-- ==== Sys2Proof/Machine/Flags.lean ====
section
/-! DEFINITION. Flags: guards, comparisons and predicate registers of thread groups (11). -/

namespace Sys2Proof.Machine

/-- Lanes whose guard holds (R331). -/
def guardMask (p : List Nat) (w : Nat) : Nat :=
  if iPen w then (if iPneg w then 0xFFFFFFFF - p.getD (iPg w) 0 % 4294967296 else p.getD (iPg w) 0) else 0xFFFFFFFF

/-- CMPI (R337): CMP 0 EQ, 1 NE, 2 LT, 3 LE, 4 GT, 5 GE; signed for TY 0. -/
def cmpInt (cmp ty a b : Nat) : Bool :=
  let x : Int := if ty = 0 then signed 32 a else a
  let y : Int := if ty = 0 then signed 32 b else b
  if cmp = 0 then x = y else if cmp = 1 then x ≠ y else if cmp = 2 then x < y else if cmp = 3 then x ≤ y
  else if cmp = 4 then y < x else y ≤ x

/-- CMPF (R337): a NaN operand makes NE true and every other comparison false. -/
def cmpFloat (cmp : Nat) (a b : FVal) : Bool :=
  if a = .nan || b = .nan then cmp = 1
  else if cmp = 0 then a.eq b else if cmp = 1 then !a.eq b else if cmp = 2 then a.lt b else if cmp = 3 then !b.lt a
  else if cmp = 4 then b.lt a else !a.lt b

/-- MOP (R337): 0 AND, 1 OR, 2 XOR, 3 AND-NOT. -/
def mopBits (cmp a b : Nat) : Nat :=
  if cmp = 0 then a &&& b else if cmp = 1 then a ||| b else if cmp = 2 then a ^^^ b else a &&& (0xFFFFFFFF - b % 4294967296)

/-- A predicate register with the executing lanes replaced by a mask's bits (R327). -/
def predWrite (old exec new : Nat) : Nat := (old &&& (0xFFFFFFFF - exec % 4294967296)) ||| (new &&& exec)

/-- The mask of the lanes of a list that satisfy a property. -/
def maskWhere (lanes : List Nat) (f : Nat → Bool) : Nat := lanes.foldl (fun m k => if f k then m ||| 2 ^ k else m) 0

end Sys2Proof.Machine
end

