-- ==== Sys2Proof/Machine/TgIsa.lean ====
section
/-! DEFINITION. TgIsa: the instructions of thread groups (10, 11). A command runs one instruction of the group in a slot:
fetch, checks, effect; it changes nothing when the group's next instruction is another one. -/

namespace Sys2Proof.Machine

/-! ## Serving a group -/

/-- Lanes that exist and have not ended. -/
def Group.alive (g : Group) : Nat := g.exist &&& (0xFFFFFFFF - g.ended % 4294967296)

/-- Lanes that continue at an address and are not WAITING: the set of R308. -/
def Group.setAt (g : Group) (a : Nat) : Nat :=
  maskWhere (List.range 32) (fun k => bit g.alive k && !bit g.waiting k && decide (g.resume.getD k 0 = a))

/-- The lowest lane of a mask. -/
def lowLane (m : Nat) : Option Nat := (List.range 32).find? (bit m)

/-- The lanes that the group serves next, and their address (R307, R308): the running set while its run lasts, else the set
whose lowest lane comes next in rotation. -/
def Group.serve (g : Group) (indep : Bool) : Option (Nat × Nat) :=
  if !indep then (if g.active = 0 then none else some (g.active, g.pc))
  else
    let ready := g.alive &&& (0xFFFFFFFF - g.waiting % 4294967296)
    let cont := if 0 < g.run then lowLane (g.active &&& ready) else none
    let lane := match cont with
      | some k => some k
      | none =>
        ((List.range 32).map (fun i => (g.last + 1 + i) % 32)).find? (fun k =>
          bit ready k && lowLane (g.setAt (g.resume.getD k 0)) == some k)
    lane.map (fun k => (g.setAt (g.resume.getD k 0), g.resume.getD k 0))

/-- A kill of the cluster at an instruction (R317, R318). -/
def State.tgKill (s : State) (x : TgAt) (code lane : Nat) : State :=
  (s.kill x.c 3 code x.l.step).tgFault x.c code x.slot lane x.pc x.g.index x.l.id

/-- An address lies in the launch's code (R306). -/
def Launch.holds (l : Launch) (a : Int) : Bool := (l.code : Int) ≤ a && a < l.code + 8 * l.codeLen

/-- Which instructions a mode forbids (Table 11-2, R310). -/
def modeBad (l : Launch) (o : Nat) : Bool :=
  (l.indep && (o = 3 || o = 4)) || (!l.indep && o = 8) || (o = 9 && !l.gang)

/-- Low 32 bits. -/
def lo32 (v : Nat) : Nat := v % 4294967296

/-- The source lane of XLANE (R337); sums and differences are taken modulo 2^32. -/
def xlaneFrom (cmp i b : Nat) : Nat :=
  let inLane (j : Nat) : Nat := if j < 32 then j else i
  if cmp = 0 then b % 32
  else if cmp = 1 then inLane (unsigned 32 ((i : Int) - b))
  else if cmp = 2 then inLane (lo32 (i + b))
  else i ^^^ (b % 32)

/-- The u and v registers that an instruction reads as sources of its executing lanes: whether each is a u register, and its number
(Table 11-1). -/
def TgAt.sources (x : TgAt) : List (Bool × Nat) :=
  let o := iOp x.w
  let a := (iAU x.w, iA x.w)
  let noA := [0x32, 0x33, 0x34, 0x35, 0x36]
  if isFmtC o || o = 0x44 then []
  else if isFmtA o then
    (if noA.contains o then [] else [a]) ++ (if readsB o && !iImm x.w then [(iBU x.w, iB x.w)] else []) ++
      (if readsC o && !iImm x.w then [(iCU x.w, iC x.w)] else []) ++ (if o = 0x34 || (o = 0x35 && iAU x.w) then [(true, iA x.w)] else [])
  else if o = 0x51 then [a, (false, iDst x.w)]
  else if o = 0x52 then [a, (false, iB x.w)] ++ (if iAop x.w = 9 then [(false, iC x.w)] else [])
  else if o = 0x61 then [(true, iA x.w)]
  else if o = 0x70 then [(true, iA x.w), (true, iA x.w + 1)]
  else if o = 0x50 || o = 0x60 || o = 0x62 then [a]
  else []

/-- The v registers that an instruction reads once for the group, in other lanes than its own: register and lane (R337, R344). -/
def State.farReads (s : State) (x : TgAt) : List (Nat × Nat) :=
  let o := iOp x.w
  if o = 0x36 then [(iA x.w, s.opB x 0 % 32)]
  else if o = 0x70 then (List.range (iNbytes x.w / 4)).map (fun i => (iDst x.w, i))
  else []

/-- The p registers that an instruction reads: its guard, and its predicate sources (R331, R335, R337). -/
def TgAt.preds (x : TgAt) : List Nat :=
  let o := iOp x.w
  (if iPen x.w then [iPg x.w] else []) ++
    (if o = 0x1C then [iC x.w] else if o = 0x32 then [iA x.w, iB x.w] else if o = 0x33 then [iA x.w] else [])

/-- The lowest executing lane that reads a v register whose parity is wrong, none where no lane does (R320, R351). What an instruction
reads once for the group is read by its lowest lane. -/
def State.badLane (s : State) (x : TgAt) : Option Nat :=
  let bad (r k : Nat) : Bool := s.mem.rfBad.contains (rfKey x.c (x.g.vbase.getD r 0) k)
  let far := s.farReads x
  let reads (k : Nat) : Bool :=
    x.sources.any (fun r => !r.1 && bad r.2 k) ||
      (if iOp x.w = 0x35 then !iAU x.w && bad (iA x.w) (xlaneFrom (iCmp x.w) k (s.opB x k))
       else lowLane x.exec == some k && far.any (fun r => bad r.1 r.2))
  if s.mem.rfBad.isEmpty then none else x.lanes.find? reads

/-- The lowest lane that reads a u or p register whose parity is wrong, none where no lane does (R320, R351): every lane served reads its
guard, every executing lane the rest. -/
def TgAt.upBadLane (x : TgAt) : Option Nat :=
  if iPen x.w && x.g.pBad.contains (iPg x.w) then lowLane x.mask
  else if x.preds.any x.g.pBad.contains || x.sources.any (fun r => r.1 && x.g.uBad.contains r.2) then lowLane x.exec
  else none

/-- The effect of an instruction whose operands are checked as they are read (R320): wrong parity aborts the launch, unless the
instruction kills the context (R324). -/
def State.checked (s : State) (x : TgAt) (run : TgAt → State → State) : State :=
  let t := run x s
  if t.get (fSeqState x.c) = 5 then t
  else
    match s.badLane x, x.upBadLane with
    | some k, _ => s.tgParity x.c x.l (x.site k)
    | none, some k => s.upParity x.c x.l (x.site k)
    | none, none => t

/-- Run the next instruction of a group when it has opcode `op` (R306, R331, R334, R351). -/
def State.atIns (s : State) (c slot op : Nat) (run : TgAt → State → State) : State :=
  match s.group c slot with
  | none => s
  | some g =>
    match s.launch c g.launch with
    | none => s
    | some l =>
      if g.hold ≠ 0 then s
      else
        match g.serve l.indep with
        | none => s
        | some (mask, pc) =>
          let x0 : TgAt := { c := c, slot := slot, g := g, l := l, mask := mask, exec := 0, pc := pc, w := 0 }
          let lane := (lowLane mask).getD 0
          if !l.holds pc then s.tgKill x0 0x11 lane
          else
            match s.fetchIns c pc l with
            | (s, .inl _) => s.tgKill x0 0x12 lane
            | (s, .inr (w, bad)) =>
              if bad then s.launchAbort c l (x0.site lane) .palette
              else if isOpcode (iOp w) && iOp w ≠ op then s
              else
                let g := { g with active := mask, last := if l.indep then lane else g.last, run := g.run + 1 }
                let x : TgAt := { x0 with g := g, exec := mask &&& guardMask g.p w, w := w }
                let s := s.bump (tgReg c 0x14)
                if malformedIns l.vregs w then s.tgKill x 0x10 lane
                else if modeBad l op then s.tgKill x 0x17 lane
                else s.checked x run

/-- Write back a group. -/
def State.putG (s : State) (x : TgAt) (g : Group) : State := s.setGroup x.c x.slot (some g)

/-- A served set after an instruction: its run ends at 16 instructions or when asked (R308). -/
def Group.ran (g : Group) (yield_ : Bool) : Group := { g with run := if yield_ || 16 ≤ g.run then 0 else g.run }

/-- The group goes on behind the instruction: every lane served advances (R308). -/
def Group.next (g : Group) (x : TgAt) : Group :=
  if x.l.indep then
    { g with resume := (List.range 32).map (fun k => if bit x.mask k then x.pc + 8 else g.resume.getD k 0) }
  else { g with pc := x.pc + 8 }

/-- End an instruction that only advances. -/
def State.done (s : State) (x : TgAt) (g : Group) : State := s.putG x ((g.next x).ran false)

/-- A lane's address (R340). -/
def State.memAddr (s : State) (x : TgAt) (k : Nat) : Nat := unsigned 32 ((s.src x (iAU x.w) (iA x.w) k : Int) + iOfs x.w)

/-- Poison at an instruction, in its lowest lane `k`: the launch aborts (R320, R351). -/
def State.poisoned (s : State) (x : TgAt) (k : Nat) (at_ : PoisonAt) : State := s.launchAbort x.c x.l (x.site k) at_

/-- A parity error in the local store at a lane: the launch aborts (R320). -/
def State.lsPoison (s : State) (x : TgAt) (n : Nat) : State :=
  s.tgParity x.c x.l (x.site ((x.lanes.find? (fun k => s.lsBad ((lsKey x.c x.l x.g (s.memAddr x k)).getD 0) n)).getD 0))

/-! ## Lane-wise results -/

/-- Write a u register. -/
def Group.setU (g : Group) (r v : Nat) : Group := { g with u := g.u.set r (v % 4294967296), uBad := g.uBad.filter (· ≠ r) }

/-- Write the result of a format-A instruction: `f lane` in every executing lane, or once to a u register (R327, R332). -/
def State.aluPut (s : State) (x : TgAt) (f : Nat → Nat) : State :=
  if iDU x.w then
    (match x.lanes with
      | [] => s.done x x.g
      | k :: _ => s.done x (x.g.setU (iDst x.w) (f k)))
  else
    let vs := x.lanes.map (fun k => (k, f k))
    (vs.foldl (fun s e => s.setV x (iDst x.w) e.1 e.2) s).done x x.g

/-- A format-A instruction of A, B and C (R335, R336). -/
def State.alu (s : State) (c slot op : Nat) (f : Nat → Nat → Nat → Nat → Nat) : State :=
  s.atIns c slot op (fun x s => s.aluPut x (fun k => f (iTy x.w) (s.opA x k) (s.opB x k) (s.opC x k)))

/-- The integer of a register by TY: signed for 0. -/
def tyInt (t v : Nat) : Int := if t = 0 then signed 32 v else v
/-- A floating result in TY (R265, R336). -/
def tyOut (t : Nat) (v : FVal) : Nat := (tyFmt t).encode false v
/-- Leading zeros of a 32-bit value. -/
def clz32 (v : Nat) : Nat := if v = 0 then 32 else 31 - Nat.log2 v
/-- Count of ones. -/
def ones32 (v : Nat) : Nat := ((List.range 32).filter (bit v)).length
/-- BSEL (R335). -/
def bselBytes (a b c : Nat) : Nat :=
  let v := a + 4294967296 * c
  (List.range 4).foldl (fun r k => r + 256 ^ k * bits v (8 * bits b (4 * k) 3) 8) 0
/-- Change of sign, or its removal, of a pattern; NaN gives the canonical NaN (R336). -/
def signOp (t a : Nat) (neg : Bool) : Nat :=
  let f := tyFmt t
  let w := 2 ^ (f.eb + f.mb)
  if tyVal t a = .nan then f.nan
  else
    let m := a % w
    if neg && decide (a / w % 2 = 0) then m + w else m

/-! ## Integer and move (R335) -/

/-- ADD. -/
def execAdd (c : Fin 8) (g : Fin 32) (s : State) : Out := s.run (fun s => .next (s.alu c g 0x10 (fun _ a b _ => lo32 (a + b))))
/-- SUB. -/
def execSub (c : Fin 8) (g : Fin 32) (s : State) : Out :=
  s.run (fun s => .next (s.alu c g 0x11 (fun _ a b _ => unsigned 32 ((a : Int) - b))))
/-- MUL. -/
def execMul (c : Fin 8) (g : Fin 32) (s : State) : Out := s.run (fun s => .next (s.alu c g 0x12 (fun _ a b _ => lo32 (a * b))))
/-- MULHI. -/
def execMulhi (c : Fin 8) (g : Fin 32) (s : State) : Out := s.run (fun s =>
  .next (s.alu c g 0x13 (fun t a b _ => unsigned 64 (tyInt t a * tyInt t b) / 4294967296)))
/-- MAD. -/
def execMad (c : Fin 8) (g : Fin 32) (s : State) : Out := s.run (fun s => .next (s.alu c g 0x14 (fun _ a b d => lo32 (a * b + d))))
/-- MIN. -/
def execMin (c : Fin 8) (g : Fin 32) (s : State) : Out := s.run (fun s =>
  .next (s.alu c g 0x15 (fun t a b _ => if tyInt t a ≤ tyInt t b then a else b)))
/-- MAX. -/
def execMax (c : Fin 8) (g : Fin 32) (s : State) : Out := s.run (fun s =>
  .next (s.alu c g 0x16 (fun t a b _ => if tyInt t a ≤ tyInt t b then b else a)))
/-- AND. -/
def execAnd (c : Fin 8) (g : Fin 32) (s : State) : Out := s.run (fun s => .next (s.alu c g 0x17 (fun _ a b _ => a &&& b)))
/-- OR. -/
def execOr (c : Fin 8) (g : Fin 32) (s : State) : Out := s.run (fun s => .next (s.alu c g 0x18 (fun _ a b _ => a ||| b)))
/-- XOR. -/
def execXor (c : Fin 8) (g : Fin 32) (s : State) : Out := s.run (fun s => .next (s.alu c g 0x19 (fun _ a b _ => a ^^^ b)))
/-- SHL. -/
def execShl (c : Fin 8) (g : Fin 32) (s : State) : Out := s.run (fun s =>
  .next (s.alu c g 0x1A (fun _ a b _ => if 32 ≤ b then 0 else lo32 (a * 2 ^ b))))
/-- SHR. -/
def execShr (c : Fin 8) (g : Fin 32) (s : State) : Out := s.run (fun s =>
  .next (s.alu c g 0x1B (fun t a b _ => unsigned 32 (tyInt t a / (2 ^ (min b 32) : Nat)))))
/-- SEL. -/
def execSel (c : Fin 8) (g : Fin 32) (s : State) : Out := s.run (fun s =>
  .next (s.atIns c g 0x1C (fun x s => s.aluPut x (fun k => if bit (x.g.p.getD (iC x.w) 0) k then s.opA x k else s.opB x k))))
/-- MOV. -/
def execMov (c : Fin 8) (g : Fin 32) (s : State) : Out := s.run (fun s => .next (s.alu c g 0x1D (fun _ a _ _ => a)))
/-- CLZ. -/
def execClz (c : Fin 8) (g : Fin 32) (s : State) : Out := s.run (fun s => .next (s.alu c g 0x1E (fun _ a _ _ => clz32 a)))
/-- ONES. -/
def execOnes (c : Fin 8) (g : Fin 32) (s : State) : Out := s.run (fun s => .next (s.alu c g 0x1F (fun _ a _ _ => ones32 a)))
/-- BSEL. -/
def execBsel (c : Fin 8) (g : Fin 32) (s : State) : Out := s.run (fun s => .next (s.alu c g 0x43 (fun _ a b d => bselBytes a b d)))
/-- MOVI. -/
def execMovi (c : Fin 8) (g : Fin 32) (s : State) : Out := s.run (fun s =>
  .next (s.atIns c g 0x44 (fun x s =>
    let v := bits x.w 32 32
    if bit x.w 21 then (if x.exec = 0 then s.done x x.g else s.done x (x.g.setU (iDst x.w) v))
    else (x.lanes.foldl (fun s k => s.setV x (iDst x.w) k v) s).done x x.g)))

/-! ## Floating point (R336) -/

/-- FADD. -/
def execFadd (c : Fin 8) (g : Fin 32) (s : State) : Out := s.run (fun s =>
  .next (s.alu c g 0x20 (fun t a b _ => tyOut t ((tyVal t a).add (tyVal t b)))))
/-- FSUB. -/
def execFsub (c : Fin 8) (g : Fin 32) (s : State) : Out := s.run (fun s =>
  .next (s.alu c g 0x21 (fun t a b _ => tyOut t ((tyVal t a).add (tyVal t b).neg))))
/-- FMUL. -/
def execFmul (c : Fin 8) (g : Fin 32) (s : State) : Out := s.run (fun s =>
  .next (s.alu c g 0x22 (fun t a b _ => tyOut t ((tyVal t a).mul (tyVal t b)))))
/-- FMA: one rounding. -/
def execFma (c : Fin 8) (g : Fin 32) (s : State) : Out := s.run (fun s =>
  .next (s.alu c g 0x23 (fun t a b d => tyOut t (((tyVal t a).mul (tyVal t b)).add (tyVal t d)))))
/-- FMIN. -/
def execFmin (c : Fin 8) (g : Fin 32) (s : State) : Out := s.run (fun s =>
  .next (s.alu c g 0x24 (fun t a b _ => if t = 2 then fminBits fp32 a b else fminBits (tyFmt t) (a % 65536) (b % 65536))))
/-- FMAX. -/
def execFmax (c : Fin 8) (g : Fin 32) (s : State) : Out := s.run (fun s =>
  .next (s.alu c g 0x25 (fun t a b _ => if t = 2 then fmaxBits fp32 a b else fmaxBits (tyFmt t) (a % 65536) (b % 65536))))
/-- FNEG. -/
def execFneg (c : Fin 8) (g : Fin 32) (s : State) : Out := s.run (fun s => .next (s.alu c g 0x26 (fun t a _ _ => signOp t a true)))
/-- FABS. -/
def execFabs (c : Fin 8) (g : Fin 32) (s : State) : Out := s.run (fun s => .next (s.alu c g 0x27 (fun t a _ _ => signOp t a false)))

/-! ## Predicates and lanes (R337) -/

/-- Write a predicate register in the executing lanes. -/
def State.predPut (s : State) (x : TgAt) (new : Nat) : State :=
  let d := iDst x.w
  s.done x { x.g with p := x.g.p.set d (predWrite (x.g.p.getD d 0) x.exec new), pBad := x.g.pBad.filter (· ≠ d) }

/-- CMPI. -/
def execCmpi (c : Fin 8) (g : Fin 32) (s : State) : Out := s.run (fun s =>
  .next (s.atIns c g 0x30 (fun x s =>
    s.predPut x (maskWhere x.lanes (fun k => cmpInt (iCmp x.w) (iTy x.w) (s.opA x k) (s.opB x k))))))
/-- CMPF. -/
def execCmpf (c : Fin 8) (g : Fin 32) (s : State) : Out := s.run (fun s =>
  .next (s.atIns c g 0x31 (fun x s =>
    let t := iTy x.w
    s.predPut x (maskWhere x.lanes (fun k => cmpFloat (iCmp x.w) (tyVal t (s.opA x k)) (tyVal t (s.opB x k)))))))
/-- MOP. -/
def execMop (c : Fin 8) (g : Fin 32) (s : State) : Out := s.run (fun s =>
  .next (s.atIns c g 0x32 (fun x s => s.predPut x (mopBits (iCmp x.w) (x.g.p.getD (iA x.w) 0) (x.g.p.getD (iB x.w) 0)))))
/-- MPACK. -/
def execMpack (c : Fin 8) (g : Fin 32) (s : State) : Out := s.run (fun s =>
  .next (s.atIns c g 0x33 (fun x s =>
    if x.exec = 0 then s.done x x.g else s.done x (x.g.setU (iDst x.w) (x.exec &&& x.g.p.getD (iA x.w) 0)))))
/-- MUNPK. -/
def execMunpk (c : Fin 8) (g : Fin 32) (s : State) : Out := s.run (fun s =>
  .next (s.atIns c g 0x34 (fun x s => s.predPut x (x.g.u.getD (iA x.w) 0))))

/-- XLANE. -/
def execXlane (c : Fin 8) (g : Fin 32) (s : State) : Out := s.run (fun s =>
  .next (s.atIns c g 0x35 (fun x s => s.aluPut x (fun k => s.opA x (xlaneFrom (iCmp x.w) k (s.opB x k))))))
/-- LPICK. -/
def execLpick (c : Fin 8) (g : Fin 32) (s : State) : Out := s.run (fun s =>
  .next (s.atIns c g 0x36 (fun x s =>
    if x.exec = 0 then s.done x x.g else s.done x (x.g.setU (iDst x.w) (s.vreg x (iA x.w) (s.opB x 0 % 32))))))

/-! ## Conversion (R338, R339) -/

/-- CVT. -/
def execCvt (c : Fin 8) (g : Fin 32) (s : State) : Out := s.run (fun s =>
  .next (s.atIns c g 0x40 (fun x s =>
    let st := bits x.w 32 4
    let wd := cvtWidth st
    s.aluPut x (fun k => cvtOut (bits x.w 39 4) (cvtIn st (bits (s.opA x k) (wd * iSub x.w) wd))))))
/-- BSUNP. -/
def execBsunp (c : Fin 8) (g : Fin 32) (s : State) : Out := s.run (fun s =>
  .next (s.alu c g 0x41 (fun _ a b _ => fp32.encode true (bs8Val (a % 256) (b % 256)))))
/-- BSPK: lanes 0 to 15 and 16 to 31 are a block each; a lane that does not execute contributes +0. -/
def execBspk (c : Fin 8) (g : Fin 32) (s : State) : Out := s.run (fun s =>
  .next (s.atIns c g 0x42 (fun x s =>
    let block (b : Nat) : Nat × List Nat :=
      toBs8 ((List.range 16).map (fun i => if bit x.exec (16 * b + i) then f32 (s.opA x (16 * b + i)) else .fin false 0 0))
    let b0 := block 0
    let b1 := block 1
    s.aluPut x (fun k =>
      let b := if k < 16 then b0 else b1
      b.2.getD (k % 16) 0 + 256 * b.1))))

/-! ## Memory (R312 to R315, R340 to R342) -/

/-- The first fault of an access: code and lane (R312, R314, R351). -/
def State.memFault (s : State) (x : TgAt) (write : Bool) : State × Option (Nat × Nat) :=
  let n := szBytes (iTy x.w)
  match x.lanes.find? (fun k => s.memAddr x k % n ≠ 0) with
  | some k => (s, some (0x14, k))
  | none =>
    if iBU x.w then
      (s, (x.lanes.find? (fun k => (lsKey x.c x.l x.g (s.memAddr x k)).isNone)).map (fun k => (0x13, k)))
    else
      match x.lanes.find? (fun k => (s.palCheck (s.coreWho x.c) false write x.c (s.memAddr x k) n).2 ≠ 0) with
      | some k => ((s.palCheck (s.coreWho x.c) false write x.c (s.memAddr x k) n).1, some (0x12, k))
      | none => (s, none)

/-- The local-store key of a lane. -/
def State.memKey (s : State) (x : TgAt) (k : Nat) : Nat := (lsKey x.c x.l x.g (s.memAddr x k)).getD 0

/-- Count the bank conflicts of a local-store access (R314). -/
def State.countConflicts (s : State) (x : TgAt) : State := s.bumpBy (tgReg x.c 0x20) (lsConflicts (x.lanes.map (s.memKey x)))

/-- LD. -/
def execLd (c : Fin 8) (g : Fin 32) (s : State) : Out := s.run (fun s =>
  .next (s.atIns c g 0x50 (fun x s =>
    let n := szBytes (iTy x.w)
    match s.memFault x false with
    | (s, some (code, lane)) => s.tgKill x code lane
    | (s, none) =>
      if iBU x.w && x.lanes.any (fun k => s.lsBad (s.memKey x k) n) then s.lsPoison x n
      else if iBU x.w then
        let vs := x.lanes.map (fun k => (k, szExtend (iTy x.w) (s.lsRead (s.memKey x k) n)))
        (vs.foldl (fun s e => s.setV x (iDst x.w) e.1 e.2) (s.countConflicts x)).done x x.g
      else
        let as := x.lanes.map (fun k => (k, s.memAddr x k))
        let (s, vs, bad) := as.foldl (fun (r : State × List (Nat × Nat) × Option Nat) e =>
          let (s, bs, p) := r.1.tgLoad x.c e.2 n (!iCU x.w) x.l
          (s, r.2.1 ++ [(e.1, szExtend (iTy x.w) bs)], r.2.2 <|> (if p then some e.1 else none))) (s, [], none)
        match bad with
        | some k => s.poisoned x k .palette
        | none => (vs.foldl (fun s e => s.setV x (iDst x.w) e.1 e.2) s).done x x.g)))

/-- ST: lanes in ascending order (R342). -/
def execSt (c : Fin 8) (g : Fin 32) (s : State) : Out := s.run (fun s =>
  .next (s.atIns c g 0x51 (fun x s =>
    let n := szBytes (iTy x.w)
    match s.memFault x true with
    | (s, some (code, lane)) => s.tgKill x code lane
    | (s, none) =>
      if iBU x.w then
        (x.lanes.foldl (fun s k => s.lsWrite (s.memKey x k) (leBytes n (s.vreg x (iDst x.w) k))) (s.countConflicts x)).done x x.g
      else
        (x.lanes.foldl (fun s k =>
          let bs := leBytes n (s.vreg x (iDst x.w) k)
          (s.palPut x.c (s.memAddr x k) bs).cacheStore x.c (s.memAddr x k) bs) s).done x x.g)))

/-- The word that an atomic operation writes (R341). -/
def atomResult (op old v cmp : Nat) : Nat :=
  if op = 0 then lo32 (old + v)
  else if op = 1 then (if signed 32 old ≤ signed 32 v then old else v)
  else if op = 2 then min old v
  else if op = 3 then (if signed 32 old ≤ signed 32 v then v else old)
  else if op = 4 then max old v
  else if op = 5 then old &&& v
  else if op = 6 then old ||| v
  else if op = 7 then old ^^^ v
  else if op = 8 then v
  else if old = cmp then v else old

/-- ATOM: lanes in ascending order; each receives the value before its own operation (R315, R341). -/
def execAtom (c : Fin 8) (g : Fin 32) (s : State) : Out := s.run (fun s =>
  .next (s.atIns c g 0x52 (fun x s =>
    match s.memFault x true with
    | (s, some (code, lane)) => s.tgKill x code lane
    | (s, none) =>
      if x.lanes.any (fun k => s.lsBad (s.memKey x k) 4) then s.lsPoison x 4
      else
      let ops := x.lanes.map (fun k => (k, s.memKey x k, s.vreg x (iB x.w) k, s.vreg x (iC x.w) k))
      let (s, olds) := ops.foldl (fun (r : State × List (Nat × Nat)) e =>
        let old := leNat (r.1.lsRead e.2.1 4)
        (r.1.lsWrite e.2.1 (leBytes 4 (atomResult (iAop x.w) old e.2.2.1 e.2.2.2)), r.2 ++ [(e.1, old)])) (s.countConflicts x, [])
      (olds.foldl (fun s e => s.setV x (iDst x.w) e.1 e.2) s).done x x.g)))

/-! ## Special functions, row statistics, notes (R343, R344) -/

/-- SFU. -/
def execSfu (c : Fin 8) (g : Fin 32) (s : State) : Out := s.run (fun s =>
  .next (s.atIns c g 0x60 (fun x s =>
    let slot := iSlot x.w
    if x.exec = 0 then s.done x x.g
    else if (s.sfuSlot x.c slot).ready = false then s.sfuKill x.c 1 slot x.l.step
    else
      let xs := x.lanes.map (fun k => (k, toF32 (tyVal (iTy x.w) (s.opA x k))))
      let (s, vs, bad) := xs.foldl (fun (r : State × List (Nat × Nat) × Option Nat) e =>
        if r.2.2.isSome then r
        else
          let (s, y, p) := r.1.sfuEval x.c slot e.2
          (s, r.2.1 ++ [(e.1, (tyFmt (iOty x.w)).encode true (f32 y))], if p then some e.1 else none)) (s, [], none)
      match bad with
      | some k => s.poisoned x k .slot
      | none => (vs.foldl (fun s e => s.setV x (iDst x.w) e.1 e.2) s).done x x.g)))

/-- An accumulator lies in the launch's allocation (R343). -/
def Launch.ownsRow (l : Launch) (r : Nat) : Bool := l.rsFirst ≤ r && r < l.rsFirst + l.rsCount

/-- A row-statistics instruction, once its accumulators are the launch's (R343, Table 9-6). -/
def State.rowOp (s : State) (c slot op : Nat) (two : Bool) (run : TgAt → State → State) : State :=
  s.atIns c slot op (fun x s =>
    if x.exec = 0 then s.done x x.g
    else if !x.l.ownsRow (iRs x.w) then s.sfuKill x.c 2 (iRs x.w) x.l.step
    else if two && !x.l.ownsRow (iRs2 x.w) then s.sfuKill x.c 2 (iRs2 x.w) x.l.step
    else run x s)

/-- RSCLR. -/
def execRsclr (c : Fin 8) (g : Fin 32) (s : State) : Out := s.run (fun s =>
  .next (s.rowOp c g 0x61 false (fun x s => (s.setRowAcc x.c (iRs x.w) { k := x.g.u.getD (iA x.w) 0 }).done x x.g)))
/-- RSADD. -/
def execRsadd (c : Fin 8) (g : Fin 32) (s : State) : Out := s.run (fun s =>
  .next (s.rowOp c g 0x62 false (fun x s =>
    let acc := s.rowAcc x.c (iRs x.w)
    let xs := (List.range 32).map (fun k => if bit x.exec k then rowElem acc.k (s.opA x k) else { k := acc.k })
    (s.setRowAcc x.c (iRs x.w) (rowMerge acc (rowTree xs))).done x x.g)))
/-- RSMRG. -/
def execRsmrg (c : Fin 8) (g : Fin 32) (s : State) : Out := s.run (fun s =>
  .next (s.rowOp c g 0x63 true (fun x s =>
    let v := s.rowAcc x.c (iRs x.w)
    let u := s.rowAcc x.c (iRs2 x.w)
    if u.k ≠ v.k then s.sfuKill x.c 3 (iRs x.w) x.l.step
    else (s.setRowAcc x.c (iRs x.w) (rowMerge v u)).done x x.g)))
/-- RSRD. -/
def execRsrd (c : Fin 8) (g : Fin 32) (s : State) : Out := s.run (fun s =>
  .next (s.rowOp c g 0x64 false (fun x s =>
    let ws := (s.rowAcc x.c (iRs x.w)).words
    s.done x ((List.range 6).foldl (fun g i => g.setU (iDst x.w + i) (word ws i)) x.g))))

/-- NOTE: the group waits while the slot is BUSY (R344); a NOTE that waits has not issued. -/
def execNote (c : Fin 8) (g : Fin 32) (s : State) : Out := s.run (fun was =>
  .next (was.atIns c g 0x70 (fun x s =>
    let sl := iNslot x.w
    if x.exec = 0 then s.done x x.g
    else if (s.reg (aNoteStat x.c sl)).toNat % 4 = 1 then was
    else
      let a := dmaReg x.c (0x200 + 0x80 * sl)
      let s := (s.setReg a (BitVec.ofNat 32 (x.g.u.getD (iA x.w) 0))).setReg (a + 4) (BitVec.ofNat 32 (x.g.u.getD (iA x.w + 1) 0))
      let s := (List.range (iNbytes x.w / 4)).foldl (fun s i =>
        s.setReg (a + 0x40 + 4 * i) (BitVec.ofNat 32 (s.vreg x (iDst x.w) i))) s
      let s := s.setReg (a + 8) (BitVec.ofNat 32 (iNbytes x.w + 128 * iNkind x.w))
      let s := s.noteGo x.c sl (s.get (fTenant x.c))
      let busy := decide ((s.reg (aNoteStat x.c sl)).toNat % 4 = 1)
      s.done x (if busy then { x.g with notes := x.g.notes ++ [sl] } else x.g))))
/-- NOTEST. -/
def execNotest (c : Fin 8) (g : Fin 32) (s : State) : Out := s.run (fun s =>
  .next (s.atIns c g 0x71 (fun x s =>
    if x.exec = 0 then s.done x x.g
    else s.done x (x.g.setU (iDst x.w) ((s.reg (aNoteStat x.c (iNslot x.w))).toNat % 65536)))))

/-! ## Control (R306 to R310, R345 to R348) -/

/-- NOP. -/
def execNop (c : Fin 8) (g : Fin 32) (s : State) : Out := s.run (fun s => .next (s.atIns c g 0x00 (fun x s => s.done x x.g)))

/-- A group ends (R299, R302): its slot, registers and granules are free; its notes stay with the launch. -/
def State.groupEnd (s : State) (x : TgAt) : State :=
  let s := s.setGroup x.c x.slot none
  match s.launch x.c x.l.step with
  | some l => (s.setLaunch x.c { l with ended := l.ended + 1, notes := l.notes ++ x.g.notes }).showTg x.c
  | none => s

/-- Pop entries until a mask is not empty (R345): the address and mask to go on with, and the stack left. -/
def popLive : List (Nat × Nat × Bool) → Option (Nat × Nat × List (Nat × Nat × Bool))
  | [] => none
  | (pc, m, rcv) :: rest => if m = 0 then popLive rest else some (if rcv then pc + 8 else pc, m, rest)

/-- EXIT (R345). -/
def execExit (c : Fin 8) (g : Fin 32) (s : State) : Out := s.run (fun s =>
  .next (s.atIns c g 0x01 (fun x s =>
    let off := 0xFFFFFFFF - x.exec
    let e : Group := { x.g with ended := x.g.ended ||| x.exec }
    if e.alive = 0 then s.groupEnd x
    else if x.l.indep then s.putG x ((e.next x).ran (x.mask = x.exec))
    else
      let e := { e with active := e.active &&& off, stack := e.stack.map (fun t => (t.1, t.2.1 &&& off, t.2.2)) }
      if e.active ≠ 0 then s.done x e
      else
        match popLive e.stack with
        | none => s.groupEnd x
        | some (pc, m, rest) =>
          if x.l.holds pc then s.putG x (({ e with pc := pc, active := m, stack := rest } : Group).ran false)
          else s.tgKill x 0x11 ((lowLane m).getD 0))))

/-- BRA (R346, R308). -/
def execBra (c : Fin 8) (g : Fin 32) (s : State) : Out := s.run (fun s =>
  .next (s.atIns c g 0x02 (fun x s =>
    let target := (x.pc : Int) + 8 * iTgt x.w
    let lane := (lowLane x.exec).getD 0
    if x.exec = 0 then s.done x x.g
    else if !x.l.indep && x.exec ≠ x.mask then s.tgKill x 0x17 ((lowLane x.mask).getD 0)
    else if !x.l.holds target then s.tgKill x 0x11 lane
    else if x.l.indep then
      let n := x.g.next x
      let r := (List.range 32).map (fun k => if bit x.exec k then target.toNat else n.resume.getD k 0)
      s.putG x (({ n with resume := r } : Group).ran (iTgt x.w ≤ 0))
    else s.putG x (({ x.g with pc := target.toNat } : Group).ran false))))

/-- BRD (R347). -/
def execBrd (c : Fin 8) (g : Fin 32) (s : State) : Out := s.run (fun s =>
  .next (s.atIns c g 0x03 (fun x s =>
    let target := (x.pc : Int) + 8 * iTgt x.w
    let rcv := unsigned 32 ((x.pc : Int) + 8 * iRcv x.w)
    let f := x.mask &&& (0xFFFFFFFF - x.exec)
    let lane := (lowLane x.mask).getD 0
    let both := x.exec ≠ 0 && f ≠ 0
    if 16 < x.g.stack.length + (if both then 2 else 1) then s.tgKill x 0x15 lane
    else
      let st := (rcv, x.mask, true) :: x.g.stack
      if both then s.done x { x.g with stack := (unsigned 32 target, x.exec, false) :: st, active := f }
      else if x.exec ≠ 0 then
        if x.l.holds target then s.putG x (({ x.g with pc := target.toNat, stack := st } : Group).ran false)
        else s.tgKill x 0x11 lane
      else s.done x { x.g with stack := st })))

/-- RCV (R347). -/
def execRcv (c : Fin 8) (g : Fin 32) (s : State) : Out := s.run (fun s =>
  .next (s.atIns c g 0x04 (fun x s =>
    let lane := (lowLane x.mask).getD 0
    match x.g.stack with
    | [] => s.tgKill x 0x16 lane
    | (pc, m, true) :: rest =>
      if pc = x.pc then s.done x { x.g with active := m, stack := rest } else s.tgKill x 0x16 lane
    | (pc, m, false) :: rest =>
      if x.l.holds pc then s.putG x (({ x.g with pc := pc, active := m, stack := rest } : Group).ran false)
      else s.tgKill x 0x11 ((lowLane m).getD 0))))

/-- YIELD (R348). -/
def execYield (c : Fin 8) (g : Fin 32) (s : State) : Out :=
  s.run (fun s => .next (s.atIns c g 0x05 (fun x s => s.putG x ((x.g.next x).ran true))))

/-- WAIT (R348): only notes outlast the instruction that issued them in this model. -/
def execWait (c : Fin 8) (g : Fin 32) (s : State) : Out := s.run (fun s =>
  .next (s.atIns c g 0x06 (fun x s => s.putG x ({ (x.g.next x).ran true with hold := if x.g.notes.isEmpty then 0 else 1 }))))

/-- FENCE (R348): every store and atomic issued earlier has been granted. -/
def execFence (c : Fin 8) (g : Fin 32) (s : State) : Out := s.run (fun s => .next (s.atIns c g 0x07 (fun x s => s.done x x.g)))

/-- JOIN (R348): the threads served wait at the JOIN. -/
def execJoin (c : Fin 8) (g : Fin 32) (s : State) : Out := s.run (fun s =>
  .next (s.atIns c g 0x08 (fun x s => s.putG x (({ x.g with waiting := x.g.waiting ||| x.mask } : Group).ran true))))

/-- Every thread that has not ended waits at one address. -/
def Group.allWait (g : Group) : Option Nat :=
  match lowLane g.alive with
  | none => none
  | some k =>
    let a := g.resume.getD k 0
    if (List.range 32).all (fun j => !bit g.alive j || (bit g.waiting j && decide (g.resume.getD j 0 = a))) then some a else none

/-- LBAR (R310, R348). -/
def execLbar (c : Fin 8) (g : Fin 32) (s : State) : Out := s.run (fun s =>
  .next (s.atIns c g 0x09 (fun x s =>
    if x.l.indep then
      let e : Group := ({ x.g with waiting := x.g.waiting ||| x.mask } : Group).ran true
      s.putG x e
    else if !x.g.stack.isEmpty then s.tgKill x 0x16 ((lowLane x.mask).getD 0)
    else s.putG x { (x.g.next x).ran false with hold := 3 })))

/-- WAIT of a group ends once its notes have finished (R348). -/
def execWaitRelease (c : Fin 8) (g : Fin 32) (s : State) : Out := s.run (fun s =>
  .next (
    match s.group c g with
    | some x => if x.hold = 1 && x.notes.isEmpty then s.setGroup c g (some { x with hold := 0 }) else s
    | none => s))

/-- The waiting threads of a group go on behind the instruction they wait at. -/
def Group.release (g : Group) : Group :=
  { g with resume := (List.range 32).map (fun k => if bit g.waiting k then g.resume.getD k 0 + 8 else g.resume.getD k 0),
           waiting := 0, hold := 0 }

/-- JOIN ends when every thread that has not ended has reached the same JOIN (R348). -/
def execJoinRelease (c : Fin 8) (g : Fin 32) (s : State) : Out := s.run (fun s =>
  .next (
    match s.group c g with
    | some x =>
      (match x.allWait with
        | some a => if x.hold = 0 && iOp (s.insAt c a) = 8 then s.setGroup c g (some x.release) else s
        | none => s)
    | none => s))

/-- A group has arrived at LBAR: it is held there, or in independent mode every thread that has not ended waits at one (R348). -/
def State.atLbar (s : State) (c : Nat) (g : Group) : Bool :=
  g.hold = 3 || (match g.allWait with
    | some a => decide (g.hold = 0 ∧ iOp (s.insAt c a) = 9)
    | none => false)

/-- LBAR of a launch ends when every group has arrived or ended (R310, R348). -/
def execLbarRelease (c : Fin 8) (st : Nat) (s : State) : Out := s.run (fun s =>
  .next (
    match s.launch c st with
    | none => s
    | some l =>
      let mine := (s.tgGroups c).filter (fun e => e.2.launch = st)
      if l.next < l.groups || mine.isEmpty || mine.any (fun e => !s.atLbar c e.2) then s
      else mine.foldl (fun s e => s.setGroup c e.1 (some e.2.release)) s))

/-! ## Re-runs -/

/-- The core issues again once no aborted step waits. -/
def State.rerunOut (s : State) (c : Nat) (r : Rerun) : State :=
  let s := s.onSeq c (fun q => { q with reruns := q.reruns.erase r })
  if (s.core c).seq.reruns.isEmpty then s.set (fSeqState c) 1 else s

/-- An aborted step issues again, or waits for its arrays, channel, slots or memory (R229). One that had not issued yet simply goes on;
the kept stream of a channel goes before its queue (R211). Its entry is read again as it was read first (R159, R217). -/
def State.rerunStep (s : State) (c : Nat) (r : Rerun) : State :=
  if r.step = s.get (fSeqPc c) then s.rerunOut c r
  else
  let (s, f) := s.palCheck (s.coreWho c) false false c (s.stepAddr c r.step) 64
  if f ≠ 0 then s.kill c 0 0x04 r.step
  else
  let (s, bs, bad) := s.palRead c (s.stepAddr c r.step) 64 5 r.step r.attempt
  let ws := words16 bs
  let ch := bits (word ws 0) 8 3
  let q := s.chan c ch
  let l : Launch := { step := r.step, words := ws, param := [], attempt := r.attempt }
  if bad then (s.onSeq c (fun q => { q with reruns := q.reruns.erase r })).poisonAbort c r.step .palette true
  else if word ws 0 % 256 = 1 then (if s.tensorFree c ws then (s.rerunOut c r).tensorStart c r.step r.attempt ws else s)
  else if word ws 0 % 256 = 2 then
    if (q.kept.map (fun k => k.1.step)) = some r.step then
      ((s.rerunOut c r).setChan c ch { q with again := some (s.dmaDesc c r.step r.attempt ws) }).showDma c
    else if 4 ≤ q.queue.length then s
    else (s.rerunOut c r).dmaPush c ch r.step r.attempt ws
  else if word ws 0 % 256 = 3 then
    if s.launchTurn c l && s.launchRoom c l then s.launchIssue c l (fun s => s.rerunOut c r) else s
  else s.rerunOut c r

/-- The first aborted step that waits for no re-fetch is issued again ahead of every step not yet issued (R229). -/
def execRerunIssue (c : Fin 8) (s : State) : Out := s.run (fun s =>
  .next (
    match (s.core c).seq.reruns.find? (fun r => !r.refetch) with
    | none => s
    | some r => if s.get (fSeqState c) = 4 then s.rerunStep c r else s))

end Sys2Proof.Machine
end

