-- ==== Sys2Proof/Machine/Access.lean ====
section
/-! DEFINITION. Access: the chip-local address map, who may reach what, and reads and writes of registers with their side
effects (R712 to R720). -/

namespace Sys2Proof.Machine

/-- The windows of Tables 25-1 and 25-2. -/
inductive MapWindow where
  | none
  | rom
  | sram
  | pal (c : Nat)
  | acc (c : Nat)
  | store (c : Nat)
  | core (c : Nat)
  | reg
  | mailbox
  deriving DecidableEq, Repr

/-- The agents of Table 25-4 that reach register windows whole. -/
inductive Agent where
  | safety
  | service
  | fabric (who : Who)
  | spi
  deriving DecidableEq, Repr

/-- First and last address of the register windows outside the cores (Table 25-1). -/
def regWindows : List (Nat × Nat) :=
  [(0x20000000, 0x20003FFF), (0x20100000, 0x2013FFFF), (0x20200000, 0x20204FFF), (0x20300000, 0x20300FFF), (0x21000000, 0x21005FFF),
   (0x21008000, 0x21008FFF), (0x21009000, 0x21009FFF), (0x22000000, 0x22002FFF), (0x23000000, 0x23002FFF), (0x24000000, 0x24002FFF),
   (0x25000000, 0x25000FFF), (0x26000000, 0x26000FFF), (0x27000000, 0x2700FFFF)]

/-- An address lies between two others. -/
def within (a lo hi : Nat) : Bool := decide (lo ≤ a) && decide (a ≤ hi)

/-- The window that holds a chip-local address (R712, R713). -/
def State.windowOf (s : State) (a : Nat) : MapWindow :=
  let c := (a - 0x10000000) / 0x1000000
  let o := a % 0x1000000
  if a < 0x10000 then .rom
  else if isSram a then .sram
  else if within a 0x10000000 0x17FFFFFF then
    if o < 0x400000 then .pal c
    else if o < 0x440000 then .acc c
    else if within o 0x500000 0x51FFFF && decide (o < 0x500000 + 256 * granuleCount (s.core c).tg.split) then .store c
    else if within o 0xF00000 0xF0FFFF then .core c
    else .none
  else if within a 0x26001000 0x260013FF then .mailbox
  else if regWindows.any (fun w => within a w.1 w.2) then .reg
  else .none

/-- The bit of `CLK_GATE` that covers an address (Table 4-6): a camera pipeline's bit covers its ground stage. -/
def gateOf (a : Nat) : Option Nat :=
  if within a 0x10000000 0x17FFFFFF then some ((a - 0x10000000) / 0x1000000)
  else if within a 0x20000000 0x20003FFF then some (8 + (a - 0x20000000) / 0x1000)
  else if within a 0x20100000 0x2013FFFF then some (8 + (a - 0x20100000) / 0x10000)
  else if within a 0x20200000 0x20204FFF then some 12
  else if within a 0x20300000 0x20300FFF then some 13
  else if within a 0x22000000 0x22001FFF then some (14 + (a - 0x22000000) / 0x1000)
  else none

/-- The block at an address is gated, or is a core in PARK (R720). -/
def State.gated (s : State) (a : Nat) : Bool :=
  match gateOf a with
  | some g => !s.clocked g || (decide (g < 8) && s.get fMode = 2)
  | none => false

/-- The four producer registers of a feed that a tenant may write, and the feed (R650). -/
def feedProducer (a : Nat) : Option Nat :=
  let o := (a - 0x20201000) % 0x800
  if within a 0x20201000 0x20204FFF && (o = 0x28 || o = 0x2C || (within o 0x200 0x3FF && (o % 0x80 = 0x24 || o % 0x80 = 0x28))) then
    some ((a - 0x20201000) / 0x800)
  else none

/-- Whether an agent reaches a register (Table 25-4). -/
def State.reaches (s : State) (ag : Agent) (write : Bool) (a : Nat) : Bool :=
  let monitors := within a 0x24000000 0x24000FFF
  let beats := within a 0x24002000 0x24002FFF
  match ag with
  | .service => !write || (!monitors && !beats)
  | .safety =>
    if write then monitors || beats
    else within a 0x24000000 0x24002FFF || within a 0x23000000 0x23000FFF || within a 0x23002000 0x23002FFF || a = 0x21008060
  | .spi => within a 0x26000000 0x260000FF
  | .fabric w =>
    if w.ten = 7 then !write || (!within a 0x24000000 0x24002FFF && !within a 0x25000000 0x25000FFF)
    else write && (match feedProducer a with | some f => s.get ⟨0x25000030, 4 * f, 3⟩ = w.ten | none => false)

/-- What a register access ends in: 0 it is performed, 2 address fault, 3 fence fault (R714, R715, R720). -/
def State.regErr (s : State) (ag : Agent) (write : Bool) (a : Nat) : Nat :=
  match s.windowOf a with
  | .core _ => if s.gated a then 2 else if s.reaches ag write a then 0 else 3
  | .reg => if s.gated a then 2 else if s.reaches ag write a then 0 else 3
  | _ => 2

/-- The source of an agent's writes, as R652 captures it. -/
def Agent.who (ag : Agent) (s : State) : Who := match ag with | .fabric w => w | _ => s.firmware

/-! ### Reads -/

/-- Addresses of the LO words whose read latches the HI word (R718). -/
def latchingLo (a : Nat) : Bool :=
  a = 0x23000048 ||
  (within a 0x20201000 0x20204FFF && ((a - 0x20201000) % 0x800 = 0x38 || (a - 0x20201000) % 0x800 = 0xF0)) ||
  (within a 0x20100000 0x2013FFFF && (a % 0x10000 = 0xE0 || a % 0x10000 = 0x110)) ||
  (within a 0x22000000 0x22001FFF && (a % 0x1000 = 0x80 || a % 0x1000 = 0x88))

/-- Consecutive milliseconds of a port without a heartbeat; 3 from SILENT to the next arrival (R580). -/
def State.missed (s : State) (p : Nat) : Nat :=
  if bit (s.reg (0x24002020 + 0x20 * p)).toNat 2 then 3 else if s.active p then min 3 (s.ctMs - ((s.port p).missMs + 1)) else 0

/-- Microseconds since the last accepted watchdog service (Table 21-7). -/
def State.wdtAge (s : State) : Nat :=
  if s.saf.wdtOn then min 0xFFFFFF ((s.now - s.saf.wdtAt.getD s.saf.wdtFrom) / us) else 0

/-- A register's value as a read shows it: levels of the pins, and fields that time moves. -/
def State.regValue (s : State) (a : Nat) : Word :=
  if a = 0x21008000 then BitVec.ofNat 32 (s.straps % 128)
  else if a = 0x2700F004 then BitVec.ofNat 32 (s.straps % 512)
  else if a = 0x27003008 then BitVec.ofNat 32 (s.per.gpioIn % 65536)
  else if a = 0x27004000 then BitVec.ofNat 32 (s.per.doorIn % 256)
  else if a = 0x23000014 then BitVec.ofNat 32 s.tim.ctHi
  else if a = 0x24000024 then BitVec.ofNat 32 s.wdtAge
  else if within a 0x24002020 0x240020DF && a % 0x20 = 0 then
    (s.reg a &&& 0xFFFFFFFC#32) ||| BitVec.ofNat 32 (s.missed ((a - 0x24002020) / 0x20))
  else s.reg a

/-- Read a register with the side effects of R718: the state after it and the word. -/
def State.regRead (s : State) (a : Nat) : State × Word :=
  if a = 0x23000010 then s.ctLoRead
  else if within a 0x20000000 0x20003FFF && a % 0x1000 = 0x100 then s.frecRead ((a - 0x20000000) / 0x1000)
  else if a = 0x27002008 || a = 0x27002108 then s.uartPop ((a - 0x27002000) / 0x100)
  else if latchingLo a then ({ s with latch := tblSet (fun _ => none) s.latch (a + 4) (some (s.reg (a + 4))) }, s.reg a)
  else match tblGet (fun _ => none) s.latch a with
    | some v => ({ s with latch := tblSet (fun _ => none) s.latch a none }, v)
    | none => (s, s.regValue a)

/-- The LO word of a pair is read (R718). -/
def execPairLoRead (a : Nat) (s : State) : Out := s.run (fun s => .next (if latchingLo a then (s.regRead a).1 else s))

/-! ### Writes -/

/-- The lock of a register's RWL fields: LOCKED of `SAF_LOCK`, and FIELD for `CLK_MON_EN` (R624, R633). -/
def State.locked (s : State) (a : Nat) : Bool :=
  (safetySet.contains a && s.get fSafLocked = 1) || (a = 0x23000084 && s.lifecycle = 2)

/-- A plain write. -/
def State.plainWrite (s : State) (who : Who) (a : Nat) (v : Word) : State := s.putReg who (s.locked a) a v

/-- A write into a core's register space. -/
def State.coreWrite (s : State) (who : Who) (c o : Nat) (v : Word) (a : Nat) : State :=
  if o = 0xF00008 then s.bankPower c v.toNat
  else if within o 0xF00100 0xF0017F && o % 0x10 < 12 then s.rgnWrite who c ((o - 0xF00100) / 0x10) (o % 0x10 / 4) v
  else if within o 0xF00200 0xF003FF then
    let w := (o - 0xF00200) / 0x20
    if o % 0x20 = 4 then s.winCfg c w v
    else if o % 0x20 = 0x14 then s.winRelease c w (v.toNat % 65536)
    else if o % 0x20 = 0 && s.winOpen c w then s
    else s.plainWrite who a v
  else if within o 0xF01000 0xF010FF && o % 0x20 = 0 then
    if v.getLsbD 0 then (s.flushChan c ((o - 0xF01000) / 0x20)).showDma c else s
  else if within o 0xF01200 0xF013FF && o % 0x80 = 8 then
    let s := s.plainWrite who a v
    if v.getLsbD 9 then s.noteGo c ((o - 0xF01200) / 0x80) who.ten else s
  else if o = 0xF02000 then s.seqCtl c v
  else if o = 0xF0202C then s.seqNextCtl c v
  else if o = 0xF04004 then
    let i := v.toNat % 16
    let s := s.setReg a (BitVec.ofNat 32 i)
    let s := if v.getLsbD 9 then s.sfuEmpty c i else s
    if v.getLsbD 8 then s.sfuLoadGo c i else s
  else s.plainWrite who a v

/-- A write of a camera register (R374). -/
def State.camWrite (s : State) (who : Who) (p o : Nat) (v : Word) (a : Nat) : State :=
  if o = 0 then s.camCtlWrite p v.toNat
  else if o = 0x94 then
    let s := if v.getLsbD 1 then s.setFlush p else s
    if v.getLsbD 0 then s.setQueue p else s
  else if 0x800 ≤ o then s.setramWrite p ((o - 0x800) / 8) (decide (o % 8 = 4)) v
  else if (o ≤ 0x18 || within o 0xA0 0xBF) && s.get (fCamEn p) = 1 then s.camCfgErr p
  else s.plainWrite who a v

/-- COMMIT and ABORT of a parameter set (Table 14-4). -/
def State.commitWrite (s : State) (who : Who) (t : Nat) (v : Word) (a : Nat) : State :=
  let s := s.plainWrite who a v
  let s := if v.getLsbD 0 then s.setCommit t else s
  if v.getLsbD 1 then s.setAbort t else s

/-- A write of a ground-stage register (R406, R407). -/
def State.grdWrite (s : State) (who : Who) (p o : Nat) (v : Word) (a : Nat) : State :=
  match shadowSet a with
  | some t => s.shadowWrite t (fun s => s.plainWrite who a v)
  | none =>
    if o = 0x108 then s.commitWrite who p v a
    else if (within o 0x10 0x1F || within o 0x40 0xBF) && s.get (fCamEn p) = 1 then s
    else s.plainWrite who a v

/-- A write of a feed register (R428, R434): EN of the feed and of its outputs may change while the feed runs; its other fields that
are not shadowed may not. -/
def State.feedWrite (s : State) (who : Who) (f o : Nat) (v : Word) (a : Nat) : State :=
  let on := s.get (fFeedEn f) = 1
  match shadowSet a with
  | some t => s.shadowWrite t (fun s => s.plainWrite who a v)
  | none =>
    if o = 0 then (if on then s else s.set ⟨a, 1, 27⟩ (v.toNat / 2)).feedEnWrite f (v.getLsbD 0)
    else if o = 0x28 then s.availWrite f v
    else if o = 0x2C then s.verdictWrite f v
    else if within o 0x200 0x3FF && o % 0x80 = 0x24 then s.plainWrite who a v
    else if within o 0x200 0x3FF && o % 0x80 = 0x28 then s.layerReady f ((o - 0x200) / 0x80) (s.reg (a - 4)) v
    else if o = 0xE8 then s.commitWrite who (4 + f) v a
    else if o = 0x40 || o = 0xE0 || o = 0xE4 then s.plainWrite who a v
    else if (o = 0x100 || o = 0x140 || o = 0x400) && on then
      s.outputEn f (if o = 0x100 then 1 else if o = 0x140 then 2 else 3) (v.getLsbD 0)
    else if on then s
    else s.plainWrite who a v

/-- A write of an Ethernet or MDIO register (R721, R722). -/
def State.ethWrite (s : State) (who : Who) (e o : Nat) (v : Word) (a : Nat) : State :=
  if e = 2 then (if o = 0 then s.mdioWrite v else s.plainWrite who a v)
  else if o = 0 then s.ethCtlWrite e v
  else if within o 8 0x1F && s.get (fEthEn e) = 1 then s.ethCfgErr e
  else s.plainWrite who a v

/-- A write of a register of the clock, power, calibration, safety, security, mailbox and peripheral blocks. -/
def State.blockWrite (s : State) (who : Who) (a : Nat) (v : Word) : State :=
  if a = aGate then s.gateWrite v
  else if a = 0x23000028 then (s.setRoot (v.getLsbD 0)).set fSyncEn (b2n (v.getLsbD 1))
  else if a = 0x23001000 then
    let s := s.plainWrite who a v
    if v.getLsbD 0 then s.calTrigger else s
  else if a = 0x23002010 then s.coreRstWrite v.toNat
  else if a = 0x23002024 then s.govWrite v
  else if a = 0x24000010 then
    let s := s.plainWrite who a v
    if v.getLsbD 1 then s.owStop else s
  else if a = 0x24000014 then s.permitWrite (v.toNat % 65536)
  else if a = 0x24000020 then s.wdtService (v.toNat % 65536)
  else if a = 0x24002010 then s.hbRefresh v
  else if a = 0x25000330 then s.extWrite who v
  else if within a 0x25000400 0x250004FF then s.fencePut who a v
  else if within a 0x26000000 0x260003FF && a % 0x100 = 0 then s.mbxPost ((a - 0x26000000) / 0x100) v
  else if within a 0x26000000 0x260003FF && a % 0x100 = 8 then s.mbxOutClear ((a - 0x26000000) / 0x100) v
  else if a = 0x27000004 then s.qspiWrite v
  else if a = 0x27001004 then s.i2cWrite v
  else if a = 0x27002004 || a = 0x27002104 then s.uartPush ((a - 0x27002000) / 0x100) (v.setWidth 8)
  else if a = 0x27003000 || a = 0x27003004 then s.gpioWrite a v
  else s.plainWrite who a v

/-- A granted register write with all its side effects (R717). -/
def State.regWrite (s : State) (who : Who) (a : Nat) (v : Word) : State :=
  if within a 0x10000000 0x17FFFFFF then s.coreWrite who ((a - 0x10000000) / 0x1000000) (a % 0x1000000) v a
  else if within a 0x20000000 0x20003FFF then s.camWrite who ((a - 0x20000000) / 0x1000) (a % 0x1000) v a
  else if within a 0x20100000 0x2013FFFF then s.grdWrite who ((a - 0x20100000) / 0x10000) (a % 0x10000) v a
  else if within a 0x20201000 0x20204FFF then s.feedWrite who ((a - 0x20201000) / 0x800) ((a - 0x20201000) % 0x800) v a
  else if within a 0x21000000 0x21005FFF && a % 0x1000 = 0 then s.linkCtlWrite ((a - 0x21000000) / 0x1000) v.toNat
  else if within a 0x22000000 0x22002FFF then s.ethWrite who ((a - 0x22000000) / 0x1000) (a % 0x1000) v a
  else s.blockWrite who a v

/-- The core whose window holds an address completes a core-local reset before an access there (R690, R720). -/
def State.settle (s : State) (a : Nat) : State :=
  if within a 0x10000000 0x17FFFFFF then s.coreResetDone ((a - 0x10000000) / 0x1000000) else s

/-- The agent of an operand: 0 safety pair, 1 service core, 2 fabric ingress with TEN 7, 3 SPI target. -/
def agentOf (s : State) (k : Nat) : Agent :=
  if k = 0 then .safety else if k = 1 then .service else if k = 2 then .fabric s.firmware else .spi

/-- A register write takes effect at its grant (R717); one that faults, or is not of an aligned word, changes nothing (R714 to
R716). The safety pair writes while it runs (R472, R475). -/
def execRegisterWrite (ag : Fin 4) (a : Nat) (v : Word) (s : State) : Out := s.run (fun s =>
  let s := s.settle a
  let who := agentOf s ag
  .next (if a % 4 = 0 && s.regErr who true a = 0 && !(ag = 0 && !s.pairOn) then s.regWrite (who.who s) a v else s))

/-! ### Spans of bytes (R716) -/

/-- The control SRAM answers an access with 3: by a tenant, or to the fenced safety partition (R467, R468). -/
def State.sramFenced (s : State) (ag : Agent) (a n : Nat) : Bool :=
  (match ag with | .fabric w => decide (w.ten ≠ 7) | .spi => true | _ => false) ||
  (ag ≠ .safety && (s.reg 0x24001010).getLsbD 0 && decide (0x1380000 < a + n))

/-- Accumulator words under their key. -/
def State.accBytes (s : State) (c o n : Nat) : List Byte :=
  (List.range n).map (fun i =>
    let w := tblGet wordZero s.mem.acc (65536 * c + (o + i) / 4)
    w.extractLsb' (8 * ((o + i) % 4)) 8)

/-- Write a byte of an accumulator word. -/
def State.accPut (s : State) (c o : Nat) : List Byte → State
  | [] => s
  | b :: bs =>
    let k := 65536 * c + o / 4
    let old := leBytes 4 (tblGet wordZero s.mem.acc k).toNat
    let new := BitVec.ofNat 32 (leNat (old.set (o % 4) b))
    ({ s with mem := { s.mem with acc := tblSet wordZero s.mem.acc k new } } : State).accPut c (o + 1) bs

/-- Read register words in ascending address. -/
def State.regReads (s : State) (a : Nat) : Nat → State × List Byte
  | 0 => (s, [])
  | n + 1 =>
    let (s, w) := s.regRead a
    let (s, bs) := s.regReads (a + 4) n
    (s, leBytes 4 w.toNat ++ bs)

/-- Read `n` bytes at a chip-local address: an ERR code, or the bytes and whether they are poisoned (R165, R320, R716). -/
def State.spanRead (s : State) (ag : Agent) (a n : Nat) : State × (Nat ⊕ (List Byte × Bool)) :=
  let s := s.settle a
  let who := ag.who s
  let w := s.windowOf a
  let fits := s.windowOf (a + n - 1) = w
  if w = .none || s.gated a || !fits then (s, .inl 2)
  else match w with
    | .rom => if who.ten = 7 then (s, .inr ((List.range n).map (fun i => Config.bootRom (a + i)), false)) else (s, .inl 3)
    | .sram =>
      if s.sramFenced ag a n then (s, .inl 3)
      else ((s.cacheTouch a n false).sramEcc (a - 0x1000000) n, .inr (tblGets byteZero s.mem.sram (a - 0x1000000) n, false))
    | .pal c =>
      match s.palCheck who false false c (a % 0x1000000) n with
      | (t, 0) =>
        let (t, bs, bad) := t.palRead c (a % 0x1000000) n 2 0xFFFF 1
        (t, .inr (bs, bad))
      | (t, f) => (t, .inl f)
    | .acc c => if who.ten = 7 then (s, .inr (s.accBytes c (a % 0x1000000 - 0x400000) n, false)) else (s, .inl 3)
    | .store c =>
      if who.ten = 7 then
        let k := 131072 * c + (a % 0x1000000 - 0x500000)
        let bad := s.lsBad k n
        (if bad then s.tgPerr c else s, .inr (s.lsRead k n, bad))
      else (s, .inl 3)
    | .mailbox => (s, .inl 2)
    | _ =>
      if a % 4 ≠ 0 || n % 4 ≠ 0 then (s, .inl 2)
      else match (List.range (n / 4)).findSome? (fun i => let e := s.regErr ag false (a + 4 * i); if e = 0 then none else some e) with
        | some e => (s, .inl e)
        | none => let (s, bs) := s.regReads a (n / 4); (s, .inr (bs, false))

/-- Write register words in ascending address until one is refused: the state and the ERR code (R716). -/
def State.regWrites (s : State) (ag : Agent) (a : Nat) (bs : List Byte) : Nat → State × Nat
  | 0 => (s, 0)
  | n + 1 =>
    match s.regErr ag true a with
    | 0 => (s.regWrite (ag.who s) a (BitVec.ofNat 32 (leNat (bs.take 4)))).regWrites ag (a + 4) (bs.drop 4) n
    | e => (s, e)

/-- Write bytes at a chip-local address: the state and the ERR code, 0 when it is done (R716). -/
def State.spanWrite (s : State) (ag : Agent) (a : Nat) (bs : List Byte) : State × Nat :=
  let s := s.settle a
  let who := ag.who s
  let n := bs.length
  let w := s.windowOf a
  let fits := s.windowOf (a + n - 1) = w
  if w = .none || s.gated a || !fits then (s, 2)
  else match w with
    | .rom => (s, if who.ten = 7 then 0 else 3)
    | .sram =>
      if s.sramFenced ag a n then (s, 3)
      else
        let s := (s.cacheTouch a n true).sramEccWrite (a - 0x1000000) n
        ({ s with mem := { s.mem with sram := tblSets byteZero s.mem.sram (a - 0x1000000) bs } }, 0)
    | .pal c =>
      match s.palCheck who false true c (a % 0x1000000) n with
      | (t, 0) => (t.palPut c (a % 0x1000000) bs, 0)
      | (t, f) => (t, f)
    | .acc c => if who.ten = 7 then (s.accPut c (a % 0x1000000 - 0x400000) bs, 0) else (s, 3)
    | .store c => if who.ten = 7 then (s.lsWrite (131072 * c + (a % 0x1000000 - 0x500000)) bs, 0) else (s, 3)
    | .mailbox => (s, 2)
    | _ => if a % 4 ≠ 0 || n % 4 ≠ 0 then (s, 2) else s.regWrites ag a bs (n / 4)

end Sys2Proof.Machine
end

