-- ==== Sys2Proof/Machine/KmpCmds.lean ====
section
/-! DEFINITION. KmpCmds: the commands of the mailbox protocol on nodes, the configuration record, cameras, streams and registers
(17). -/

namespace Sys2Proof.Machine

/-- The refusals that the chip of another node may give to a command, each with whether a cause byte follows (Table 17-7): they rest on
that chip's state. -/
def farRefusals (r : Req) : List (Nat × Bool) :=
  let own : List (Nat × Bool) := if r.role = 4 then [] else [(0x0105, false)]
  let fault : List (Nat × Bool) := [(0x0A02, true)]
  match r.code with
  | 0x0400 => (0x0403, false) :: fault
  | 0x0401 => (0x0402, true) :: fault
  | 0x0402 => own ++ (0x0404, false) :: fault
  | 0x0403 => own ++ fault
  | 0x0404 => (0x0504, false) :: fault
  | 0x0405 => fault
  | 0x0406 => (0x010B, false) :: (0x0403, false) :: fault
  | 0x0500 => (0x0503, false) :: fault
  | 0x0501 => (0x0502, true) :: (0x010B, false) :: fault
  | 0x0502 => (0x0504, false) :: fault
  | 0x0503 => (0x0503, false) :: fault
  | 0x0504 => fault
  | 0x0505 => fault
  | 0x0A00 => fault
  | 0x0A01 => fault
  | _ => []

/-- Run a command on its node: here, or by an order to that node's firmware. What another chip answers is its own: status 0 with `len`
bytes, or one of its refusals, all free values (log entry 15). -/
def State.here (s : State) (r : Req) (n len : Nat) (run : State → State) : State :=
  s.onNode r n (fun s =>
    if n = s.node then run s
    else
      let (s, k) := (s.emit (.order n r.code r.data)).freeNat
      let no := farRefusals r
      match no[k % (no.length + 1)]? with
      | some (st, cause) =>
        let (s, bs) := s.foreign (if cause then 1 else 0)
        s.respond r st bs
      | none =>
        let (s, bs) := s.foreign len
        s.respond r 0 bs)

/-- Read registers at these addresses, as firmware does. -/
def State.readWords (s : State) (as : List Nat) : State × List Byte :=
  as.foldl (fun (x : State × List Byte) a =>
    let (s, w) := x.1.regRead a
    (s, x.2 ++ leBytes 4 w.toNat)) (s, [])

/-- Write the words of `bs` to registers at these addresses, as firmware does. -/
def State.writeWords (s : State) (as : List Nat) (bs : List Byte) : State :=
  ((List.range as.length).zip as).foldl (fun s x => s.regWrite s.firmware x.2 (BitVec.ofNat 32 (fieldAt bs (4 * x.1) 4))) s

/-- The bytes from `o` to before `e` are zero. -/
def zeros (bs : List Byte) (o e : Nat) : Bool := fieldAt bs o (e - o) = 0

/-! ### Nodes and links -/

/-- STATE of NODE_STATUS (Table 17-23). -/
def State.nodeState (s : State) (n : Nat) : Nat :=
  if s.loss.pole = some n then 1
  else if s.live n then 0
  else if s.loss.changes.any (fun c => c.1 = n && c.2.1) then 3
  else if s.loss.refused.any (fun x => x.1 = n) then 4
  else if bit s.loss.committed n || s.loss.losses.any (fun x => x.1 = n) || bit (s.cfgField 20 8) n then 2
  else 5

/-- NODE_STATUS (R520, Table 17-23): of another live node the live fields are that node's own; of a lost one FW_VERSION and BOOTS
are those of its last heartbeat, which a neighbour holds in `SAF_HB_PORT_n`, and the live fields read zero. Of a node that is no neighbour
they are free bytes. -/
def execNodeStatus (r : Req) (s : State) : Out := s.run (fun s =>
  s.serve r (fun s =>
    let n := byteAt r.data 0
    let (s, x) := s.foreign 44
    let st := s.nodeState n
    let own := n = s.node
    let live := decide (st ≤ 1)
    let pick (o k v : Nat) : List Byte := if own then leBytes k v else if live then slice x o k else leBytes k 0
    let port := (List.range 6).find? (fun p => s.get (fPeerNode p) = n && bit s.loss.heard n && n ≠ s.node)
    let beat (o v w : Nat) : List Byte :=
      if own then leBytes 4 v
      else match port with
        | some p => if live then slice x o 4 else leBytes 4 (s.reg (aHbPort p + 4 + 4 * w)).toNat
        | none => slice x o 4
    let lossAt := ((s.loss.losses.find? (fun l => l.1 = n)).map (fun l => l.2)).getD 0
    let why := ((s.loss.refused.find? (fun l => l.1 = n)).map (fun l => l.2)).getD 0
    let conflicts := b2n s.loss.dup + 2 * b2n (s.eth 0).conflict + 4 * b2n (s.eth 1).conflict
    if r.data.length ≠ 1 then s.respond r 0x0109 []
    else if 63 < n then s.respond r 0x0201 []
    else
      s.respond r 0 (leBytes 1 n ++ leBytes 1 st ++ pick 2 1 s.lifecycle ++ pick 3 1 (s.get fMode) ++ beat 4 s.sec.running 2 ++
        beat 8 (s.reg 0x23002008).toNat 3 ++ pick 12 4 (s.reg 0x23002000).toNat ++ leBytes 1 (min 255 (s.recentLosses n)) ++
        leBytes 1 why ++ pick 18 1 conflicts ++ leBytes 1 0 ++ leBytes 8 lossAt ++
        (List.range 6).flatMap (fun p => pick (28 + p) 1 (s.get (fLnkState p))) ++ pick 34 1 (s.get fLevel) ++ leBytes 1 0 ++
        pick 36 2 (unsigned 16 s.hottest) ++ leBytes 2 0 ++ pick 40 4 (s.reg aPower).toNat)))

/-- The registers of a link port, in ascending order (Tables 2-13 to 2-16). -/
def linkRegs (p : Nat) : List Nat :=
  ([0, 4, 8, 0xC, 0x10, 0x14, 0x18, 0x20, 0x24, 0x28, 0x2C, 0x30, 0x34, 0x38, 0x3C, 0x40, 0x44, 0x50, 0x54, 0x58, 0x5C] : List Nat).map
    (fun o => lnkBase p + o)

/-- LINK_STATUS: every `LNK_P_n_` register, in ascending order. -/
def execLinkStatus (r : Req) (s : State) : Out := s.run (fun s =>
  s.serve r (fun s =>
    let p := byteAt r.data 1
    if decide (r.data.length ≠ 2) || decide (5 < p) then s.respond r 0x0109 []
    else s.here r (byteAt r.data 0) 84 (fun s =>
      let (s, bs) := s.readWords (linkRegs p)
      s.respond r 0 bs)))

/-- SET_FRAME_RATE (R134): only while no tenant is admitted; the change happens at boundary B, at least 2 epochs ahead. -/
def execSetFrameRate (r : Req) (s : State) : Out := s.run (fun s =>
  s.serve r (fun s =>
    let rate := byteAt r.data 0
    if decide (r.data.length ≠ 1) || decide (1 < rate) then s.respond r 0x0109 []
    else if !s.loss.formed then s.respond r 0x010B []
    else if (List.range 4).any s.tenantOn then s.respond r 0x0203 []
    else if s.opBusy r.code [(4, 0)] then s.respond r 0x0108 []
    else if b2n s.tim.rate25 = rate then s.respond r 0 []
    else
      let b := s.tim.epoch + 3
      let (s, op) := s.opStart r [(4, 0)]
      ({ s with con := { s.con with rateOp := some (op, b) } } : State).broadcast (beaconBytes 0x41 ([0#8] ++ leBytes 1 rate) b)))

/-! ### The configuration record (R518, R519) -/

/-- Offset and length of a section (Table 17-18). -/
def cfgSection (n : Nat) : Nat × Nat :=
  ([(16, 160), (176, 16), (192, 420), (612, 2048), (2660, 516), (3176, 64), (3240, 8)] : List (Nat × Nat)).getD n (0, 0)

/-- The node IDs that KIND and the sizes imply (Table 17-19). -/
def impliedNodes (kind xs ys : Nat) : Nat :=
  if kind = 2 then
    ((List.range 64).filter (fun n => decide (n % 8 < xs) && decide (n / 8 < ys))).foldl (fun m n => m + 2 ^ n) 0
  else 2 ^ xs - 1

/-- Section 0 keeps Table 17-19 and the checks of R519. -/
def topologyOk (b : List Byte) : Bool :=
  let kind := byteAt b 0
  let xs := byteAt b 1
  let ys := byteAt b 2
  let nodes := fieldAt b 4 8
  let spurs := (List.range (byteAt b 3)).map (fun i => (byteAt b (32 + 4 * i), byteAt b (33 + 4 * i), byteAt b (34 + 4 * i), byteAt b (35 + 4 * i)))
  let port (p : Nat) : Bool := p = 4 || p = 5
  decide (kind ≤ 2) && decide ((if kind = 1 then 3 else 2) ≤ xs) &&
    (if kind = 2 then decide (xs ≤ 8) && decide (2 ≤ ys) && decide (ys ≤ 8) else decide (xs ≤ 64) && ys = 1) &&
    decide (byteAt b 3 ≤ 32) && nodes = impliedNodes kind xs ys && decide (byteAt b 20 ≤ 1) && zeros b 21 32 &&
    spurs.all (fun x => bit nodes x.1 && port x.2.1 && bit nodes x.2.2.1 && port x.2.2.2) && decide (spurs.eraseDups.length = spurs.length)

/-- Section 1 keeps Table 17-20. -/
def identityOk (b : List Byte) : Bool :=
  let pmax := fieldAt b 4 2
  let thr := byteAt b 6
  fieldAt b 0 2 ≠ 0 && decide (byteAt b 2 < 16) && byteAt b 3 = 0 && decide (4000 ≤ pmax) && decide (pmax ≤ 10000) && decide (95 ≤ thr) &&
    decide (thr ≤ 120) && decide (byteAt b 7 < 4) && decide (byteAt b 8 < 64) && decide (byteAt b 9 < 16) && zeros b 10 16

/-- Section 2 keeps Table 17-18. -/
def signersOk (b : List Byte) : Bool :=
  decide (byteAt b 0 ≤ 8) && zeros b 1 4 && (List.range 8).all (fun i => decide (byteAt b (52 * i + 52) < 16) && zeros b (52 * i + 53) (52 * i + 56))

/-- Nodes that section 3 may name: those of section 0, and before it is set the members. -/
def State.recordNodes (s : State) : Nat := if s.topologySet then s.cfgField 20 8 else s.loss.members ||| 2 ^ s.node

/-- Offsets of the used entries of a section 3 body. -/
def netEntries (b : List Byte) : List Nat := ((List.range 64).map (fun i => 32 * i)).filter (fun o => byteAt b o ≠ 0xFF)

/-- Section 3 keeps Table 17-21 and the checks of R519. -/
def State.networkOk (s : State) (b : List Byte) : Bool :=
  let es := netEntries b
  let line (v : Nat) : Bool := decide (v < 16) || v = 0xFF
  es.all (fun o =>
    bit s.recordNodes (byteAt b o) && decide (byteAt b (o + 1) ≤ 1) && decide (byteAt b (o + 2) &&& 0xF4 = 0) && byteAt b (o + 3) = 0 &&
      decide (576 ≤ fieldAt b (o + 4) 2) && decide (fieldAt b (o + 4) 2 ≤ 9000) && decide (fieldAt b (o + 6) 2 < 32768) &&
      fieldAt b (o + 8) 6 ≠ 0 && !bit (byteAt b (o + 8)) 0 && line (byteAt b (o + 14)) && line (byteAt b (o + 15)) &&
      line (byteAt b (o + 16)) && zeros b (o + 17) (o + 20)) &&
    decide ((es.map (fun o => (byteAt b o, byteAt b (o + 1)))).eraseDups.length = es.length)

/-- Firmware brings a port to its entry: it clears EN, writes the registers and sets EN again (R519). -/
def State.applyPort (s : State) (b : List Byte) (o : Nat) : State :=
  let e := byteAt b (o + 1)
  let ptp := s.get (fPtpEn e)
  let s := s.ethCtlWrite e (s.reg (ethReg e 0) &&& 0x3FFF000E#32)
  let s := s.setReg64 (ethReg e 8) (beAt b (o + 8) 6)
  let s := (s.setReg (ethReg e 0x10) (BitVec.ofNat 32 (beAt b (o + 20) 4))).setReg (ethReg e 0x14) (BitVec.ofNat 32 (beAt b (o + 24) 4))
  let s := (s.setReg (ethReg e 0x18) (BitVec.ofNat 32 (beAt b (o + 28) 4))).setReg (ethReg e 0x1C) (BitVec.ofNat 32 (fieldAt b (o + 6) 2))
  s.ethCtlWrite e (BitVec.ofNat 32 (byteAt b (o + 2) + 4 * ptp + 65536 * fieldAt b (o + 4) 2))

/-- Firmware brings this chip's ports to section 3 of the record. An entry with a zero address has never been written. -/
def State.applyNetwork (s : State) : State :=
  let b := s.cfgBytes 612 2048
  ((netEntries b).filter (fun o => byteAt b o = s.node && fieldAt b (o + 8) 6 ≠ 0)).foldl (fun s o => s.applyPort b o) s

/-- Section 0 has been set: new tables under R477; the dateline ports follow. -/
def State.topologyChanged (s : State) : State :=
  if s.isPole && s.loss.formed then
    let t := s.topo s.loss.members
    let s := (nodesOf s.loss.members).foldl (fun s n =>
      (List.range 4).foldl (fun s p =>
        if n = s.node then s.set (fDateline p) (b2n (t.dateline n p))
        else s.regsTo n (0x21008020 + 4 * p) (leBytes 4 ((s.reg (0x21008020 + 4 * p)).toNat / 2 * 2 + b2n (t.dateline n p)))) s) s
    s.reroute s.loss.members s.soon
  else s.firstTables

/-- What a written section changes beside the record (R519). -/
def State.sectionEffect (s : State) (n : Nat) : State :=
  if n = 0 then s.topologyChanged
  else if n = 1 then
    (nodesOf (without s.loss.members s.node)).foldl (fun s k => s.emit (.order k 0x0202 (leBytes 4 1 ++ s.cfgBytes 176 16))) s.govRecord
  else if n = 3 then
    let b := s.cfgBytes 612 2048
    let others := (((netEntries b).map (byteAt b)).filter (fun k => k ≠ s.node)).eraseDups
    others.foldl (fun s k => s.emit (.order k 0x0202 (leBytes 4 3 ++ b))) s.applyNetwork
  else s

/-- The result of SET_CONFIG_RECORD. -/
def State.cfgResult (s : State) : List Byte := s.cfgBytes 8 4 ++ leBytes 4 s.configCrc ++ s.cfgBytes 12 4

/-- SET_CONFIG_RECORD (R519). A body that the record already holds changes nothing (R509). -/
def execSetConfigRecord (r : Req) (s : State) : Out := s.run (fun s =>
  s.serve r (fun s =>
    let h := byteAt r.data 0
    let n := h % 8
    let (o, len) := cfgSection n
    let read := bit h 7
    let b := r.data.drop 4
    if decide (r.data.length < 4) || decide (bits h 3 4 ≠ 0) || decide (6 < n) || !zeros r.data 1 4 then s.respond r 0x0109 []
    else if read then
      if b.length ≠ 0 then s.respond r 0x0109 [] else s.respond r 0 (s.cfgResult ++ s.cfgBytes o len)
    else if decide (3 < n) || decide (b.length ≠ len) then s.respond r 0x0109 []
    else if n = 0 && (List.range 4).any s.tenantOn then s.respond r 0x010B []
    else if !(if n = 0 then topologyOk b else if n = 1 then identityOk b else if n = 2 then signersOk b else s.networkOk b) then
      s.respond r 0x0204 []
    else if s.cfgBytes o len = b then s.respond r 0 s.cfgResult
    else
      let s := ((s.cfgPut o b).recordChanged).sectionEffect n
      s.respond r 0 s.cfgResult))

/-- PTP_CONFIG (R521): section 6 of the record, applied to the pole's own ports. -/
def execPtpConfig (r : Req) (s : State) : Out := s.run (fun s =>
  s.serve r (fun s =>
    let b := s.cfgBytes 612 2048
    let on := (netEntries b).any (fun o =>
      byteAt b o = s.node && byteAt b (o + 1) = byteAt r.data 1 && bit (byteAt b (o + 2)) 0 && fieldAt b (o + 8) 6 ≠ 0)
    if decide (r.data.length ≠ 8) || decide (1 < byteAt r.data 0) || decide (1 < byteAt r.data 1) || decide (127 < byteAt r.data 2) ||
        decide (1 < byteAt r.data 3) || !zeros r.data 4 8 || !on then s.respond r 0x0109 []
    else if s.cfgBytes 3240 8 = r.data then s.respond r 0 []
    else (((s.cfgPut 3240 r.data).recordChanged).applyPtp).respond r 0 []))

/-! ### Cameras (R515, R516, R522, R523) -/

/-- A command on a camera of a node: the pipeline exists, and its block is clocked, or the access faults (Table 17-7). -/
def State.onCamera (s : State) (r : Req) (len : Nat) (run : State → Nat → State) : State :=
  let p := byteAt r.data 1
  s.onNode r (byteAt r.data 0) (fun s =>
    if 3 < p then s.respond r 0x0401 []
    else s.here r (byteAt r.data 0) len (fun s =>
      if s.gated (camReg p 0) then s.respond r 0x0A02 (leBytes 1 2) else run s p))

/-- The tenant of a camera. -/
def fCamTenant (p : Nat) : Fld := ⟨camReg p 0x18, 0, 3⟩

/-- A session may act on a camera: the operator, or the tenant it is assigned to (R516). -/
def State.mayCamera (s : State) (r : Req) (p : Nat) : Bool := r.role = 4 || s.get (fCamTenant p) = r.role

/-- Registers of a camera's image (R515). -/
def camImage (p : Nat) : List Nat :=
  (([4, 8, 0xC, 0x10, 0x14, 0x80, 0x84] : List Nat) ++ (List.range 8).map (fun f => 0xA0 + 4 * f)).map (camReg p)

/-- CAM_CONFIGURE (R515). -/
def execCamConfigure (r : Req) (s : State) : Out := s.run (fun s =>
  s.serve r (fun s =>
    if decide (r.data.length ≠ 68) || !zeros r.data 2 4 then s.respond r 0x0109 []
    else s.onCamera r 0 (fun s p =>
      if s.get (fCamEn p) = 1 then s.respond r 0x0403 []
      else
        let s := s.regWrite s.firmware (camReg p 0) (BitVec.ofNat 32 (fieldAt r.data 4 4) &&& 0x7FFFFFFE#32)
        (s.writeWords (camImage p) (r.data.drop 8)).respond r 0 [])))

/-- An active model's variant does not hold a camera's geometry (R557). -/
def State.shapeExceeded (s : State) (p : Nat) : Bool :=
  s.con.models.any (fun m => (m.st = 2 || m.st = 3) && (List.range 4).any (fun k =>
    let (code, n, q) := pkgShape m.bytes k
    code ≠ 0 && n = s.node && q = p && decide (varBucket m.bytes m.variant k < (if code = 1 then s.camW p else s.camH p))))

/-- CAM_ENABLE. -/
def execCamEnable (r : Req) (s : State) : Out := s.run (fun s =>
  s.serve r (fun s =>
    if decide (r.data.length ≠ 3) || decide (1 < byteAt r.data 2) then s.respond r 0x0109 []
    else s.onCamera r 0 (fun s p =>
      if byteAt r.data 2 = 0 then (s.camStop p).respond r 0 []
      else if s.get (fCamEn p) = 1 then s.respond r 0 []
      else if s.shapeExceeded p then s.respond r 0x0402 (leBytes 1 0x80)
      else
        let s := s.camStart p
        if s.get (fCamEn p) = 1 then s.respond r 0 []
        else s.respond r 0x0402 (leBytes 1 (s.get ⟨grdReg p 0xC4, 0, 4⟩)))))

/-- The first of `n` free settings entries in a row. -/
def State.freeSetram (s : State) (p n : Nat) : Option Nat :=
  let c := s.cam p
  let busy (e : Nat) : Bool := c.queue.any (fun d => d.holds e) || (match c.run with | some r => r.desc.holds e | none => false)
  (List.range (257 - n)).find? (fun f => (List.range n).all (fun i => !busy (f + i)))

/-- CAM_SETTINGS (R516): entries go into free settings RAM, and the set is committed. A count of 0 stands for 256. -/
def execCamSettings (r : Req) (s : State) : Out := s.run (fun s =>
  s.serve r (fun s =>
    let n := if byteAt r.data 12 = 0 then 256 else byteAt r.data 12
    if decide (r.data.length ≠ 16 + 8 * n) || !zeros r.data 13 16 then s.respond r 0x0109 []
    else s.onCamera r 0 (fun s p =>
      if !s.mayCamera r p then s.respond r 0x0105 []
      else match s.freeSetram p n with
        | none => s.respond r 0x0404 []
        | some f =>
          let refused := decide (4 ≤ (s.cam p).queue.length) || fieldAt r.data 2 2 = 0
          let s := (List.range (2 * n)).foldl (fun s i =>
            s.setramWrite p (f + i / 2) (i % 2 = 1) (BitVec.ofNat 32 (fieldAt r.data (16 + 4 * i) 4))) s
          let s := s.setReg (camReg p 0x88) (BitVec.ofNat 32 (f + 256 * (n - 1) + 65536 * fieldAt r.data 2 2))
          let s := (s.setReg64 (camReg p 0x8C) (fieldAt r.data 4 8)).setQueue p
          s.respond r (if refused then 0x0404 else 0) [])))

/-- Registers of CAM_STATUS (R522). -/
def camStatusRegs (p : Nat) : List Nat :=
  ((List.range 7).map (fun i => 0x100 + 4 * i) ++ [0x1C, 0x20] ++ (List.range 12).map (fun i => 0x40 + 4 * i) ++ [0x98]).map (camReg p) ++
    [commitReg p 0xC, commitReg p 0x10, commitReg p 0x14]

/-- CAM_STATUS (R522). -/
def execCamStatus (r : Req) (s : State) : Out := s.run (fun s =>
  s.serve r (fun s =>
    if r.data.length ≠ 2 then s.respond r 0x0109 []
    else s.onCamera r 104 (fun s p =>
      if !s.mayCamera r p then s.respond r 0x0105 []
      else
        let (s, bs) := s.readWords (camStatusRegs p)
        let o := (s.cam p).obs
        s.respond r 0 (bs ++ leBytes 1 o.st ++ leBytes 1 o.dull ++ leBytes 2 0))))

/-- Offset and bytes of a part of the ground set (Table 17-25). -/
def groundPart (k : Nat) : Nat × Nat := ([(0, 12), (0x2000, 256), (0x4000, 8712), (0x8000, 16384)] : List (Nat × Nat)).getD k (0, 0)

/-- CAM_GROUND_SET (R522). -/
def execCamGroundSet (r : Req) (s : State) : Out := s.run (fun s =>
  s.serve r (fun s =>
    let d := r.data
    let part := byteAt d 2
    let (base, size) := groundPart part
    let o := fieldAt d 16 4
    let bs := d.drop 20
    if decide (d.length < 20) || decide (3 < part) || decide (1 < byteAt d 3) || !zeros d 6 8 || decide (4044 < bs.length) ||
        decide (o % 4 ≠ 0) || decide (bs.length % 4 ≠ 0) || decide (size < o + bs.length) || (byteAt d 3 = 1 && fieldAt d 4 2 = 0) then
      s.respond r 0x0109 []
    else s.onCamera r 0 (fun s p =>
      if s.get (fSetState p) = 1 then s.respond r 0x0504 []
      else
        let s := s.writeWords ((List.range (bs.length / 4)).map (fun i => grdReg p (base + o + 4 * i))) bs
        (if byteAt d 3 = 1 then s.commitSet p (fieldAt d 4 2) (fieldAt d 8 8) else s).respond r 0 [])))

/-- The diagnostic's settings (Table 17-26). -/
def obscureOk (d : List Byte) : Bool :=
  let f := byteAt d 2
  let within (v lo hi : Nat) : Bool := decide (lo ≤ v) && decide (v ≤ hi)
  decide (d.length = if bit f 0 then 528 else 16) && decide (f < 4) && byteAt d 3 = 0 && within (byteAt d 4) 2 16 && within (byteAt d 5) 2 16 &&
    within (byteAt d 6) 1 64 && within (byteAt d 7) 1 (byteAt d 6) && within (byteAt d 8) 1 60 && within (byteAt d 9) 1 50 &&
    within (fieldAt d 10 2) 16 1024 && zeros d 12 16

/-- A camera's diagnostic after its configuration (R523): RELEARN discards the baselines, SEED gives them. -/
def Obscure.configured (o : Obscure) (d : List Byte) : Obscure :=
  let o := { o with divDull := byteAt d 4, divLow := byteAt d 5, zonesOn := byteAt d 6, zonesOff := byteAt d 7, frames30 := byteAt d 8,
                    frames25 := byteAt d 9, learn := fieldAt d 10 2 }
  let o : Obscure := if bit (byteAt d 2) 1 then { o with learnt := 0, b1 := [], b2 := [], st := 1, bad := 0, good := 0, dull := 0 } else o
  if bit (byteAt d 2) 0 then
    { o with b1 := (List.range 64).map (fun z => 256 * fieldAt d (16 + 8 * z) 4), b2 := (List.range 64).map (fun z => 256 * fieldAt d (20 + 8 * z) 4),
             st := if o.st = 1 then 0 else o.st }
  else o

/-- CAM_OBSCURATION_CFG (R523). -/
def execCamObscurationCfg (r : Req) (s : State) : Out := s.run (fun s =>
  s.serve r (fun s =>
    let d := r.data
    if !obscureOk d then s.respond r 0x0109 []
    else
      let keep (s : State) : State :=
        { s with con := { s.con with obscure := tblSet (fun _ => []) s.con.obscure (4 * byteAt d 0 + byteAt d 1 % 4) d } }
      let s := if s.nodeStatus (byteAt d 0) = 0 && decide (byteAt d 1 < 4) then keep s else s
      s.onCamera r 0 (fun s p =>
        let old := (s.cam p).obs.st
        let s := s.onCam p (fun c => { c with obs := c.obs.configured d })
        let new := (s.cam p).obs.st
        (if new ≠ old then s.cameraState p new else s).respond r 0 [])))

/-- CAM_ASSIGN (R373): a pipeline stays its tenant's until that tenant is released, and is assigned while EN = 0 (R374). -/
def execCamAssign (r : Req) (s : State) : Out := s.run (fun s =>
  s.serve r (fun s =>
    let t := byteAt r.data 2
    if decide (r.data.length ≠ 3) || decide (3 < t) then s.respond r 0x0109 []
    else if !s.tenantOn t then s.respond r 0x0302 []
    else s.onCamera r 0 (fun s p =>
      let old := s.get (fCamTenant p)
      if old = t then s.respond r 0 []
      else if old ≠ 7 then s.respond r 0x010B []
      else if s.get (fCamEn p) = 1 then s.respond r 0x0403 []
      else (s.regWrite s.firmware (camReg p 0x18) (BitVec.ofNat 32 t)).respond r 0 [])))

/-! ### Streams (R524) -/

/-- A command on a feed of a node: the feed exists, and its block is clocked. -/
def State.onFeedOf (s : State) (r : Req) (len : Nat) (run : State → Nat → State) : State :=
  let f := byteAt r.data 1
  s.onNode r (byteAt r.data 0) (fun s =>
    if 7 < f then s.respond r 0x0501 []
    else s.here r (byteAt r.data 0) len (fun s =>
      if s.gated (feedReg f 0) then s.respond r 0x0A02 (leBytes 1 2) else run s f))

/-- Registers of a feed's image (Table 17-27). -/
def feedImage : List Nat := [0, 4, 8, 0x10, 0x14, 0x18, 0x1C, 0x20, 0x24, 0x30, 0x100, 0x104, 0x108, 0x10C, 0x110, 0x114, 0x118,
  0x140, 0x144, 0x148, 0x14C, 0x150, 0x154, 0x158, 0x11C, 0x400, 0x404, 0x408, 0x410, 0x414, 0x418, 0x41C, 0x420, 0x424]

/-- Write a feed's image; EN bits keep what they are. -/
def State.feedImageWrite (s : State) (f : Nat) (bs : List Byte) : State :=
  ((List.range feedImage.length).zip feedImage).foldl (fun s x =>
    let a := feedReg f x.2
    let v := BitVec.ofNat 32 (fieldAt bs (4 * x.1) 4)
    let en : Bool := x.2 = 0 || x.2 = 0x100 || x.2 = 0x140 || x.2 = 0x400
    s.regWrite s.firmware a (if en then (v &&& 0xFFFFFFFE#32) ||| (s.reg a &&& 1#32) else v)) s

/-- STREAM_CONFIGURE. -/
def execStreamConfigure (r : Req) (s : State) : Out := s.run (fun s =>
  s.serve r (fun s =>
    if decide (r.data.length ≠ 140) || !zeros r.data 2 4 then s.respond r 0x0109 []
    else s.onFeedOf r 0 (fun s f =>
      if s.get (fFeedEn f) = 1 then s.respond r 0x0503 []
      else (s.feedImageWrite f (r.data.drop 4)).respond r 0 [])))

/-- STREAM_ENABLE: a refused feed answers with the cause of R435. -/
def execStreamEnable (r : Req) (s : State) : Out := s.run (fun s =>
  s.serve r (fun s =>
    let k := byteAt r.data 2
    let on := byteAt r.data 3 = 1
    if decide (r.data.length ≠ 4) || decide (3 < k) || decide (1 < byteAt r.data 3) then s.respond r 0x0109 []
    else s.onFeedOf r 0 (fun s f =>
      if k = 0 then
        let s := s.streamSet f 0 on
        if on && s.get (fFeedEn f) = 0 then s.respond r 0x0502 (leBytes 1 (s.get ⟨feedReg f 0x44, 0, 4⟩)) else s.respond r 0 []
      else if on && s.get (fFeedEn f) = 0 then s.respond r 0x010B []
      else (s.streamSet f k on).respond r 0 [])))

/-- Shadowed registers of a feed's set (Table 17-27). -/
def feedSetRegs : List Nat :=
  (List.range 12).map (fun i => 0x80 + 4 * i) ++ (List.range 11).map (fun i => 0xB0 + 4 * i) ++
    (List.range 4).flatMap (fun l => (List.range 16).map (fun e => 0x240 + 0x80 * l + 4 * e))

/-- FEED_SET (R430). -/
def execFeedSet (r : Req) (s : State) : Out := s.run (fun s =>
  s.serve r (fun s =>
    if r.data.length ≠ 360 then s.respond r 0x0109 []
    else s.onFeedOf r 0 (fun s f =>
      if s.get (fSetState (4 + f)) = 1 then s.respond r 0x0504 []
      else
        let s := s.writeWords (feedSetRegs.map (feedReg f)) (r.data.drop 12)
        (s.commitSet (4 + f) (fieldAt r.data 2 2) (fieldAt r.data 4 8)).respond r 0 [])))

/-- LAYER_CONFIGURE. -/
def execLayerConfigure (r : Req) (s : State) : Out := s.run (fun s =>
  s.serve r (fun s =>
    let l := byteAt r.data 2
    if decide (r.data.length ≠ 44) || decide (3 < l) || byteAt r.data 3 ≠ 0 then s.respond r 0x0109 []
    else s.onFeedOf r 0 (fun s f =>
      if s.get (fFeedEn f) = 1 then s.respond r 0x0503 []
      else
        let as := ([0, 4, 8, 0xC, 0x10, 0x14, 0x18, 0x1C, 0x20, 0x2C] : List Nat).map (fun o => feedReg f (0x200 + 0x80 * l + o))
        (s.writeWords as (r.data.drop 4)).respond r 0 [])))

/-- STREAM_STATUS. -/
def execStreamStatus (r : Req) (s : State) : Out := s.run (fun s =>
  s.serve r (fun s =>
    if r.data.length ≠ 2 then s.respond r 0x0109 []
    else s.onFeedOf r 64 (fun s f =>
      let as := ([0x34, 0x38, 0x3C, 0x40, 0x44, 0x48, 0x4C, 0x50, 0x54, 0x58, 0x5C, 0xEC, 0xF0, 0xF4, 0xF8] : List Nat).map (feedReg f)
      let (s, bs) := s.readWords (as ++ [0x2030000C])
      s.respond r 0 bs)))

/-- CSITX_CONFIGURE: EN in the image is the transmitter's new state. -/
def execCsitxConfigure (r : Req) (s : State) : Out := s.run (fun s =>
  s.serve r (fun s =>
    let ctl := fieldAt r.data 4 4
    if decide (r.data.length ≠ 16) || !zeros r.data 1 4 || bits ctl 1 2 = 3 || bits ctl 3 2 = 3 then s.respond r 0x0109 []
    else s.here r (byteAt r.data 0) 0 (fun s =>
      if s.gated 0x20300000 then s.respond r 0x0A02 (leBytes 1 2)
      else (s.writeWords [0x20300004, 0x20300008, 0x20300000] (r.data.drop 8 ++ slice r.data 4 4)).respond r 0 [])))

/-! ### Registers (R517) -/

/-- A diagnostic access is sound: 1 to 1,000 words at an aligned address. -/
def diagOk (d : List Byte) : Bool :=
  decide (12 ≤ d.length) && decide (1 ≤ fieldAt d 2 2) && decide (fieldAt d 2 2 ≤ 1000) && decide (fieldAt d 4 8 % 4 = 0)

/-- An address that REG_READ may not read in FIELD: security block, palette, accumulator or local store. -/
def State.diagHidden (s : State) (a : Nat) : Bool :=
  within a 0x25000000 0x25000FFF || (match s.windowOf a with | .pal _ => true | .acc _ => true | .store _ => true | _ => false)

/-- REG_READ (R517), over the fabric with TEN 7. -/
def execRegRead (r : Req) (s : State) : Out := s.run (fun s =>
  s.serve r (fun s =>
    let n := fieldAt r.data 2 2
    let a := fieldAt r.data 4 8
    if !diagOk r.data || decide (r.data.length ≠ 12) then s.respond r 0x0109 []
    else if s.lifecycle = 2 && (List.range n).any (fun i => s.diagHidden (a + 4 * i)) then s.respond r 0x0A01 []
    else s.here r (byteAt r.data 0) (4 * n) (fun s =>
      match s.spanRead (.fabric s.firmware) a (4 * n) with
      | (s, .inl e) => s.respond r 0x0A02 (leBytes 1 e)
      | (s, .inr x) => s.respond r 0 x.1)))

/-- REG_WRITE (R517), over the fabric with TEN 7. -/
def execRegWrite (r : Req) (s : State) : Out := s.run (fun s =>
  s.serve r (fun s =>
    let n := fieldAt r.data 2 2
    if !diagOk r.data || decide (r.data.length ≠ 12 + 4 * n) then s.respond r 0x0109 []
    else if s.lifecycle = 2 then s.respond r 0x010B []
    else s.here r (byteAt r.data 0) 0 (fun s =>
      match s.spanWrite (.fabric s.firmware) (fieldAt r.data 4 8) (r.data.drop 12) with
      | (s, 0) => s.respond r 0 []
      | (s, e) => s.respond r 0x0A02 (leBytes 1 e))))

/-- COUNTERS: the counters of a block; the spec gives neither its prefix codes nor the order. -/
def execCounters (r : Req) (s : State) : Out := s.run (fun s =>
  s.serve r (fun s =>
    let as := (Config.counterBlock (byteAt r.data 1) r.role).take 1000
    if r.data.length ≠ 2 then s.respond r 0x0109 []
    else s.here r (byteAt r.data 0) (4 * as.length) (fun s =>
      s.respond r 0 (as.flatMap (fun a => leBytes 4 (s.regValue a).toNat)))))

end Sys2Proof.Machine
end

