-- ==== Sys2Proof/Machine/Boot.lean ====
section
/-! DEFINITION. Boot: the coherence of the service cores' caches, the lockstep pair and the boot ROM (16, 22). -/

namespace Sys2Proof.Machine

/-! ### Requests to the L2 (R462 to R465) -/

/-- The service core of an L1 cache is out of reset: SC_0 runs the ROM, the others wait for stage 4 (R475). -/
def State.coreRuns (s : State) (u : Nat) : Bool := u % 3 = 0 || s.firmwareUp

/-- GetS (R463) of a data cache, 0 to 2, or of an instruction cache, 3 to 5. -/
def execGets (u : Fin 6) (line : Fin 49152) (s : State) : Out := s.run (fun s => .next (if s.coreRuns u then s.gets u line else s))

/-- GetM (R464). -/
def execGetm (u : Fin 3) (line : Fin 49152) (s : State) : Out := s.run (fun s =>
  .next (if s.coreRuns u then (s.l2Fill line).l2Req line 2 u else s))

/-- PutM (R463, R464): the line's data merges into the L2, and its writer no longer holds it. -/
def execPutm (u : Fin 3) (line : Fin 49152) (s : State) : Out := s.run (fun s =>
  .next (if s.l2Has line then ((if (s.l2Line line).owner = some u.val then s.l2Recall line else s).l2Req line 0 u) else s))

/-- PutC (R463): a clean line is evicted from an L1, or invalidated by firmware in an instruction cache (R462). -/
def execPutc (u : Fin 6) (line : Fin 49152) (s : State) : Out := s.run (fun s => .next (if s.l2Has line then s.l2Req line 4 u else s))

/-- An L1 answers a snoop after its granted store (R465). -/
def execSnoop (u : Fin 3) (line : Fin 49152) (s : State) : Out := s.run (fun s =>
  let k := s.l2Line line
  .next (if k.storing && k.owner = some u.val && !(k.waitM.isEmpty && k.waitS.isEmpty) then s.l2Answer u line else s))

/-! ### The safety core pair -/

/-- The outputs of the pair differ (R472): the pair stops, the outputs go low, and a watchdog reset follows. The pair runs from
stage 4 on (R475). -/
def execLockstepMismatch (s : State) : Out := s.run (fun s =>
  .next (if s.pairOn then s.lockstepFail else s))

/-! ### The boot record and the staging areas -/

/-- Write a field of the boot record, which stands in the shared region too (R482). -/
def State.setBoot (s : State) (f : Fld) (v : Nat) : State :=
  let s := s.set f v
  let s := s.sramEccWrite 0x37FF00 4
  { s with mem := { s.mem with sram := tblSets byteZero s.mem.sram 0x37FF00 (leBytes 4 (s.reg 0x26000400).toNat) } }

/-- Clear the staging areas: the firmware region and the shared region but for the boot record (R479). -/
def State.clearStaging (s : State) : State :=
  let s := s.sramEccWrite 0 0x37FF00
  { s with mem := { s.mem with sram := tblClear s.mem.sram 0 0x37FF00 } }

/-- Put bytes into control SRAM. -/
def State.sramPut (s : State) (o : Nat) (bs : List Byte) : State :=
  let s := s.sramEccWrite o bs.length
  { s with mem := { s.mem with sram := tblSets byteZero s.mem.sram o bs } }

/-- The staged set header. -/
def State.stagedHeader (s : State) : List Byte := tblGets byteZero s.mem.sram 0x300000 4096

/-- The staged images, by the lengths of the staged header, where they fit the firmware region. -/
def State.stagedImages (s : State) : List Byte :=
  let n := fwLen s.stagedHeader + safeLen s.stagedHeader
  if n ≤ 3145728 then tblGets byteZero s.mem.sram 0 n else []

/-- The message of a boot command, without a session. -/
def bootMessage (code : Nat) (data : List Byte) : List Byte := kmpMessage (if cmdBulk code then 4 else 0) code 0 0 data none

/-- Ask the next ACTIVE port after the one asked last, wrapping (R479). -/
def State.linkAsk (s : State) : State :=
  let s := (s.clearStaging).onCtl (fun c => { c with progressAt := s.now })
  let from_ := match s.ctl.askPort with | some p => p + 1 | none => 0
  match ((List.range 6).map (fun i => (from_ + i) % 6)).find? (fun p => s.active p) with
  | none => (s.onCtl (fun c => { c with askPort := none })).set ⟨0x24001014, 8, 1⟩ 0
  | some p =>
    let n := s.get (fPeerNode p)
    let m := bootMessage 0x0B20 (leBytes 4 (s.reg 0x26000400).toNat)
    let s := (s.onCtl (fun c => { c with askPort := some p })).setReg 0x24001014 (BitVec.ofNat 32 (n + 256))
    s.issue { dst := n, kind := 3, nbytes := m.length, issuer := 13, ten := 7, addr := 0x26001000, data := m } .firmware

/-- Stage 2 begins with a source (Table 16-5): 0 QSPI, 1 link, 2 SPI host. -/
def State.bootFrom (s : State) (source : Nat) : State :=
  let s := ((s.clearStaging).setBoot fSource source).setBoot fStage 2
  if source = 1 then s.linkAsk else s

/-- No valid image came from QSPI (Table 16-5). -/
def State.qspiFailed (s : State) : State := if s.bootSrc = 3 then s.bootFrom 1 else s.bootFrom 2

/-- The image set in flash was not staged or not verified: the other slot, then the next source (R475, R478). -/
def State.nextImage (s : State) : State :=
  match s.get fSource with
  | 0 => if s.ctl.tried = 0 then ((s.clearStaging).onCtl (fun c => { c with tried := 1 })).setBoot fStage 2 else s.qspiFailed
  | 1 => (s.setBoot fStage 2).linkAsk
  | _ => (s.clearStaging).setBoot fStage 2

/-- The ROM reads the header in force before its first slot: TRIAL becomes TRIAL_STARTED, and TRIAL_STARTED goes back to the other
slot (R656). -/
def State.headerStep (s : State) : State :=
  let h := s.sec.header
  if s.ctl.tried ≠ 0 then s
  else if h.st = 1 then s.onSec (fun x => x.writeHeader h.active 2)
  else if h.st = 2 then s.onSec (fun x => x.writeHeader (1 - h.active) 0)
  else s

/-- The ROM's read command, whether it is 1-4-4, and its dummy cycles: the flash's fast read where SFDP declares one, else 0x03, or 0x13
where the flash needs a 4-byte address (R478). -/
def romRead : Nat × Bool × Nat :=
  match Config.flashFast with
  | some (op, dummy) => (op % 256, true, dummy % 16)
  | none => (if Config.flashWide then 0x13 else 0x03, false, 0)

/-- The ROM reads `n` bytes of the flash from offset `o`, 256 bytes a command (R478, R724). -/
def State.romReads (s : State) (o n : Nat) : State :=
  (List.range ((n + 255) / 256)).foldl (fun (s : State) i =>
    s.emit (.qspi (romRead.1 + 256 + 1024 * 256) (o + 256 * i) (if Config.flashWide then 4 else 3) romRead.2.1 romRead.2.2 [])) s

/-- The ROM reads SFDP, sets the QSPI controller for the flash at 25 MHz, and reads the two copies of the boot header (R478, R637). -/
def State.romFlash (s : State) : State :=
  let cfg := 2 + 4 * b2n Config.flashWide + 8 * b2n romRead.2.1 + 16 * romRead.2.2 + 256 * romRead.1
  (((s.emit (.qspi (0x5A + 256 + 1024 * 256) 0 3 false 8 [])).setReg 0x27000000 (BitVec.ofNat 32 cfg))).romReads 0 8192

/-- The ROM stages the image set of a flash slot: whether there was one that fits (R478). It reads the slot whole. -/
def State.stageSlot (s : State) : State × Bool :=
  let s := if s.ctl.tried = 0 then s.romFlash else s
  let s := s.headerStep
  let k := if s.ctl.tried = 0 then s.sec.header.active else 1 - s.sec.header.active
  let s := s.romReads (if k = 0 then 0x10000 else 0x410000) (4096 + min 3145728 (fwLen (s.sec.slot k).header + safeLen (s.sec.slot k).header))
  let i := s.sec.slot k
  if i.present && decide (fwLen i.header + safeLen i.header ≤ 3145728) && s.hasFlash then
    (((s.clearStaging).sramPut 0x300000 (fit 4096 i.header)).sramPut 0 (fit (fwLen i.header + safeLen i.header) i.data) |>.setBoot ⟨0x26000400, 8, 1⟩ k, true)
  else (s, false)

/-- Answer the BOOT_GO that waits (R480). -/
def State.answerGo (s : State) (status : Nat) : State :=
  match s.ctl.bootGo with
  | some r => (s.onCtl (fun c => { c with bootGo := none })).answer r status []
  | none => s

/-- Stage 0 ends: fuse groups cut short are burned (R632), and the boot record is written with the sampled straps (R474, R482). -/
def State.stage0End (s : State) : State :=
  let full (n : Nat) : Nat := if 1 ≤ n ∧ n ≤ 4 then 8 else n
  let s := s.onSec (fun x => { x with lc0 := full x.lc0, lc1 := full x.lc1, lc2 := full x.lc2 })
  let s := s.setReg 0x25000000 (BitVec.ofNat 32 s.lifecycle)
  let s := s.setBoot ⟨0x26000400, 3, 2⟩ s.bootSrc
  let s := s.setBoot ⟨0x26000400, 5, 1⟩ (b2n (bit s.straps 6 && !s.poleElig))
  s.setBoot fStage 1

/-- Stage 1 ends: the boot table stands (R476), register 4 is extended (Table 22-7), and the strapped source begins. -/
def State.stage1End (s : State) : State :=
  let s := s.bootTable
  let s := s.measure 4 (s.stateBlock ((s.reg 0x25000004).toNat % 256))
  s.bootFrom (if s.bootSrc = 1 then 1 else if s.bootSrc = 2 then 2 else 0)

/-- Stage 3 ends (R475, R640, R642): the set is verified and measured, and the safety image goes into the fenced safety partition. -/
def State.stage3End (s : State) : State :=
  let h := s.stagedHeader
  let d := s.stagedImages
  let s := (s.sramEcc 0x300000 4096).sramEcc 0 d.length
  if s.sec.setOk h d then
    let s := ((s.extend 0 (sha384 h)).extend 1 (slice h 24 48)).extend 2 (slice h 72 48)
    let s := (s.sramPut 0x380000 ((d.drop (fwLen h)).take (safeLen h))).setReg 0x24001010 1#32
    (s.answerGo 0).setBoot fStage 4
  else (s.answerGo 0x0B01).nextImage

/-- A chip whose flash holds no record takes the one that is staged with the firmware image (R477); where it stands in the image, the spec
does not say. -/
def State.bootRecord (s : State) : State :=
  if s.con.cfg.isEmpty then
    { s with con := { s.con with cfg := tblSets byteZero [] 0 ((Config.stagedRecord s.ctl.image).take 3248) } }
  else s

/-- Stage 4 ends: the cores are released and firmware starts. It takes the record (R477, R519, R521, R624), measures it, and starts
the boot calibration (R671, R676). -/
def State.firmwareStart (s : State) : State :=
  let h := s.stagedHeader
  let d := s.stagedImages
  let s := (s.extWrite s.firmware 0x200#32).set ⟨0x24001014, 8, 1⟩ 0
  let s := s.setBoot fStage 7
  let s := (s.onCtl (fun c => { c with header := h, image := d, askPort := none, tried := 0 })).onSaf
    (fun f => { f with wdtOn := true, wdtFrom := s.now })
  let trial : Option Nat := if s.get fSource = 0 && s.sec.header.st = 2 then some s.now else none
  let s := s.onSec (fun x => { x with running := fieldAt h 8 4, trialFrom := trial })
  let s := s.bootRecord
  let s := s.firstTables
  let s := if s.recordLocked then s.applySafety else s
  let s := ((s.applyNetwork).measure 3 s.cfgImage).govRecord
  ((List.range 6).foldl (fun s p => s.dupCheck p) s).calBoot.poleCheck

/-- A boot ROM stage ends. In stage 2 the operand says whether the images were read; the other stages end by what stands in the
state. Link boot and SPI host push leave stage 2 by BOOT_GO. -/
def execBootStageEnd (ok : Bool) (s : State) : Out := s.run (fun s =>
  .next (match s.get fStage with
    | 0 => if s.clearBusy then s else s.stage0End
    | 1 => s.stage1End
    | 2 =>
      if s.get fSource = 0 then
        let (s, found) := s.stageSlot
        if ok && found then s.setBoot fStage 3 else s.nextImage
      else s
    | 3 => s.stage3End
    | 4 => s.firmwareStart
    | _ => s))

/-- 10 ms without progress: the staging areas are cleared and the next ACTIVE port is asked (R479). -/
def execLinkBootTimeout (s : State) : Out := s.run (fun s =>
  .next (
    if s.get fStage = 2 && s.get fSource = 1 && (s.ctl.askPort.isNone || decide (s.ctl.progressAt + 10 * ms ≤ s.now)) then s.linkAsk
    else s))

/-- LINK_BOOT_REQ reaches a chip whose firmware runs: it will push to that neighbour (R480). -/
def execLinkBootReq (r : Req) (s : State) : Out := s.run (fun s =>
  .next (match s.takeReq r with
    | none => s
    | some s => if s.firmwareUp && r.path = 3 then s.onCtl (fun c => { c with pushTo := c.pushTo.filter (fun n => n ≠ r.entry) ++ [r.entry] }) else s))

/-- Write bytes to another chip in WRITE_BULKs of 512 bytes, `k` of them at most (R440). -/
def State.pushBytes (s : State) (node : Nat) : Nat → Nat → List Byte → State
  | 0, _, _ => s
  | k + 1, a, bs =>
    if bs.isEmpty then s
    else
      let x := fit (max 4 (min 512 bs.length)) bs
      let s := s.issue { dst := node, kind := 1, nbytes := x.length, issuer := 13, ten := 7, addr := a, data := x } .firmware
      s.pushBytes node k (a + 512) (bs.drop 512)

/-- A running chip pushes its boot header and images to a neighbour that asked, and then sends BOOT_GO (R480). -/
def execLinkBootPush (node : Fin 64) (s : State) : Out := s.run (fun s =>
  .next (
    if s.firmwareUp && s.ctl.pushTo.contains node.val then
      let s := s.onCtl (fun c => { c with pushTo := c.pushTo.filter (fun n => n ≠ node.val) })
      let s := s.pushBytes node 8 0x1300000 s.ctl.header
      let s := s.pushBytes node 6144 0x1000000 s.ctl.image
      let m := bootMessage 0x0B22 (leBytes 4 (s.ctl.header.length + s.ctl.image.length))
      s.issue { dst := node, kind := 3, nbytes := m.length, issuer := 13, ten := 7, addr := 0x26001000, data := m } .firmware
    else s))

/-- BOOT_CHUNK (R481, Table 16-7), on the SPI host path: the last write of each byte stands. A chip whose firmware runs does not serve it. -/
def execBootChunk (r : Req) (s : State) : Out := s.run (fun s =>
  .next (match s.takeReq r with
    | none => s
    | some s =>
      let o := fieldAt r.data 0 4
      let area := fieldAt r.data 4 4
      let bs := r.data.drop 8
      if s.firmwareUp then s.answer r 0x0105 []
      else if decide (r.path ≠ 0) || decide (s.get fStage ≠ 2) || decide (s.get fSource ≠ 2) then s.answer r 0x0B03 []
      else if decide (r.data.length < 8) || decide (1 < area) then s.answer r 0x0109 []
      else if (if area = 0 then 0x300000 else 0x80000) < o + bs.length then s.answer r 0x0B02 []
      else (s.sramPut (if area = 0 then o else 0x300000 + o) bs).answer r 0 []))

/-- BOOT_GO (R480, R481): stage 3 runs on what is staged; its answer comes when stage 3 has ended. One from a node that is not the
filtered one is ignored (R484). -/
def execBootGo (r : Req) (s : State) : Out := s.run (fun s =>
  .next (match s.takeReq r with
    | none => s
    | some s =>
      let source := s.get fSource
      let mine := if r.path = 3 then source = 1 && r.entry = s.get ⟨0x24001014, 0, 6⟩ else r.path = 0 && source = 2
      let h := s.stagedHeader
      if s.firmwareUp then s.answer r 0x0105 []
      else if s.get fStage ≠ 2 then (if r.path = 3 then s else s.answer r 0x0B03 [])
      else if !mine then (if r.path = 3 then s else s.answer r 0x0B03 [])
      else if r.data.length ≠ 4 then s.answer r 0x0109 []
      else if decide (4096 + 3145728 < fieldAt r.data 0 4) || decide (3145728 < fwLen h + safeLen h) then (s.answer r 0x0B02 []).nextImage
      else
        let s := s.onCtl (fun c => { c with bootGo := some r, progressAt := s.now })
        (if source = 1 then s.setBoot ⟨0x26000400, 16, 6⟩ r.entry else s).setBoot fStage 3))

end Sys2Proof.Machine
end

