-- ==== Sys2Proof/Machine/Fabric.lean ====
section
/-! DEFINITION. Fabric: packets as the router receives and forwards them, requests at their target, responses and timeouts at their
issuer, and the TC0 shaper and sink (03, 05, 15). -/

namespace Sys2Proof.Machine

/-- Change what the fabric holds. -/
def State.onFab (s : State) (f : Fabric → Fabric) : State := { s with fab := f s.fab }

/-! ### The router -/

/-- A packet's age exceeds 0.25 s (R105). -/
def State.stale (s : State) (pk : Packet) : Bool := decide (3906250 < s.age pk.stamp)

/-- Count a malformed header (R89). -/
def State.badHeader (s : State) : State := (s.bump 0x21008044).event aFabEvt 4

/-- Drop the first `n` flits of a VC buffer of a port; its HOP flits lose their arrival times. -/
def State.takeFlits (s : State) (p v n : Nat) : State :=
  let q := s.port p
  let fs := q.vcBuf.getD v []
  let hops := if v < 2 then ((fs.take n).filter isHop).length else 0
  s.setPort p { q with vcBuf := q.vcBuf.set v (fs.drop n), hopAt := q.hopAt.drop hops }

/-- A bulk packet leaves the receive buffer with its entry of the landing pool, which goes on with the packet or is given up. -/
def State.poolLeave (s : State) (p v : Nat) (pk : Packet) : State :=
  if s.poolFor v pk then
    s.onPort p (fun q => { q with pool := match q.pool.find? (fun x => x.1 = v) with | some x => q.pool.erase x | none => q.pool })
  else s

/-- The bulk packet in front of a VC found the pool full when its header arrived (R441). -/
def State.poolRefused (s : State) (p v : Nat) (pk : Packet) : Bool :=
  s.poolFor v pk && (match (s.port p).pool.find? (fun x => x.1 = v) with | some x => !x.2 | none => false)

/-- A bulk packet from another node for this chip that found the landing pool full is refused (R439, R441); every other packet waits at
its output. -/
def State.route1 (s : State) (pk : Packet) (p v : Nat) (refused : Bool) : State :=
  if refused then ((s.bump 0x2100806C).freeFlits p v pk.len).sendFrom (errFor s.node 4 pk)
  else
    let from_ (s : State) : Nat := (s.fab.waiting.filter (fun w => w.inPort = p && w.inVc = v)).length
    let t := s.forward pk p v
    if from_ t = from_ s then t.freeFlits p v pk.len else t

/-- The packet in front of a VC buffer is examined once it is whole (R103): a malformed one is discarded (R89), a stale one discarded
(R105), a HOP packet consumed (R91), any other looked up (R98). TC0 packets are one flit (R90). -/
def execPacketReceive (p : Fin 6) (v : Fin 8) (s : State) : Out := s.run (fun s =>
  .next (
    let q := s.port p
    match q.vcBuf.getD v.val [] with
    | [] => s
    | f :: fs =>
      let len : Nat := if v.val < 2 then 1 else max 1 (flitsPacket [f]).len
      if (f :: fs).length < len then s
      else
        let pk := flitsPacket ((f :: fs).take len)
        let refused := s.poolRefused p v pk
        let t := (s.takeFlits p v len).poolLeave p v pk
        (if malformed pk then (t.freeFlits p v len).badHeader
        else if s.stale pk then ((t.freeFlits p v len).bump 0x21008048).event aFabEvt 8
        else if pk.kind = 10 then
          ((t.freeFlits p v len).onFab (fun b => { b with hops := b.hops ++ [(p.val, pk.data, q.hopAt.headD s.ctNs)] })).sawNode pk.src
        else (t.route1 pk p v refused).sawNode pk.src).showPool))

/-- The oldest packet that waits for a VC of an output wins it (R104): it takes the free VC of a port that is ACTIVE, or is delivered
to this chip (R99, R102, R103). A slot that starts before takes the flit by itself (`State.bindSlot`). -/
def execPacketForward (out v : Fin 8) (s : State) : Out := s.run (fun s =>
  .next (
    match oldest (s.fab.waiting.filter (fun w => w.out = out.val && w.vc = v.val)) with
    | none => s
    | some w =>
      if out.val = 7 then ((s.dropWaiting w).markBegun w).deliver w.pk
      else
        let q := s.port out
        if out.val < 6 && s.active out && (q.sending.getD v.val {}).flits.isEmpty then
          (s.onFab (fun f => { f with waiting := f.waiting.erase w })).onPort out
            (fun q => { q with sending := q.sending.set v.val { w := w, flits := packetFlits w.pk } })
        else s))

/-- A header has waited 2 ms at an output: in line, or with the VC and no flit sent. -/
def State.stalled (s : State) (out v : Nat) : Option Waiting :=
  let late (w : Waiting) : Bool := w.out = out && w.vc = v && decide (w.pk.tc ≠ 0) && decide (w.at_ + 2 * ms ≤ s.now)
  match s.fab.waiting.find? late with
  | some w => some w
  | none =>
    let x := (s.port out).sending.getD v {}
    if decide (out < 6) && x.whole && late x.w then some x.w else none

/-- The stall breaker takes a packet out of the router. -/
def State.stallDrop (s : State) (out v : Nat) (w : Waiting) : State :=
  if s.fab.waiting.contains w then (s.dropWaiting w).showPool
  else (s.onPort out (fun q => { q with sending := q.sending.set v {} })).leftBuffer w

/-- EPOCH_FAIL for the epoch in progress of every plan of this chip whose routes use the link of an output, and for every one at local
delivery (R112, R115, R596). -/
def State.epochFailOut (s : State) (out : Nat) : State :=
  let t := s.topo s.loss.members
  (s.plans.filter (fun e => decide (6 ≤ out) || s.planUses t e.2.nodes s.node out)).foldl (fun s e => s.epochFail e.1 s.tim.epoch) s

/-- The firmware of a chip that is not the pole tells it at which output its stall breaker fired, under a code that the spec does not give
(log entry 31). -/
def State.tellStall (s : State) (out : Nat) : State :=
  match s.loss.pole with
  | some q => if q = s.node then s else s.emit (.order q 0x12 (leBytes 1 out))
  | none => s

/-- A header has waited 2 ms at an output (R115): the packet is discarded, a request answered with ERR 0x01, the firing reported
(mechanism 0x12 of Table 21-2) and the epoch in progress abandoned as in R112. Of a plan that this chip has no part in the pole abandons
it (`State.stallSeen`). -/
def execStallBreaker (out v : Fin 8) (s : State) : Out := s.run (fun s =>
  .next (
    match s.stalled out v with
    | none => s
    | some w =>
      if s.get fStallEn = 0 then s
      else
        let s := ((((s.stallDrop out v w).bump 0x2100804C).event aFabEvt 0x10).safety 0x12 out).tellStall out
        (if isRequest w.pk.kind then s.sendFrom (errFor s.node 1 w.pk) else s).epochFailOut out))

/-- The TC0 shaper releases the next routed BEACON when 125 us have passed since its previous release (R107). -/
def execBeaconRelease (s : State) : Out := s.run (fun s =>
  .next (
    match s.fab.beacons with
    | [] => s
    | b :: bs =>
      if (match s.fab.released with | some t => decide (s.now < t + 125 * us) | none => false) then s
      else
        let s := s.onFab (fun f => { f with beacons := bs, released := some s.now })
        let b := { b with src := s.node, stamp := s.stamp, len := 1, dl := false }
        if b.bcast then s.forward b 6 0 else if b.dst = s.node then s.intoSink b else s.sendFrom b))

/-- The safety core pair takes the beacons that the sink queue holds (R106). A pair that is stopped or in reset takes none (R472, R475). -/
def execTc0SinkService (s : State) : Out := s.run (fun s =>
  .next (
    if !s.pairOn then s
    else (s.onFab (fun f => { f with taken := f.taken ++ f.sink, sink := [], serviced := s.now })).set fSinkLevel 0))

/-! ### Requests at their target -/

/-- A packet reaches the agent that performs it: the packets of one class from one source in the order of their arrival
(R108). -/
def State.ingress (s : State) (pk : Packet) (kind : Nat) : Option State :=
  if pk.kind ≠ kind then none
  else match s.fab.delivered.find? (fun x => x.src = pk.src && x.tc = pk.tc) with
    | none => some s
    | some x => if x = pk then some (s.onFab (fun f => { f with delivered := f.delivered.erase pk })).showPool else none

/-- The source of a packet's access (R650). -/
def Packet.who (pk : Packet) : Who := { ten := pk.ten, src := pk.src }

/-- A packet reaches its endpoint, which discards it when its header is malformed (R89). -/
def State.atTarget (s : State) (pk : Packet) (kind : Nat) (run : State → State) : State :=
  match s.ingress pk kind with
  | none => s
  | some s => if malformed pk then s.badHeader else run s

/-- A WRITE_ACK to a request (R443). -/
def ackFor (node : Nat) (pk : Packet) : Packet :=
  { dst := pk.src, src := node, tc := 3, kind := 6, tag := pk.tag, ten := pk.ten, issuer := pk.issuer }

/-- Answer a request: WRITE_ACK for code 0, ERR otherwise. -/
def State.answerPk (s : State) (pk : Packet) (code : Nat) : State :=
  s.sendFrom (if code = 0 then ackFor s.node pk else errFor s.node code pk)

/-- The fault event that a discarded stream write raises for its tenant (R174); the spec gives it no UNIT, code or step. -/
def State.streamFault (s : State) (pk : Packet) (c : Nat) : State :=
  if pk.ten < 4 then
    let (s, bs) := s.foreign 4
    s.kmpEvent 0x8301 (leBytes 1 pk.ten ++ leBytes 1 s.node ++ leBytes 1 c ++ bs) (some pk.ten)
  else s

/-- A WRITE_STREAM (R92, R159, R174, R716): written inside the live span of a window, or discarded and counted. -/
def execWriteStream (pk : Packet) (s : State) : Out := s.run (fun s =>
  .next (s.atTarget pk 0 (fun s =>
    let s := s.settle pk.addr
    match palCore pk.addr with
    | none => s.bump 0x21008070
    | some c =>
      if s.gated pk.addr then s.bump 0x21008070
      else
        let (s, ok) := s.streamWrite pk.who c (pk.addr % 0x1000000) pk.data
        if ok then s else s.streamFault pk c)))

/-- The staging filter of link boot answers a WRITE_BULK with ERR 0x03 (R479). -/
def State.filtered (s : State) (pk : Packet) : Bool :=
  s.get ⟨0x24001014, 8, 1⟩ = 1 && decide (pk.src ≠ s.get ⟨0x24001014, 0, 6⟩)

/-- A WRITE_BULK (R93, R175, R443, R479, R716): performed, then answered with WRITE_ACK or ERR. -/
def execWriteBulk (pk : Packet) (s : State) : Out := s.run (fun s =>
  .next (s.atTarget pk 1 (fun s =>
    let staged := isSram pk.addr && decide (pk.addr < 0x1380000)
    if staged && s.filtered pk then s.answerPk pk 3
    else
      let (s, e) := s.spanWrite (.fabric pk.who) pk.addr pk.data
      let s := if staged && e = 0 then s.onCtl (fun c => { c with progressAt := s.now }) else s
      s.answerPk pk e)))

/-- A READ (R94, R166, R175, R716): one READ_DATA of the whole length, with POISON when a word has a parity error, or one ERR. -/
def execRead (pk : Packet) (s : State) : Out := s.run (fun s =>
  .next (s.atTarget pk 2 (fun s =>
    let n := fieldAt pk.data 0 2
    if n < 4 || 512 < n || n % 4 ≠ 0 then s.answerPk pk 2
    else
      match s.spanRead (.fabric pk.who) pk.addr n with
      | (s, .inl e) => s.answerPk pk e
      | (s, .inr (bs, bad)) =>
        s.sendFrom { dst := pk.src, tc := 3, kind := 5, poison := bad, nbytes := n, tag := pk.tag, ten := pk.ten, issuer := pk.issuer, data := bs })))

/-- A MSG (R97, R443, R484, R489, R716): placed in the path-3 mailbox that ADDR names, or refused. A BOOT_GO from another node than
the filtered one is refused with ERR 0x03. -/
def execMsg (pk : Packet) (s : State) : Out := s.run (fun s =>
  .next (s.atTarget pk 3 (fun s =>
    if within pk.addr 0x26001000 0x260013FF then
      let mb := (pk.addr - 0x26001000) / 0x100
      if mb = 0 && fieldAt pk.data 2 2 = 0x0B22 && s.filtered pk then s.answerPk pk 3
      else
        let (s, ok) := s.msgArrive pk.src mb pk.data
        s.answerPk pk (if ok then 0 else 4)
    else s.answerPk pk 2)))

/-- A CREDIT_REQ (R172): CREDIT_RET of the units granted, or ERR. A window ID with another bit set names no window. -/
def execCreditReq (pk : Packet) (s : State) : Out := s.run (fun s =>
  .next (s.atTarget pk 4 (fun s =>
    let s := s.settle pk.addr
    let id := fieldAt pk.data 0 2
    let c := bits id 4 3
    if 128 ≤ id then s.answerPk pk 5
    else if s.gated (palBase c) then s.answerPk pk 2
    else
      match s.creditReq pk.who c (id % 16) pk.addr (fieldAt pk.data 2 4) with
      | (s, .inl e) => s.answerPk pk e
      | (s, .inr g) => s.sendFrom (creditRet pk.src pk.tag pk.issuer pk.ten c (id % 16) (32 * g)))))

/-! ### Responses and timeouts at their issuer -/

/-- A response that names no transaction in flight is discarded and counted (R95, R96). -/
def State.late (s : State) : State := (s.bump 0x21008054).event aFabEvt 0x40

/-- A late answer to a bulk packet that a core's reset has ended: its count returns with the answer (R460). -/
def State.lateBulk (s : State) (pk : Packet) : State :=
  match s.fab.quarantine.find? (fun q => q.issuer = pk.issuer && q.tag = pk.tag && q.reset && q.bulk = some pk.src) with
  | none => s.late
  | some q =>
    let s := s.onFab (fun f => { f with quarantine := f.quarantine.map (fun x => if x = q then { q with bulk := none } else x) })
    ((s.setBulk pk.src (s.bulkCount pk.src - 1)).pump).late

/-- The kind of the response that answers a request. -/
def answerKind (k : Nat) : Nat := if k = 2 then 5 else if k = 4 then 7 else 6

/-- The transaction that a response answers, by ISSUER and TAG (R96); 200 us after its issue it has ended (R95, R114). -/
def State.txnOf (s : State) (pk : Packet) : Option Txn :=
  s.fab.txns.find? (fun t => t.issuer = pk.issuer && t.tag = pk.tag && decide (s.now < t.since + 200 * us) &&
    (pk.kind = 8 || pk.kind = answerKind t.pk.kind))

/-- The DMA fault code of an ERR or of a timeout (Table 6-4). -/
def dmaErr (e : Nat) : Nat := if e = 1 || e = 4 || e = 7 then 0x0A else 9

/-- A transaction ends without its result (R209, R210, R205, R223, R402, R426, R437, R484, R495): `e` is the ERR code, or 0x07 for a
timeout. -/
def State.txnFailed (s : State) (t : Txn) (e : Nat) : State :=
  match t.use with
  | .dmaRead c ch _ _ => s.dmaFault c ch (dmaErr e) e false
  | .dmaWrite c ch n tries =>
    if e = 4 && decide (tries < 3) then
      let q := s.chan c ch
      let r : Resend := { node := t.pk.dst, addr := t.pk.addr, data := t.pk.data.take n, tries := tries + 1, since := s.now }
      s.setChan c ch { q with resends := q.resends ++ [r] }
    else s.dmaFault c ch (dmaErr e) e false
  | .note c sl => s.noteDone c sl 3 e
  | .signal c step => if dmaErr e = 9 then s.kill c 0 6 step else s.silentAbort c
  | .credit c ch => s.dmaFault c ch (dmaErr e) e false
  | .ringCredit _ _ => s
  | .parkRead => s
  | .feedRead f frame _ _ => s.feedLost f frame
  | .layerRead f frame _ _ _ => s.layerLost f frame
  | .relay id => if e = 4 then s.relayRefused id else s
  | .firmware =>
    if e = 1 || e = 3 then
      s.onFab (fun b => { b with tagWait := b.tagWait.filter (fun w => !(w.use = .firmware && w.pk.dst = t.pk.dst)) })
    else s
  | .discard => s

/-- A sample of PARK_REQ at the pole (R518, R699). -/
def State.parkSample (s : State) (level : Bool) : State :=
  if s.pwr.parkSince.isSome && s.pwr.parkLevel == level then s
  else { s with pwr := { s.pwr with parkLevel := level, parkSince := some s.now } }

/-- A READ's data lands in the slot that its issuer reserved (R94, R194): a read slot, which the write side of the engine writes to the
palette (`State.landBeat`), or the formatter. Poisoned data is not used (R211, R437). -/
def State.landed (s : State) (t : Txn) (data : List Byte) (poison : Bool) : State :=
  match t.use with
  | .dmaRead c ch dst n =>
    if poison then s.dmaFault c ch 0x0B 0 false
    else s.land c { ch := ch, read := true, addr := dst, data := fit n data, len := n }
  | .parkRead => if poison then s else s.parkSample (bit (leNat data) (s.cfgField 185 1 % 16))
  | .feedRead f frame row off => if poison then s.feedLost f frame else s.feedLanded f frame row off data
  | .layerRead f frame l row off => if poison then s.layerLost f frame else s.layerLanded f frame l row off data
  | _ => s

/-- What the WRITE_ACK of a transaction completes (R184, R205, R223, R495). -/
def State.acked (s : State) (t : Txn) : State :=
  match t.use with
  | .dmaWrite c ch n _ =>
    let q := s.chan c ch
    ((s.setChan c ch { q with writes := q.writes - 1 }).dmaMoved c ch n).showDma c
  | .note c sl => s.noteDone c sl 2 0
  | .signal c step => s.signalDone c step
  | .relay id => s.relayAck id
  | _ => s

/-- Credit of a channel's window arrives (R201); the next request that is due goes (R200). -/
def State.chanCredit (s : State) (c ch units : Nat) (reply : Bool) : State :=
  let q := s.chan c ch
  let s := if reply then s.setChan c ch { q with creqOut := false } else s
  let s := (s.set (fHeldCred c ch) (s.get (fHeldCred c ch) + units)).set (fPendCred c ch) (s.get (fPendCred c ch) - units)
  (s.creditSend c ch).showDma c

/-- The DMA channel that waits for an unsolicited return of window `id` of node `src` (R173, R201). -/
def State.creditChan (s : State) (src id : Nat) : Option (Nat × Nat) :=
  ((List.range 64).map (fun i => (i / 8, i % 8))).find? (fun x =>
    let q := s.chan x.1 x.2
    match q.held with
    | some d => d.isStream && decide (gNode d.dst = src) && decide (d.win + 16 * (palCore (gLocal d.dst)).getD 0 = id) && !q.creqOut &&
        decide (0 < s.get (fPendCred x.1 x.2))
    | none => false)

/-- The destination, and whether its header ring, that waits for an unsolicited return (R173, R397). -/
def State.creditRing (s : State) (src id : Nat) : Option (Nat × Bool) :=
  ((List.range 24).flatMap (fun w => [(w, false), (w, true)])).find? (fun x =>
    let c := s.ringCfg x.1
    let d := s.dest x.1
    let base := if x.2 then c.hdr else c.ring
    let win := (if x.2 then c.hwin else c.win) + 16 * (palCore (gLocal base)).getD 0
    c.en && !d.failed && decide (gNode base = src) && decide (win = id) && decide (0 < if x.2 then d.pendH else d.pend))

/-- READ_DATA (R94 to R96). -/
def execReadData (pk : Packet) (s : State) : Out := s.run (fun s =>
  .next (s.atTarget pk 5 (fun s =>
    match s.txnOf pk with
    | none => s.late
    | some t => (s.endTxn t).landed t pk.data pk.poison)))

/-- WRITE_ACK (R93, R95, R96, R440). -/
def execWriteAck (pk : Packet) (s : State) : Out := s.run (fun s =>
  .next (s.atTarget pk 6 (fun s =>
    match s.txnOf pk with
    | none => s.lateBulk pk
    | some t => (s.endTxn t).acked t)))

/-- CREDIT_RET (R172, R173, R201): the answer to a request for the window that it names, or an unsolicited return with TAG 0. -/
def execCreditRet (pk : Packet) (s : State) : Out := s.run (fun s =>
  .next (s.atTarget pk 7 (fun s =>
    let id := fieldAt pk.data 0 2
    let units := fieldAt pk.data 2 4 / 32
    match (s.txnOf pk).filter (fun t => t.pk.dst = pk.src && fieldAt t.pk.data 0 2 = id) with
    | some t =>
      let s := s.endTxn t
      match t.use with
      | .credit c ch => s.chanCredit c ch units true
      | .ringCredit w hdr => s.ringGrant w hdr units
      | _ => s
    | none =>
      if pk.tag ≠ 0 then s.late
      else
        match s.creditChan pk.src id, s.creditRing pk.src id with
        | some (c, ch), _ => s.chanCredit c ch units false
        | none, some (w, hdr) => s.ringGrant w hdr units
        | none, none => s.late)))

/-- ERR: the transaction ends with its code (R95 to R97, R440). -/
def execErr (pk : Packet) (s : State) : Out := s.run (fun s =>
  .next (s.atTarget pk 8 (fun s =>
    match s.txnOf pk with
    | none => s.lateBulk pk
    | some t => (s.endTxn t).txnFailed t (byteAt pk.data 0))))

/-- 200 us without a response: the transaction ends locally with code 0x07, and its tag stays unused for 1 ms (R95, R440). -/
def execResponseTimeout (issuer : Fin 14) (tag : Fin 1024) (s : State) : Out := s.run (fun s =>
  .next (
    match s.fab.txns.find? (fun t => t.issuer = issuer.val && t.tag = tag.val && decide (t.since + 200 * us ≤ s.now)) with
    | none => s
    | some t => (s.quarantineTxn t).txnFailed t 7))

/-- A tag's quarantine ends: a waiting transaction may take it, and its bulk count returns (R95, R96, R440). -/
def execTagQuarantineEnd (issuer : Fin 14) (tag : Fin 1024) (s : State) : Out := s.run (fun s =>
  .next (
    match s.fab.quarantine.find? (fun q => q.issuer = issuer.val && q.tag = tag.val && decide (q.until_ ≤ s.now)) with
    | none => s
    | some q =>
      let s := s.onFab (fun f => { f with quarantine := f.quarantine.erase q })
      (match q.bulk with | some n => s.setBulk n (s.bulkCount n - 1) | none => s).pump))

end Sys2Proof.Machine
end

