-- ==== Sys2Proof/Machine/Epoch.lean ====
section
/-! DEFINITION. Epoch: the declaration and formation of a constellation, epoch boundaries, rate changes and vehicle time (01, 04). -/

namespace Sys2Proof.Machine

/-- Change the state of time. -/
def State.onTim (s : State) (f : TimeState → TimeState) : State := { s with tim := f s.tim }

/-! ### Epoch boundaries -/

/-- The base and rate that the registers hold come into force (R719). -/
def State.takeBase (s : State) : State :=
  s.onTim (fun t => { t with baseCt := s.reg64 0x23000030, baseN := s.reg64 0x23000038, rate25 := s.get fRate = 1 })

/-- Firmware stages a rate change during the epoch before its boundary B (R142). -/
def State.stageRate (s : State) : State :=
  match s.tim.rateAt with
  | some (b, r) =>
    if s.tim.epoch + 1 = b then
      (((s.setReg64 0x23000030 (s.boundary b)).setReg64 0x23000038 b).set fRate (b2n r)).onTim (fun t => { t with rateAt := none })
    else s
  | none => s

/-- The operation of a rate change ends at its boundary (R134, R507). -/
def State.rateDone (s : State) (n : Nat) : State :=
  match s.con.rateOp with
  | some (op, b) => if b ≤ n then ({ s with con := { s.con with rateOp := none } } : State).opDone op 0 [] else s
  | none => s

/-- FSYNC configurations take effect (R138). A synchronous camera awaits the edges of epoch `n` by them, behind those whose windows are
still to close (R360, R361, R375). -/
def State.fsyncBoundary (s : State) (n : Nat) : State :=
  let s := (List.range 4).foldl (fun s k => s.fsBoundary n k) s
  (List.range 4).foldl (fun s p =>
    if s.get (fCamEn p) = 1 && s.get (fSynced p) = 1 then
      s.onCam p (fun c => { c with edges := c.edges ++ s.epochEdges (s.get (fFsyncSel p)) n })
    else s) s

/-- A video instance notes an epoch in which one of its streams on this chip had a void frame, a dropped packet or a stale layer
(R547). -/
def State.videoWatch (s : State) (n : Nat) : State :=
  { s with con := { s.con with services := s.con.services.map (fun (v : Service) =>
      if svcKind v.id = 1 || svcKind v.id = 2 then v
      else
        let sum := s.videoTrouble v
        { v with watch := sum, badEpoch := if v.watch < sum then some n else v.badEpoch }) } }

/-- Epoch `n` begins (R21, R133): the epoch number and its interrupt, the base and rate, FSYNC, membership, plans and commits, the
cores, stripe rings, services and power modes. -/
def State.epochStart (s : State) (n : Nat) : State :=
  let at_ := s.boundary n
  let s := s.takeBase.onTim (fun t => { t with epoch := n, epochOn := true, boundaryAt := at_ })
  let s := ((s.setReg64 0x23000048 n).emit (.epochIrq n)).stageRate.rateDone n
  let s := s.fsyncBoundary n
  let s := if s.isPole then s.commitDeadline n else s
  let s := ((s.lossBoundary n).commitBoundary n).unloadBoundary n
  let s := (List.range 8).foldl (fun s c => s.coreBoundary c) s
  let s := (List.range 24).foldl (fun s w => s.ringBoundary w) s
  let s := (s.videoWatch n).refreshServices
  ((s.parkBoundary n).idleBoundary).resetBoundary n

/-- The epoch at whose boundary this chip joins, once the pole has announced it (R603). -/
def State.joinEpoch (s : State) : Option Nat := (s.loss.changes.find? (fun c => c.2.1 && c.1 = s.node)).map (fun c => c.2.2.2)

/-- CT has reached the next boundary (R133, R135): the next epoch begins. A chip that joins enters the member phase at boundary(J), by
the base that its registers hold. -/
def execEpochBoundary (s : State) : Out := s.run (fun s =>
  .next (
    if s.get fRun = 1 then
      if s.boundary (s.tim.epoch + 1) ≤ s.ctNs then s.epochStart (s.tim.epoch + 1) else s
    else match (if s.get fMember = 0 then s.joinEpoch else none) with
      | some j =>
        let t := s.takeBase
        if t.boundary j ≤ s.ctNs then (t.set fRun 1).epochStart j else s
      | none => s))

/-! ### Formation -/

/-- The chip enters the member phase of a forming constellation (R125, R133, R135): epoch 0 begins. -/
def State.enterMember (s : State) : State :=
  let s := ((s.set fMember 1).set fRun 1).onTim (fun t => { t with formAt := none })
  let s := (s.setReg64 0x23000030 0).setReg64 0x23000038 0
  let s := (s.onLoss (fun l => { l with formed := true, committed := l.members, beatAt := s.now })).hbMode (if s.isPole then 2 else 1)
  let s := s.takeBase.epochStart 0
  if s.isPole then s.autoStart none else s

/-- Take every boundary that CT has already passed, ascending, at most `k` of them (R125). -/
def State.catchUp (s : State) : Nat → State
  | 0 => s
  | k + 1 => if s.boundary (s.tim.epoch + 1) ≤ s.ctNs then (s.epochStart (s.tim.epoch + 1)).catchUp k else s

/-- A chip enters the member phase after the formation instant `t`, with the time that has passed since (R125). -/
def State.formedLate (s : State) (t : Nat) : State :=
  let s := (s.ctSet (s.tim.ct - t * 4294967296)).enterMember
  s.catchUp (s.ctNs / 30000000)

/-- The pole declares the initial membership 100 ms after the last new node became reachable, and broadcasts FORMATION (R39, R125,
R142, R577). RATE is that of its own register. -/
def execMembershipDeclare (s : State) : Out := s.run (fun s =>
  .next (
    let s := s.poleCheck
    if s.firmwareUp && s.isPole && decide (s.lifecycle ≠ 3) && !s.loss.lone && !s.loss.formed && s.tim.formAt.isNone && decide (s.loss.reachAt + 100 * ms ≤ s.now) then
      let t := (s.ctNs + 5000000 + 999999) / 1000000 * 1000000
      let s := s.onLoss (fun l => { l with members := l.reach ||| 2 ^ s.node, banks := l.reach ||| 2 ^ s.node, version := 1 })
      let (s, bs) := s.random 4
      let s : State := { s with con := { s.con with formId := max 1 (leNat bs) } }
      (s.onTim (fun x => { x with formAt := some t })).broadcast
        (beaconBytes 0x40 (leBytes 1 0 ++ leBytes 1 (s.get fRate) ++ leBytes 1 0 ++ leBytes 4 1) t)
    else s))

/-- A chip other than the pole takes the membership at formation: the beacon carries VERSION and no mask, so that of the other nodes is
a free value (Table 4-10). -/
def State.takeMembership (s : State) (pole version : Nat) : State :=
  let (s, m) := s.freeNat
  let (s, f) := s.freeNat
  let s := s.onLoss (fun l => { l with
    pole := some pole, version := version, members := (m % 18446744073709551616) ||| 2 ^ (pole % 64) ||| 2 ^ s.node,
    banks := (m % 18446744073709551616) ||| 2 ^ (pole % 64) ||| 2 ^ s.node })
  { s with con := { s.con with formId := f % 4294967295 + 1 } }

/-- FORMATION (R125, R142); a chip in RETURN is never a member (Table 22-1). T_F and RATE are stored; a chip whose provisional CT has passed T_F enters the member phase at once. -/
def execFormation (b : Packet) (s : State) : Out := s.run (fun s =>
  .next (
    let s := s.took b
    if s.get fMember = 1 || !s.firmwareUp || s.lifecycle = 3 || s.loss.formed then s
    else
      let t := fieldAt b.data 8 8
      let s := s.set fRate (byteAt b.data 2 % 2)
      let s := if s.isPole && b.src = s.node then s else s.takeMembership b.src (fieldAt b.data 4 4)
      let s := s.onTim (fun x => { x with formAt := some t })
      if t < s.ctNs then s.formedLate t else s))

/-- Provisional CT has reached T_F: CT is 0 and the member phase starts (R125, R135). -/
def execFormationInstant (s : State) : Out := s.run (fun s =>
  .next (
    match s.tim.formAt with
    | some t => if s.get fMember = 0 && decide (t ≤ s.ctNs) then (s.ctSet 0).enterMember else s
    | none => s))

/-! ### Rate changes and vehicle time -/

/-- RATE_CHANGE (R134, R142): staged during the epoch before B. -/
def execRateChange (b : Packet) (s : State) : Out := s.run (fun s =>
  .next (
    let s := s.took b
    let n := fieldAt b.data 8 8
    if s.get fRun = 1 && decide (s.tim.epoch < n) then
      (s.onTim (fun t => { t with rateAt := some (n, bit (byteAt b.data 2) 0) })).stageRate
    else s))

/-- The pole broadcasts VT_UPDATE once per epoch (R140, R142). -/
def execVtUpdateSend (s : State) : Out := s.run (fun s =>
  .next (
    if s.isPole && s.get fRun = 1 && s.tim.vtSentEpoch ≠ some s.tim.epoch then
      (s.onTim (fun t => { t with vtSentEpoch := some t.epoch })).broadcast
        (beaconBytes 0x42 (leBytes 1 0 ++ leBytes 1 (b2n s.tim.ptp.locked) ++ leBytes 5 0) (unsigned 64 s.tim.ptp.vt))
    else s))

/-- VT_UPDATE (R140, R142): VT goes into `CLK_VT_OFS`, and VT_VALID is kept. -/
def execVtUpdate (b : Packet) (s : State) : Out := s.run (fun s =>
  .next (
    let s := s.took b
    (s.setReg64 0x23000090 (fieldAt b.data 8 8)).onTim (fun t => { t with vtValid := bit (byteAt b.data 2) 0, vtEpoch := some t.epoch })))

/-- Three epochs without VT_UPDATE: VT is not valid (R142). -/
def execVtStale (s : State) : Out := s.run (fun s =>
  .next (if s.tim.vtEpoch.getD 0 + 3 ≤ s.tim.epoch then s.onTim (fun t => { t with vtValid := false }) else s))

end Sys2Proof.Machine
end

