-- ==== Sys2Proof/Machine/Orders.lean ====
section
/-! DEFINITION. Orders: what the firmware of a chip does with the orders and the reports that other chips' firmware sends over path 3,
and the consumption of mailbox messages (17, 18). The spec says what the chips of a constellation share, not in which messages: their
codes and bytes are the model's own (log entry 48). -/

namespace Sys2Proof.Machine

/-! ### Orders of the pole to a member -/

/-- The record, or a section of it, reaches a chip (R518, R519): a copy that a chip keeps is measured and sealed (R636, R642); section 1
sets the governor, section 3 the chip's ports. -/
def State.takeRecord (s : State) (d : List Byte) : State :=
  if d.length = 3248 then ((s.cfgPut 5 (d.drop 5)).measure 3 (s.cfgPut 5 (d.drop 5)).cfgImage).sealKeys
  else if d.length = 20 then (s.cfgPut 176 (d.drop 4)).govRecord
  else if d.length = 2052 then (s.cfgPut 612 (d.drop 4)).applyNetwork
  else s

/-- A tenant of the constellation reaches a chip: its fence, or at a chip that may become pole its key (R503, R648). -/
def State.takeTenant (s : State) (d : List Byte) : State :=
  let t := byteAt d 0 % 4
  if d.length = 16 then
    let tier := bits (byteAt d 1) 2 1
    (s.tenantEntry t (1 + 2 * tier) (fieldAt d 8 8)).fenceWrite t tier (fieldAt d 8 8)
  else { s with con := { s.con with tenKeys := tblSet (fun _ => []) s.con.tenKeys t (d.drop 1) } }

/-- A tenant leaves at boundary(U) (R654). -/
def State.takeRelease (s : State) (d : List Byte) : State :=
  let t := byteAt d 0 % 4
  let s := s.con.services.foldl (fun s v => match s.service v.id with
    | some v => if v.tenant = t then (s.stopService v).setAuto v.id [] else s
    | none => s) s
  { s with con := { s.con with releasing := s.con.releasing ++ [(t, 0, fieldAt d 1 8, false)] } }

/-- A degraded group of cameras, as the pole finds it (R433): the instances that use it follow. -/
def State.takeGroup (s : State) (g : Nat) (on : Bool) : State :=
  let left := s.vid.degraded.filter (fun x => x ≠ g)
  ({ s with vid := { s.vid with degraded := if on then g :: left else left } }).refreshServices

/-- An order to use a command's meaning on this chip: it waits as a command of no session, whose answer is discarded. -/
def State.takeCommandOrder (s : State) (src code : Nat) (d : List Byte) : State :=
  s.accept { path := 3, entry := src, code := code, sid := 4096, role := 4, data := d }

/-- The pole's order to this chip, by its code. -/
def State.takeOrder (s : State) (src code : Nat) (d : List Byte) : State :=
  match code with
  | 0x40 => s.onPwr (fun q => { q with parkReq := true, parkEpoch := some (fieldAt d 0 8), exitEpoch := none, exitReady := false })
  | 0x41 => s.onPwr (fun q => { q with parkReq := false, exitEpoch := some (fieldAt d 0 8), exitReady := false })
  | 0x0106 => s.onPwr (fun q => { q with chipReset := some s.now })
  | 0x0107 => ({ s with con := { s.con with opKey := some d } } : State).sealKeys
  | 0x0202 => s.takeRecord d
  | 0x0300 => s.takeTenant d
  | 0x0301 => s.takeRelease d
  | 0x0601 => if (s.con.services.find? (fun v => v.id = fieldAt d 5 2 && v.started)).isSome then s else s.startTold d
  | 0x0602 => match s.service (fieldAt d 0 2) with
    | some v => (s.stopService v).setAuto v.id []
    | none => s
  | 0x0702 => if d.length = 3248 then (s.takeRecord d).applySafety else s
  | 0x0B13 =>
    let k := 1 - s.sec.header.active
    s.onSec (fun x => { (if (x.slot k).present then x.writeHeader k 1 else x) with resetEpoch := some (fieldAt d 0 8) })
  | 0x8403 => s.takeGroup (byteAt d 0) (byteAt d 1 = 1)
  | _ => if (cmdRow code).isSome then s.takeCommandOrder src code d else s

/-! ### Reports to the pole -/

/-- An event of another chip reaches the pole (R526, R527, Table 17-6): `ct` and `node` are its own. A change of an instance goes to its
subscribers, and the pole notes it. -/
def State.takeEvent (s : State) (ct node code : Nat) (d : List Byte) (ten : Option Nat) : State :=
  if code = 0x8601 then
    match s.service (fieldAt d 0 2) with
    | some v =>
      (s.setService { v with st := byteAt d 2, cause := byteAt d 3 }).deliverAt (fun sid => v.subs.contains sid) ct node code d
        (if v.tenant < 4 then some v.tenant else none)
    | none => s
  else s.deliverAt (fun _ => true) ct node code d ten

/-- A report of another chip's firmware to the pole, by its code: 0 the header of an event that was dropped (R527), 0x12 a stall (R115),
0x0311 a chip whose sections do not verify (R568), an event. -/
def State.takeReport (s : State) (src : Nat) (m : List Byte) : State :=
  let code := fieldAt m 2 2
  let d := slice m 16 (kmpLen m)
  if code = 0 then s.onSession (fieldAt d 4 2 % 4096) (fun x => { x with lost := true })
  else if code = 0x12 then s.stallSeen src (byteAt d 0)
  else if code = 0x0311 then
    match s.planModel (fieldAt d 0 2) with
    | some md => s.distribute md src
    | none => s
  else if 0x8000 ≤ code then
    let ten := byteAt d 0
    s.takeEvent (fieldAt d 1 8) (byteAt d 9) code (d.drop 13) (if ten = 0 then none else some (ten - 1))
  else s

/-! ### Mailbox messages -/

/-- A message of mailbox 1 or 2 of path 3 (R494, R533): a service message, at the chip that executes commands a report, elsewhere a
response or an event of the pole on its way out. -/
def State.consumeOut (s : State) (mb src : Nat) (m : List Byte) : State :=
  if mb = 2 && isServiceMsg m then s.serviceMsg m
  else if mb = 2 && s.executes then s.takeReport src m
  else s.forwardOut mb m

/-- What the message of a slot asks, once it has passed the checks of length and CRC (R488, R498): a message of MB0 from the pole at
another chip is an order. -/
def State.consumeIn (s : State) (p mb peer : Nat) (m : List Byte) : State :=
  if p = 3 && mb = 0 && s.firmwareUp && !s.executes && s.loss.pole == some peer then s.takeOrder peer (fieldAt m 2 2) (slice m 16 (kmpLen m))
  else if mb = 0 || mb = 3 then s.consumeCommand p mb peer m
  else s.consumeOut mb peer m

/-- The bytes of a slot that the message in it takes. -/
def State.slotMessage (s : State) (p mb sl : Nat) : List Byte :=
  let raw := s.slot p mb sl
  if p = 0 then fit (kmpTotal (fit 16 raw)) raw else raw

/-- A message passes the checks of length and CRC (R497, R498); a service message has its own. -/
def messageOk (mb : Nat) (m : List Byte) : Bool :=
  (mb = 2 && isServiceMsg m) || (kmpLenFits m && m.length = kmpTotal m && kmpCrcOk m)

/-- A posted message is consumed in its turn; the slot is freed at once, and once only (R492, R496, R498, R529). A message that fails the
length or the CRC check is discarded and counted. -/
def execMbxConsume (p mb : Fin 4) (sl : Fin 16) (s : State) : Out := s.run (fun s =>
  .next (
    if !s.posted p mb sl || !s.inTurn p mb sl || decide (mbSlots p mb ≤ sl.val) || (p = 0 && !s.spiReady) then s
    else
      let m := s.slotMessage p mb sl
      let peer := tblGet (fun _ => 0) s.kmp.peers (slotKey p mb sl)
      let s := s.freeIn p mb sl
      if messageOk mb m then s.consumeIn p mb peer m else s.bump (mbxReg p 0x10)))

/-! ### Aligned groups at the pole (R433) -/

/-- The cameras of a group: those whose verdicts have come, those that an obstacle warning names for it, and this chip's own. -/
def State.groupCams (s : State) (g : Nat) : List (Nat × Nat) :=
  ((s.vid.members.filter (fun m => m.group = g)).map (fun m => (m.node, m.pipe)) ++
    (s.con.services.filter (fun v => svcKind v.id = 1 && v.started && byteAt v.cfg 1 = g)).flatMap Service.cams ++
    ((List.range 4).filter (fun p => s.get (fSynced p) = 1 && s.get (fGroup p) = g)).map (fun p => (s.node, p))).eraseDups

/-- The pole takes a member's verdict (R433): 8 void verdicts in a row degrade the group, 16 good ones of every member restore it. The
instances that use it follow, here and by an order on the other members. -/
def execGroupStateUpdate (g : Fin 16) (node : Fin 64) (p : Fin 4) (void_ : Bool) (s : State) : Out := s.run (fun s =>
  .next (
    if g.val = 0 || !s.executes then s
    else
      let same (m : GroupMember) : Bool := m.group = g.val && m.node = node.val && m.pipe = p.val
      let old := (s.vid.members.find? same).getD { group := g, node := node, pipe := p }
      let new := if void_ then { old with voids := old.voids + 1, goods := 0 } else { old with voids := 0, goods := old.goods + 1 }
      let ms := new :: s.vid.members.filter (fun m => !same m)
      let s := { s with vid := { s.vid with members := ms } }
      let all := (s.groupCams g).all (fun c => ms.any (fun m => m.group = g.val && m.node = c.1 && m.pipe = c.2 && decide (16 ≤ m.goods)))
      let was := s.vid.degraded.contains g.val
      let now := if 8 ≤ new.voids then true else if all then false else was
      if now = was then s
      else
        let d := leBytes 1 g ++ leBytes 1 (b2n now)
        ((s.takeGroup g now).tellService 0x8403 d).kmpEvent 0x8403 d none))

end Sys2Proof.Machine
end

