-- ==== Sys2Proof/Machine/Dispatch.lean ====
section
/-! DEFINITION. Dispatch: which meaning each command has. -/

namespace Sys2Proof.Machine

/-- The effect of a command on everything but the queue. -/
def exec (i : Instr) (s : State) : Host.Outcome State Fault Refusal :=
  match i with
  | .linkDownDwellEnd p => Sys2Proof.Machine.execLinkDownDwellEnd p s
  | .detectTimeout p => Sys2Proof.Machine.execDetectTimeout p s
  | .alignTimeout p => Sys2Proof.Machine.execAlignTimeout p s
  | .equalizeTimeout p => Sys2Proof.Machine.execEqualizeTimeout p s
  | .retrainTimeout p => Sys2Proof.Machine.execRetrainTimeout p s
  | .blockLock p l => Sys2Proof.Machine.execBlockLock p l s
  | .lossOfLock p l bad => Sys2Proof.Machine.execLossOfLock p l bad s
  | .trainBlock p l inv body => Sys2Proof.Machine.execTrainBlock p l inv body s
  | .alignPair p b0 b1 skew => Sys2Proof.Machine.execAlignPair p b0 b1 skew s
  | .skipPair p fill => Sys2Proof.Machine.execSkipPair p fill s
  | .laneLevelPairDue p => Sys2Proof.Machine.execLaneLevelPairDue p s
  | .idle p => Sys2Proof.Machine.execIdle p s
  | .notice p code => Sys2Proof.Machine.execNotice p code s
  | .fullFrame p f => Sys2Proof.Machine.execFullFrame p f s
  | .shortFrame p f => Sys2Proof.Machine.execShortFrame p f s
  | .frameSend p => Sys2Proof.Machine.execFrameSend p s
  | .shortFrameSend p => Sys2Proof.Machine.execShortFrameSend p s
  | .replayTimerExpiry p => Sys2Proof.Machine.execReplayTimerExpiry p s
  | .lnkEn p en => Sys2Proof.Machine.execLnkEn p en s
  | .lnkRst p => Sys2Proof.Machine.execLnkRst p s
  | .lnkRetrain p => Sys2Proof.Machine.execLnkRetrain p s
  | .injCrc p => Sys2Proof.Machine.execInjCrc p s
  | .lnkTest p t => Sys2Proof.Machine.execLnkTest p t s
  | .prbsSync p l inv => Sys2Proof.Machine.execPrbsSync p l inv s
  | .prbsSyncLoss p l wrong => Sys2Proof.Machine.execPrbsSyncLoss p l wrong s
  | .packetReceive p v => Sys2Proof.Machine.execPacketReceive p v s
  | .packetForward out v => Sys2Proof.Machine.execPacketForward out v s
  | .writeStream pk => Sys2Proof.Machine.execWriteStream pk s
  | .writeBulk pk => Sys2Proof.Machine.execWriteBulk pk s
  | .read pk => Sys2Proof.Machine.execRead pk s
  | .msg pk => Sys2Proof.Machine.execMsg pk s
  | .creditReq pk => Sys2Proof.Machine.execCreditReq pk s
  | .readData pk => Sys2Proof.Machine.execReadData pk s
  | .writeAck pk => Sys2Proof.Machine.execWriteAck pk s
  | .creditRet pk => Sys2Proof.Machine.execCreditRet pk s
  | .err pk => Sys2Proof.Machine.execErr pk s
  | .responseTimeout issuer tag => Sys2Proof.Machine.execResponseTimeout issuer tag s
  | .tagQuarantineEnd issuer tag => Sys2Proof.Machine.execTagQuarantineEnd issuer tag s
  | .beaconRelease => Sys2Proof.Machine.execBeaconRelease s
  | .tc0SinkService => Sys2Proof.Machine.execTc0SinkService s
  | .routeSwitch => Sys2Proof.Machine.execRouteSwitch s
  | .stallBreaker out v => Sys2Proof.Machine.execStallBreaker out v s
  | .timeReqSend p => Sys2Proof.Machine.execTimeReqSend p s
  | .timeReq p data => Sys2Proof.Machine.execTimeReq p data s
  | .timeRspSend p => Sys2Proof.Machine.execTimeRspSend p s
  | .timeRsp p data => Sys2Proof.Machine.execTimeRsp p data s
  | .parentChoice => Sys2Proof.Machine.execParentChoice s
  | .lockedLoss => Sys2Proof.Machine.execLockedLoss s
  | .membershipDeclare => Sys2Proof.Machine.execMembershipDeclare s
  | .formation b => Sys2Proof.Machine.execFormation b s
  | .formationInstant => Sys2Proof.Machine.execFormationInstant s
  | .rateChange b => Sys2Proof.Machine.execRateChange b s
  | .vtUpdateSend => Sys2Proof.Machine.execVtUpdateSend s
  | .vtUpdate b => Sys2Proof.Machine.execVtUpdate b s
  | .vtStale => Sys2Proof.Machine.execVtStale s
  | .epochBoundary => Sys2Proof.Machine.execEpochBoundary s
  | .fsyncEdge k => Sys2Proof.Machine.execFsyncEdge k s
  | .fsyncPulseEnd k => Sys2Proof.Machine.execFsyncPulseEnd k s
  | .clockMonitorFault m => Sys2Proof.Machine.execClockMonitorFault m s
  | .pllLockLoss root => Sys2Proof.Machine.execPllLockLoss root s
  | .crystalLoss => Sys2Proof.Machine.execCrystalLoss s
  | .faultResetDelay => Sys2Proof.Machine.execFaultResetDelay s
  | .clkGateWrite v => Sys2Proof.Machine.execClkGateWrite v s
  | .coreGateClose c => Sys2Proof.Machine.execCoreGateClose c s
  | .clkCtLoRead => Sys2Proof.Machine.execClkCtLoRead s
  | .ptpSync e data => Sys2Proof.Machine.execPtpSync e data s
  | .ptpFollowUp e data => Sys2Proof.Machine.execPtpFollowUp e data s
  | .ptpAnnounce e data => Sys2Proof.Machine.execPtpAnnounce e data s
  | .ptpDelayReqSend => Sys2Proof.Machine.execPtpDelayReqSend s
  | .ptpDelayResp e data => Sys2Proof.Machine.execPtpDelayResp e data s
  | .ptpMasterLoss => Sys2Proof.Machine.execPtpMasterLoss s
  | .palRgnWrite c r w v => Sys2Proof.Machine.execPalRgnWrite c r w v s
  | .palBankPwrWrite c v => Sys2Proof.Machine.execPalBankPwrWrite c v s
  | .pairReady c pair => Sys2Proof.Machine.execPairReady c pair s
  | .palWinCfgWrite c w v => Sys2Proof.Machine.execPalWinCfgWrite c w v s
  | .palWinRel c w v => Sys2Proof.Machine.execPalWinRel c w v s
  | .narrowDisplace c b step => Sys2Proof.Machine.execNarrowDisplace c b step s
  | .clearPhaseEnd c => Sys2Proof.Machine.execClearPhaseEnd c s
  | .dmaStep c => Sys2Proof.Machine.execDmaStep c s
  | .descriptorStart c ch => Sys2Proof.Machine.execDescriptorStart c ch s
  | .dmaPacketForm c ch => Sys2Proof.Machine.execDmaPacketForm c ch s
  | .descriptorComplete c ch => Sys2Proof.Machine.execDescriptorComplete c ch s
  | .bulkResend c ch => Sys2Proof.Machine.execBulkResend c ch s
  | .dmaFlush c ch => Sys2Proof.Machine.execDmaFlush c ch s
  | .dmaNoteGo c sl ten => Sys2Proof.Machine.execDmaNoteGo c sl ten s
  | .seqGo c => Sys2Proof.Machine.execSeqGo c s
  | .seqHalt c => Sys2Proof.Machine.execSeqHalt c s
  | .rerunGo c => Sys2Proof.Machine.execRerunGo c s
  | .seqAbandon c => Sys2Proof.Machine.execSeqAbandon c s
  | .planSwitch c => Sys2Proof.Machine.execPlanSwitch c s
  | .tensor c => Sys2Proof.Machine.execTensor c s
  | .tensorComplete c st => Sys2Proof.Machine.execTensorComplete c st s
  | .waitStep c => Sys2Proof.Machine.execWaitStep c s
  | .barrier c => Sys2Proof.Machine.execBarrier c s
  | .barrierReread c => Sys2Proof.Machine.execBarrierReread c s
  | .signal c => Sys2Proof.Machine.execSignal c s
  | .creditWait c => Sys2Proof.Machine.execCreditWait c s
  | .creditRel c => Sys2Proof.Machine.execCreditRel c s
  | .epochEnd c => Sys2Proof.Machine.execEpochEnd c s
  | .test c => Sys2Proof.Machine.execTest c s
  | .testComplete c st pass => Sys2Proof.Machine.execTestComplete c st pass s
  | .rerunIssue c => Sys2Proof.Machine.execRerunIssue c s
  | .sfuLoadGo c slot => Sys2Proof.Machine.execSfuLoadGo c slot s
  | .sfuUnload c slot => Sys2Proof.Machine.execSfuUnload c slot s
  | .sfuLoadEnd c => Sys2Proof.Machine.execSfuLoadEnd c s
  | .sfuSelfTestStart c => Sys2Proof.Machine.execSfuSelfTestStart c s
  | .sfuSelfTestLate c => Sys2Proof.Machine.execSfuSelfTestLate c s
  | .sfuSelfTestEnd c slot pass => Sys2Proof.Machine.execSfuSelfTestEnd c slot pass s
  | .tgLaunch c => Sys2Proof.Machine.execTgLaunch c s
  | .groupResident c g => Sys2Proof.Machine.execGroupResident c g s
  | .launchComplete c st => Sys2Proof.Machine.execLaunchComplete c st s
  | .launchLimit c st => Sys2Proof.Machine.execLaunchLimit c st s
  | .nop c g => Sys2Proof.Machine.execNop c g s
  | .exit c g => Sys2Proof.Machine.execExit c g s
  | .bra c g => Sys2Proof.Machine.execBra c g s
  | .brd c g => Sys2Proof.Machine.execBrd c g s
  | .rcv c g => Sys2Proof.Machine.execRcv c g s
  | .yield c g => Sys2Proof.Machine.execYield c g s
  | .wait c g => Sys2Proof.Machine.execWait c g s
  | .fence c g => Sys2Proof.Machine.execFence c g s
  | .join c g => Sys2Proof.Machine.execJoin c g s
  | .lbar c g => Sys2Proof.Machine.execLbar c g s
  | .waitRelease c g => Sys2Proof.Machine.execWaitRelease c g s
  | .joinRelease c g => Sys2Proof.Machine.execJoinRelease c g s
  | .lbarRelease c st => Sys2Proof.Machine.execLbarRelease c st s
  | .add c g => Sys2Proof.Machine.execAdd c g s
  | .sub c g => Sys2Proof.Machine.execSub c g s
  | .mul c g => Sys2Proof.Machine.execMul c g s
  | .mulhi c g => Sys2Proof.Machine.execMulhi c g s
  | .mad c g => Sys2Proof.Machine.execMad c g s
  | .min c g => Sys2Proof.Machine.execMin c g s
  | .max c g => Sys2Proof.Machine.execMax c g s
  | .and c g => Sys2Proof.Machine.execAnd c g s
  | .or c g => Sys2Proof.Machine.execOr c g s
  | .xor c g => Sys2Proof.Machine.execXor c g s
  | .shl c g => Sys2Proof.Machine.execShl c g s
  | .shr c g => Sys2Proof.Machine.execShr c g s
  | .sel c g => Sys2Proof.Machine.execSel c g s
  | .mov c g => Sys2Proof.Machine.execMov c g s
  | .clz c g => Sys2Proof.Machine.execClz c g s
  | .ones c g => Sys2Proof.Machine.execOnes c g s
  | .fadd c g => Sys2Proof.Machine.execFadd c g s
  | .fsub c g => Sys2Proof.Machine.execFsub c g s
  | .fmul c g => Sys2Proof.Machine.execFmul c g s
  | .fma c g => Sys2Proof.Machine.execFma c g s
  | .fmin c g => Sys2Proof.Machine.execFmin c g s
  | .fmax c g => Sys2Proof.Machine.execFmax c g s
  | .fneg c g => Sys2Proof.Machine.execFneg c g s
  | .fabs c g => Sys2Proof.Machine.execFabs c g s
  | .cmpi c g => Sys2Proof.Machine.execCmpi c g s
  | .cmpf c g => Sys2Proof.Machine.execCmpf c g s
  | .mop c g => Sys2Proof.Machine.execMop c g s
  | .mpack c g => Sys2Proof.Machine.execMpack c g s
  | .munpk c g => Sys2Proof.Machine.execMunpk c g s
  | .xlane c g => Sys2Proof.Machine.execXlane c g s
  | .lpick c g => Sys2Proof.Machine.execLpick c g s
  | .cvt c g => Sys2Proof.Machine.execCvt c g s
  | .bsunp c g => Sys2Proof.Machine.execBsunp c g s
  | .bspk c g => Sys2Proof.Machine.execBspk c g s
  | .bsel c g => Sys2Proof.Machine.execBsel c g s
  | .movi c g => Sys2Proof.Machine.execMovi c g s
  | .ld c g => Sys2Proof.Machine.execLd c g s
  | .st c g => Sys2Proof.Machine.execSt c g s
  | .atom c g => Sys2Proof.Machine.execAtom c g s
  | .sfu c g => Sys2Proof.Machine.execSfu c g s
  | .rsclr c g => Sys2Proof.Machine.execRsclr c g s
  | .rsadd c g => Sys2Proof.Machine.execRsadd c g s
  | .rsmrg c g => Sys2Proof.Machine.execRsmrg c g s
  | .rsrd c g => Sys2Proof.Machine.execRsrd c g s
  | .note c g => Sys2Proof.Machine.execNote c g s
  | .notest c g => Sys2Proof.Machine.execNotest c g s
  | .frameStart p num h => Sys2Proof.Machine.execFrameStart p num h s
  | .frameEnd p h => Sys2Proof.Machine.execFrameEnd p h s
  | .pixelLine p data crcErr laneErr ovf h => Sys2Proof.Machine.execPixelLine p data crcErr laneErr ovf h s
  | .embeddedLine p data h => Sys2Proof.Machine.execEmbeddedLine p data h s
  | .lineStart p h => Sys2Proof.Machine.execLineStart p h s
  | .packetDiscard p h => Sys2Proof.Machine.execPacketDiscard p h s
  | .uncorrectableHeader p => Sys2Proof.Machine.execUncorrectableHeader p s
  | .fsWindowClose p => Sys2Proof.Machine.execFsWindowClose p s
  | .groupDeadline p => Sys2Proof.Machine.execGroupDeadline p s
  | .frecIdLoRead p => Sys2Proof.Machine.execFrecIdLoRead p s
  | .camEn p en => Sys2Proof.Machine.execCamEn p en s
  | .i2cStuckBus b freed => Sys2Proof.Machine.execI2cStuckBus b freed s
  | .setCommit p => Sys2Proof.Machine.execSetCommit p s
  | .setFlush p => Sys2Proof.Machine.execSetFlush p s
  | .setramWrite p e hi v => Sys2Proof.Machine.execSetramWrite p e hi v s
  | .setStart p => Sys2Proof.Machine.execSetStart p s
  | .i2cEntryWrite p acked => Sys2Proof.Machine.execI2cEntryWrite p acked s
  | .setWritten p => Sys2Proof.Machine.execSetWritten p s
  | .blankingClose p => Sys2Proof.Machine.execBlankingClose p s
  | .stripeRowWrite w => Sys2Proof.Machine.execStripeRowWrite w s
  | .stripeHeaderWrite w => Sys2Proof.Machine.execStripeHeaderWrite w s
  | .verdictWrite w => Sys2Proof.Machine.execVerdictWrite w s
  | .destFail w => Sys2Proof.Machine.execDestFail w s
  | .obscurationCheck p => Sys2Proof.Machine.execObscurationCheck p s
  | .paramSetCommit t => Sys2Proof.Machine.execParamSetCommit t s
  | .paramSetAbort t => Sys2Proof.Machine.execParamSetAbort t s
  | .paramSetChecksDone t => Sys2Proof.Machine.execParamSetChecksDone t s
  | .paramSetApply t => Sys2Proof.Machine.execParamSetApply t s
  | .paramSetSyncDone t => Sys2Proof.Machine.execParamSetSyncDone t s
  | .feedEn f en => Sys2Proof.Machine.execFeedEn f en s
  | .feedAvailWrite f v => Sys2Proof.Machine.execFeedAvailWrite f v s
  | .feedVerdictWrite f v => Sys2Proof.Machine.execFeedVerdictWrite f v s
  | .verdictLate f => Sys2Proof.Machine.execVerdictLate f s
  | .feedRowRead f => Sys2Proof.Machine.execFeedRowRead f s
  | .rtpPacketSend f k => Sys2Proof.Machine.execRtpPacketSend f k s
  | .heldPacketSend f k => Sys2Proof.Machine.execHeldPacketSend f k s
  | .csitxLineSend f => Sys2Proof.Machine.execCsitxLineSend f s
  | .layerReadyWrite f l v fid => Sys2Proof.Machine.execLayerReadyWrite f l v fid s
  | .groupStateUpdate g node p void_ => Sys2Proof.Machine.execGroupStateUpdate g node p void_ s
  | .epochReadySend plan n => Sys2Proof.Machine.execEpochReadySend plan n s
  | .epochReady b => Sys2Proof.Machine.execEpochReady b s
  | .epochCommitSend plan => Sys2Proof.Machine.execEpochCommitSend plan s
  | .epochCommit b => Sys2Proof.Machine.execEpochCommit b s
  | .epochAbandon b => Sys2Proof.Machine.execEpochAbandon b s
  | .gets u line => Sys2Proof.Machine.execGets u line s
  | .getm u line => Sys2Proof.Machine.execGetm u line s
  | .putm u line => Sys2Proof.Machine.execPutm u line s
  | .putc u line => Sys2Proof.Machine.execPutc u line s
  | .snoop u line => Sys2Proof.Machine.execSnoop u line s
  | .lockstepMismatch => Sys2Proof.Machine.execLockstepMismatch s
  | .bootStageEnd ok => Sys2Proof.Machine.execBootStageEnd ok s
  | .linkBootTimeout => Sys2Proof.Machine.execLinkBootTimeout s
  | .linkBootPush node => Sys2Proof.Machine.execLinkBootPush node s
  | .spiWrite addr data => Sys2Proof.Machine.execSpiWrite addr data s
  | .spiRead addr n => Sys2Proof.Machine.execSpiRead addr n s
  | .spiStatus => Sys2Proof.Machine.execSpiStatus s
  | .mbxPost p v => Sys2Proof.Machine.execMbxPost p v s
  | .mbxConsume p mb sl => Sys2Proof.Machine.execMbxConsume p mb sl s
  | .mbxOutClear p v => Sys2Proof.Machine.execMbxOutClear p v s
  | .udpDatagram e src data => Sys2Proof.Machine.execUdpDatagram e src data s
  | .relayRetry id => Sys2Proof.Machine.execRelayRetry id s
  | .relayTimeout id => Sys2Proof.Machine.execRelayTimeout id s
  | .sessionPendingTimeout sid => Sys2Proof.Machine.execSessionPendingTimeout sid s
  | .sessionIdleTimeout sid => Sys2Proof.Machine.execSessionIdleTimeout sid s
  | .handleLapse h => Sys2Proof.Machine.execHandleLapse h s
  | .getInfo r => Sys2Proof.Machine.execGetInfo r s
  | .sessionOpen r => Sys2Proof.Machine.execSessionOpen r s
  | .sessionAuth r => Sys2Proof.Machine.execSessionAuth r s
  | .sessionClose r => Sys2Proof.Machine.execSessionClose r s
  | .keepalive r => Sys2Proof.Machine.execKeepalive r s
  | .eventSubscribe r => Sys2Proof.Machine.execEventSubscribe r s
  | .chipReset r => Sys2Proof.Machine.execChipReset r s
  | .chipResetDelay => Sys2Proof.Machine.execChipResetDelay s
  | .setOperatorKey r => Sys2Proof.Machine.execSetOperatorKey r s
  | .getTime r => Sys2Proof.Machine.execGetTime r s
  | .opStatus r => Sys2Proof.Machine.execOpStatus r s
  | .constStatus r => Sys2Proof.Machine.execConstStatus r s
  | .nodeStatus r => Sys2Proof.Machine.execNodeStatus r s
  | .setConfigRecord r => Sys2Proof.Machine.execSetConfigRecord r s
  | .setFrameRate r => Sys2Proof.Machine.execSetFrameRate r s
  | .linkStatus r => Sys2Proof.Machine.execLinkStatus r s
  | .ptpConfig r => Sys2Proof.Machine.execPtpConfig r s
  | .tenantCreate r => Sys2Proof.Machine.execTenantCreate r s
  | .tenantRelease r => Sys2Proof.Machine.execTenantRelease r s
  | .tenantStatus r => Sys2Proof.Machine.execTenantStatus r s
  | .modelBegin r => Sys2Proof.Machine.execModelBegin r s
  | .modelChunk r => Sys2Proof.Machine.execModelChunk r s
  | .modelAdmit r => Sys2Proof.Machine.execModelAdmit r s
  | .modelCommit r => Sys2Proof.Machine.execModelCommit r s
  | .modelUnload r => Sys2Proof.Machine.execModelUnload r s
  | .modelList r => Sys2Proof.Machine.execModelList r s
  | .camConfigure r => Sys2Proof.Machine.execCamConfigure r s
  | .camEnable r => Sys2Proof.Machine.execCamEnable r s
  | .camSettings r => Sys2Proof.Machine.execCamSettings r s
  | .camStatus r => Sys2Proof.Machine.execCamStatus r s
  | .camGroundSet r => Sys2Proof.Machine.execCamGroundSet r s
  | .camObscurationCfg r => Sys2Proof.Machine.execCamObscurationCfg r s
  | .camAssign r => Sys2Proof.Machine.execCamAssign r s
  | .streamConfigure r => Sys2Proof.Machine.execStreamConfigure r s
  | .streamEnable r => Sys2Proof.Machine.execStreamEnable r s
  | .feedSet r => Sys2Proof.Machine.execFeedSet r s
  | .layerConfigure r => Sys2Proof.Machine.execLayerConfigure r s
  | .streamStatus r => Sys2Proof.Machine.execStreamStatus r s
  | .csitxConfigure r => Sys2Proof.Machine.execCsitxConfigure r s
  | .serviceList r => Sys2Proof.Machine.execServiceList r s
  | .serviceStart r => Sys2Proof.Machine.execServiceStart r s
  | .serviceStop r => Sys2Proof.Machine.execServiceStop r s
  | .serviceSubscribe r => Sys2Proof.Machine.execServiceSubscribe r s
  | .serviceStatus r => Sys2Proof.Machine.execServiceStatus r s
  | .countRead r => Sys2Proof.Machine.execCountRead r s
  | .safetyStatus r => Sys2Proof.Machine.execSafetyStatus r s
  | .safetyConfig r => Sys2Proof.Machine.execSafetyConfig r s
  | .safetyLock r => Sys2Proof.Machine.execSafetyLock r s
  | .safetyFaultLog r => Sys2Proof.Machine.execSafetyFaultLog r s
  | .safetyTest r => Sys2Proof.Machine.execSafetyTest r s
  | .attestQuote r => Sys2Proof.Machine.execAttestQuote r s
  | .attestCert r => Sys2Proof.Machine.execAttestCert r s
  | .lifecycleStatus r => Sys2Proof.Machine.execLifecycleStatus r s
  | .debugUnlockChallenge r => Sys2Proof.Machine.execDebugUnlockChallenge r s
  | .debugUnlockToken r => Sys2Proof.Machine.execDebugUnlockToken r s
  | .lifecycleSet r => Sys2Proof.Machine.execLifecycleSet r s
  | .fuseBurnDone => Sys2Proof.Machine.execFuseBurnDone s
  | .calStatus r => Sys2Proof.Machine.execCalStatus r s
  | .calRun r => Sys2Proof.Machine.execCalRun r s
  | .calConfig r => Sys2Proof.Machine.execCalConfig r s
  | .regRead r => Sys2Proof.Machine.execRegRead r s
  | .regWrite r => Sys2Proof.Machine.execRegWrite r s
  | .counters r => Sys2Proof.Machine.execCounters r s
  | .telemetry r => Sys2Proof.Machine.execTelemetry r s
  | .ping r => Sys2Proof.Machine.execPing r s
  | .fwBegin r => Sys2Proof.Machine.execFwBegin r s
  | .fwChunk r => Sys2Proof.Machine.execFwChunk r s
  | .fwVerify r => Sys2Proof.Machine.execFwVerify r s
  | .fwActivate r => Sys2Proof.Machine.execFwActivate r s
  | .fwStatus r => Sys2Proof.Machine.execFwStatus r s
  | .linkBootReq r => Sys2Proof.Machine.execLinkBootReq r s
  | .bootChunk r => Sys2Proof.Machine.execBootChunk r s
  | .bootGo r => Sys2Proof.Machine.execBootGo r s
  | .warningCompose svc => Sys2Proof.Machine.execWarningCompose svc s
  | .doorSample d level => Sys2Proof.Machine.execDoorSample d level s
  | .settleExpiry d => Sys2Proof.Machine.execSettleExpiry d s
  | .doorMaxExpiry d => Sys2Proof.Machine.execDoorMaxExpiry d s
  | .countPublish d => Sys2Proof.Machine.execCountPublish d s
  | .commitVerifyDone plan ok => Sys2Proof.Machine.execCommitVerifyDone plan ok s
  | .prepared b => Sys2Proof.Machine.execPrepared b s
  | .order b => Sys2Proof.Machine.execOrder b s
  | .ordered b => Sys2Proof.Machine.execOrdered b s
  | .go b => Sys2Proof.Machine.execGo b s
  | .commitAbort b => Sys2Proof.Machine.execCommitAbort b s
  | .reservationLapse h => Sys2Proof.Machine.execReservationLapse h s
  | .heartbeatSend p => Sys2Proof.Machine.execHeartbeatSend p s
  | .safHbTx3Write v => Sys2Proof.Machine.execSafHbTx3Write v s
  | .heartbeat p data => Sys2Proof.Machine.execHeartbeat p data s
  | .silent p => Sys2Proof.Machine.execSilent p s
  | .silentPortReenable p => Sys2Proof.Machine.execSilentPortReenable p s
  | .linkReport b => Sys2Proof.Machine.execLinkReport b s
  | .partialReportTimeout node => Sys2Proof.Machine.execPartialReportTimeout node s
  | .selfLost b => Sys2Proof.Machine.execSelfLost b s
  | .selfLossReset => Sys2Proof.Machine.execSelfLossReset s
  | .poleBeatSend => Sys2Proof.Machine.execPoleBeatSend s
  | .poleBeat b => Sys2Proof.Machine.execPoleBeat b s
  | .poleLossDetect => Sys2Proof.Machine.execPoleLossDetect s
  | .poleClaimSend => Sys2Proof.Machine.execPoleClaimSend s
  | .poleClaim b => Sys2Proof.Machine.execPoleClaim b s
  | .claimAck b => Sys2Proof.Machine.execClaimAck b s
  | .claimWindowEnd => Sys2Proof.Machine.execClaimWindowEnd s
  | .noPoleTimeout => Sys2Proof.Machine.execNoPoleTimeout s
  | .membership b => Sys2Proof.Machine.execMembership b s
  | .epochFail b => Sys2Proof.Machine.execEpochFail b s
  | .sectionReloadDone plan => Sys2Proof.Machine.execSectionReloadDone plan s
  | .joinSeen b quote => Sys2Proof.Machine.execJoinSeen b quote s
  | .autoReadmit model => Sys2Proof.Machine.execAutoReadmit model s
  | .owPermitWrite key => Sys2Proof.Machine.execOwPermitWrite key s
  | .owStop => Sys2Proof.Machine.execOwStop s
  | .permitLapse => Sys2Proof.Machine.execPermitLapse s
  | .owGeneratorStart => Sys2Proof.Machine.execOwGeneratorStart s
  | .owReadbackMismatch a b => Sys2Proof.Machine.execOwReadbackMismatch a b s
  | .permitCheck => Sys2Proof.Machine.execPermitCheck s
  | .safetyEventTake => Sys2Proof.Machine.execSafetyEventTake s
  | .wdtService key => Sys2Proof.Machine.execWdtService key s
  | .watchdogTimeout => Sys2Proof.Machine.execWatchdogTimeout s
  | .voltageFault r mv => Sys2Proof.Machine.execVoltageFault r mv s
  | .temperatureFault sn t => Sys2Proof.Machine.execTemperatureFault sn t s
  | .selfTestSetRun c a st pass => Sys2Proof.Machine.execSelfTestSetRun c a st pass s
  | .selfTestForce c a st pass => Sys2Proof.Machine.execSelfTestForce c a st pass s
  | .selfTestOverdue c a st => Sys2Proof.Machine.execSelfTestOverdue c a st s
  | .measExtend v => Sys2Proof.Machine.execMeasExtend v s
  | .measExtendDone => Sys2Proof.Machine.execMeasExtendDone s
  | .romlock v => Sys2Proof.Machine.execRomlock v s
  | .fwConfirm => Sys2Proof.Machine.execFwConfirm s
  | .trialTimeout => Sys2Proof.Machine.execTrialTimeout s
  | .calTempTrigger => Sys2Proof.Machine.execCalTempTrigger s
  | .calRunWrite => Sys2Proof.Machine.execCalRunWrite s
  | .calHoldEnd => Sys2Proof.Machine.execCalHoldEnd s
  | .calTaskStep task port lane what n window => Sys2Proof.Machine.execCalTaskStep task port lane what n window s
  | .calForce task port => Sys2Proof.Machine.execCalForce task port s
  | .trimRecordWrite => Sys2Proof.Machine.execTrimRecordWrite s
  | .powerOnReset => Sys2Proof.Machine.execPowerOnReset s
  | .brownoutReset => Sys2Proof.Machine.execBrownoutReset s
  | .resetN => Sys2Proof.Machine.execResetN s
  | .watchdogReset origin reason => Sys2Proof.Machine.execWatchdogReset origin reason s
  | .resetRelease straps => Sys2Proof.Machine.execResetRelease straps s
  | .crystalRestartRetry => Sys2Proof.Machine.execCrystalRestartRetry s
  | .pwrCoreRst v => Sys2Proof.Machine.execPwrCoreRst v s
  | .coreResetDone c => Sys2Proof.Machine.execCoreResetDone c s
  | .parkReqDebounce level => Sys2Proof.Machine.execParkReqDebounce level s
  | .parkExitPrepare => Sys2Proof.Machine.execParkExitPrepare s
  | .governorEstimate mw => Sys2Proof.Machine.execGovernorEstimate mw s
  | .governorStep => Sys2Proof.Machine.execGovernorStep s
  | .governorLimit => Sys2Proof.Machine.execGovernorLimit s
  | .registerWrite ag a v => Sys2Proof.Machine.execRegisterWrite ag a v s
  | .pairLoRead a => Sys2Proof.Machine.execPairLoRead a s
  | .ethEn e v => Sys2Proof.Machine.execEthEn e v s
  | .ethLinkChange e up => Sys2Proof.Machine.execEthLinkChange e up s
  | .ethFrameReceive e data fcsOk => Sys2Proof.Machine.execEthFrameReceive e data fcsOk s
  | .arpRequest e data => Sys2Proof.Machine.execArpRequest e data s
  | .arpRetry e ip => Sys2Proof.Machine.execArpRetry e ip s
  | .arpEntryExpiry e ip => Sys2Proof.Machine.execArpEntryExpiry e ip s
  | .icmpEcho e data => Sys2Proof.Machine.execIcmpEcho e data s
  | .igmpQuery e => Sys2Proof.Machine.execIgmpQuery e s
  | .reassemblyTimeout e id => Sys2Proof.Machine.execReassemblyTimeout e id s
  | .mdioGo v => Sys2Proof.Machine.execMdioGo v s
  | .mdioDone driven rd => Sys2Proof.Machine.execMdioDone driven rd s
  | .qspiGo v => Sys2Proof.Machine.execQspiGo v s
  | .qspiDone data => Sys2Proof.Machine.execQspiDone data s
  | .i2c4Go v => Sys2Proof.Machine.execI2c4Go v s
  | .i2c4Done nack stuck data => Sys2Proof.Machine.execI2c4Done nack stuck data s
  | .uartTxWrite u b => Sys2Proof.Machine.execUartTxWrite u b s
  | .uartRxRead u => Sys2Proof.Machine.execUartRxRead u s
  | .uartByteReceived u b frameErr parErr => Sys2Proof.Machine.execUartByteReceived u b frameErr parErr s
  | .gpioEdge pin rise => Sys2Proof.Machine.execGpioEdge pin rise s
  | .doorEdge pin rise => Sys2Proof.Machine.execDoorEdge pin rise s
  | .tapReset => Sys2Proof.Machine.execTapReset s
  | .extest => Sys2Proof.Machine.execExtest s
  | .idcode => Sys2Proof.Machine.execIdcode s
  | .samplePreload cells => Sys2Proof.Machine.execSamplePreload cells s
  | .clamp => Sys2Proof.Machine.execClamp s
  | .highz => Sys2Proof.Machine.execHighz s
  | .bypass => Sys2Proof.Machine.execBypass s
  | .debugInstruction code => Sys2Proof.Machine.execDebugInstruction code s
  | .loneChipFinding => Sys2Proof.Machine.execLoneChipFinding s
  | .receiverAdaptationDone p preset => Sys2Proof.Machine.execReceiverAdaptationDone p preset s
  | .tensorOperandFault c st code => Sys2Proof.Machine.execTensorOperandFault c st code s
  | .dphyLaneStateChange p rx => Sys2Proof.Machine.execDphyLaneStateChange p rx s
  | .ethFrameTransmitted e => Sys2Proof.Machine.execEthFrameTransmitted e s
  | .uartByteSent u => Sys2Proof.Machine.execUartByteSent u s
  | .nonceLapse => Sys2Proof.Machine.execNonceLapse s

end Sys2Proof.Machine
end

