-- ==== Sys2Proof/Machine/Tick.lean ====
section
/-! DEFINITION. Tick: one cycle of the control clock, in which everything that runs by itself goes on (log entry 3). -/

namespace Sys2Proof.Machine

/-- Tiles of the tensor operations of a core drain as they run (R216, R246): how many in this cycle is a free value, and the last tile is
left to the completion. An operation that cannot go on is left to the fault that it raises. What
the wide ports met counts while an operation is in flight (R161, R163). -/
def State.tensorTick (s : State) (c : Nat) : State :=
  (s.core c).seq.tensor.foldl (fun s r =>
    if r.test || s.tensorStop c r then s
    else
      let n := min (Config.freeValue s.free) ((tdescOf r.words).tiles - 1 - r.tiles)
      match { s with free := s.free + 1 }.runTiles c r n with
      | (u, buf, false) =>
        u.onSeq c (fun q => { q with tensor := q.tensor.map (fun x => if x = r then { x with tiles := r.tiles + n, buf := buf } else x) })
      | (_, _, true) => s) (if (s.core c).seq.tensor.isEmpty then s else s.wideLedger c)

/-- PARK entry that a tenant clear or a calibration run has held up (R180, R679, R700). -/
def State.parkTick (s : State) : State :=
  if s.pwr.parkHeld && !s.clearBusy then s.parkEnter
  else if s.pwr.parkCal && s.get fCalBusy = 0 then s.parkDown
  else s

/-- The pole watches the line that the record names as PARK_REQ: its own at every cycle, another chip's by a READ of `PER_GPIO_IN` every
100 ms (R518). -/
def State.parkWatch (s : State) : State :=
  if s.isPole && bit (s.cfgField 183 1) 0 then
    if s.cfgField 184 1 = s.node then s.parkSample (bit s.per.gpioIn (s.cfgField 185 1 % 16))
    else if s.pwr.parkReadAt + 100 * ms ≤ s.now then
      (s.onPwr (fun q => { q with parkReadAt := s.now })).issue
        { dst := s.cfgField 184 1 % 64, kind := 2, nbytes := 2, issuer := 13, ten := 7, addr := 0x27003008, data := leBytes 2 4 } .parkRead
    else s
  else if s.pwr.parkSince.isSome then s.onPwr (fun q => { q with parkSince := none })
  else s

/-- One CTRL_CLK cycle: constellation time advances, and the link ports, the palettes, the tensor units and the DMA engines go on with
what they do (R62, R82, R122, R166, R196), the alive counters rise (R619), and OW_VALID stops where it may run no longer (R612). During a chip reset only the model's own count of time goes on. -/
def State.tick (s : State) : State :=
  if s.pwr.inReset.isSome then { s with now := s.now + 24 }
  else
    let s := ((List.range 6).foldl State.portTick s.later).rereadAll
    ((List.range 8).foldl (fun s c => (s.tensorTick c).sfuTick c) s).dmaTick.parkTick.parkWatch.pairTick.aliveTick.owTick

end Sys2Proof.Machine
end

