-- ==== Sys2Proof/Machine/Step.lean ====
section
/-! DEFINITION. Step: one step of the chip, and the command that a word of the table puts first. -/

namespace Sys2Proof.Machine

/-- One step: the command at the front of the queue, or a tick of the control clock when the queue is empty
(DESIGN CHOICE, log entry 3). -/
def step (s : State) : Host.Outcome State Fault Refusal :=
  match s.pending with
  | [] => .next s.tick
  | i :: rest => exec i { s with pending := rest }

/-- The state with the command that a word spells at the front of its queue; unchanged where the word spells none. -/
def State.withFetchWord (s : State) (nbits w : Nat) : State :=
  match decodeTableWord nbits w with
  | none => s
  | some i => { s with pending := i :: s.pending }

end Sys2Proof.Machine
end

