-- ==== Sys2Proof/Safety.lean ====
section
/-! DEFINITION. Safety: what claims about the chip are stated in. -/

namespace Sys2Proof.Machine

/-- Outside a chip reset: commands act (R720). -/
def State.running (s : State) : Prop := s.pwr.inReset = none

/-- Nothing that a cycle of the control clock carries on is in progress: no frame on its way out, no near-end loopback, no re-read after a
parity error, no tensor operation, table load, DMA packet, note or packet at the injection stage, no PARK entry held up, and no line of PARK_REQ
watched. -/
def State.quiet (s : State) : Prop :=
  (∀ p < 6, (s.port p).building = none ∧ s.get (fLnkTest p) ≠ 2) ∧ s.mem.reread = [] ∧ s.mem.flips = [] ∧
    (∀ c < 8, (s.core c).seq.tensor = [] ∧ (s.core c).sfu.loading = none ∧ (s.core c).dma.notes = [] ∧ (s.core c).dma.land = [] ∧ ∀ ch < 8, (s.chan c ch).part = none) ∧
    s.fab.inject = [] ∧ s.pwr.parkHeld = false ∧ s.pwr.parkCal = false ∧ s.mem.ecc = [] ∧ s.saf.running = false ∧
    (s.isPole = false ∨ bit (s.cfgField 183 1) 0 = false) ∧ s.pwr.parkSince = none ∧
    (s.firmwareUp = true → (s.now + 24) / ms = s.now / ms)

/-- The block behind a bit of `CLK_GATE` is clocked, and, where it is a core, that core is not in PARK (R121, R701). -/
def State.gateOpen (s : State) (g : Nat) : Prop :=
  s.running ∧ bit (s.reg 0x23000008).toNat g = true ∧ (g < 8 → (s.reg 0x23002018).toNat % 4 ≠ 2)

/-- The safety core pair runs: the ROM has released it, and no mismatch has stopped it (R472, R475). -/
def State.pairRuns (s : State) : Prop := s.running ∧ s.firmwareUp = true ∧ s.ctl.stopped = false

/-- A command completes: the chip answers a next state, of which `P` holds. -/
def Completes (i : Instr) (s : State) (P : State → Prop) : Prop := ∃ t, exec i s = .next t ∧ P t

/-- A command of the mailbox protocol is taken in its turn, which leaves `u`, and no check that all commands share refuses it (R505,
R508, R511). -/
def State.served (s : State) (r : Req) (u : State) : Prop := s.running ∧ s.takeReq r = some u ∧ u.gate r = none

/-- A command completes and is answered with a status and result bytes, in a state of which `P` holds (R499). -/
def Answers (i : Instr) (s : State) (r : Req) (st : Nat) (data : List Byte) (P : State → Prop) : Prop :=
  ∃ v, exec i s = .next (v.respond r st data) ∧ P v

/-- The sequencer of a core is ready to issue its next step, which it reads without a fault or a parity error as words `ws` of
type `ty` that set no reserved field (R217 to R219). -/
def State.nextStep (s : State) (c ty : Nat) (ws : List Nat) : Prop :=
  s.issuing c = true ∧ s.get (fSeqPc c) < (s.reg (seqReg c 0x10)).toNat ∧
    (s.palCheck (s.coreWho c) false false c (s.stepAddr c (s.get (fSeqPc c))) 64).2 = 0 ∧
    (s.palRead c (s.stepAddr c (s.get (fSeqPc c))) 64 5 0 0).2.2 = false ∧
    ws = s.stepWords c (s.get (fSeqPc c)) ∧ word ws 0 % 256 = ty ∧ 1 ≤ ty ∧ ty ≤ 10 ∧ (4 ≤ ty → stepBad ty ws = false)

/-- The group in a slot is not held and serves, at `x`, an instruction with opcode `op` that it finds in the instruction cache or fetches
with its row without a fault or a parity error, that is well formed and that its launch's mode allows; no register that it reads has
wrong parity (R306, R308, R320, R331, R334). -/
def State.serves (s : State) (c slot op : Nat) (x : TgAt) : Prop :=
  ∃ (g : Group) (l : Launch) (mask pc : Nat),
    s.group c slot = some g ∧ s.launch c g.launch = some l ∧ g.hold = 0 ∧ g.serve l.indep = some (mask, pc) ∧ l.holds pc = true ∧
    ((s.icacheHit c pc).isSome = true ∨
      (s.palCheck (s.coreWho c) false false c (pc / 64 * 64) 64).2 = 0 ∧ (s.palRead c (pc / 64 * 64) 64 6 0 0).2.2 = false) ∧
    x = { c := c, slot := slot, l := l, mask := mask, pc := pc, w := s.insAt c pc,
          g := { g with active := mask, last := if l.indep then (lowLane mask).getD 0 else g.last, run := g.run + 1 },
          exec := mask &&& guardMask g.p (s.insAt c pc) } ∧
    iOp x.w = op ∧ isOpcode op = true ∧ malformedIns l.vregs x.w = false ∧ modeBad l op = false ∧ s.badLane x = none ∧ x.upBadLane = none

/-- After an instruction its slot holds `g` and every other slot of the core what it held; one instruction more has issued. -/
def State.tgStep (s t : State) (x : TgAt) (g : Option Group) : Prop :=
  t.group x.c x.slot = g ∧ (∀ h, h ≠ x.slot → t.group x.c h = s.group x.c h) ∧
    (t.reg (tgReg x.c 0x14)).toNat = min 0xFFFFFFFF ((s.reg (tgReg x.c 0x14)).toNat + 1)

/-- Register `r` of every executing lane holds the lane's result, and every other word of the register files what it held (R327). -/
def State.laneWrites (s t : State) (x : TgAt) (r : Nat) (f : Nat → Word) : Prop :=
  (∀ k < 32, bit x.exec k = true → tblGet wordZero t.mem.rf (rfKey x.c (x.g.vbase.getD r 0) k) = f k) ∧
    ∀ key, (∀ k < 32, bit x.exec k = true → key ≠ rfKey x.c (x.g.vbase.getD r 0) k) → tblGet wordZero t.mem.rf key = tblGet wordZero s.mem.rf key

/-- The palette and the local stores are as they were. -/
def State.sameMemory (s t : State) : Prop := t.mem.pal = s.mem.pal ∧ t.mem.near = s.mem.near ∧ t.mem.acc = s.mem.acc ∧ t.mem.sram = s.mem.sram

/-- A context has been killed with a code of a unit at a step (R216). -/
def State.killed (t : State) (c unit code step : Nat) : Prop :=
  t.get (fSeqState c) = 5 ∧ t.reg (seqReg c 0x50) = BitVec.ofNat 32 (code % 256 + 256 * unit + 65536 * (step % 65536)) ∧
    (t.reg (aSeqEvt c)).getLsbD 0 = true

/-- No two enabled regions of a core share an address or a row of a bank, and bank pairs are shared only by one owner (R157). -/
def State.regionsApart (s : State) (c : Nat) : Prop :=
  ∀ r q : Fin 8, r ≠ q → (s.rgn c r).en = true → (s.rgn c q).en = true →
    (∀ a, ¬ ((s.rgn c r).holds a = true ∧ (s.rgn c q).holds a = true)) ∧
    ((s.rgn c r).sharesPair (s.rgn c q) = true → (s.rgn c r).tenant = (s.rgn c q).tenant ∧
      ∀ row, ¬ ((s.rgn c r).rowBase ≤ row ∧ row < (s.rgn c r).rowBase + (s.rgn c r).rows ∧
        (s.rgn c q).rowBase ≤ row ∧ row < (s.rgn c q).rowBase + (s.rgn c q).rows))

/-- Registers of the fabric, route, clock, calibration, power, security, mailbox and peripheral windows whose writes do nothing but what
the access codes of their fields say. -/
def plainRegister (a : Nat) : Bool :=
  (within a 0x21008000 0x21009FFF || within a 0x23000000 0x23002FFF || within a 0x25000000 0x25000FFF || within a 0x26000000 0x26000FFF ||
    within a 0x27000000 0x2700FFFF) &&
  !([aGate, 0x23000028, 0x23001000, 0x23002010, 0x23002024, 0x25000330, 0x27000004, 0x27001004, 0x27002004, 0x27002104, 0x27003000,
    0x27003004].contains a) &&
  !(within a 0x26000000 0x260003FF && (a % 0x100 = 0 || a % 0x100 = 8))

/-- An agent of `REGISTER_WRITE` (0 the safety core pair, 1 a service core, 2 the fabric with TEN 7, 3 the SPI target) does not reach a
register with a write (Table 25-4). -/
def beyondReach (ag a : Nat) : Prop :=
  let monitors := within a 0x24000000 0x24000FFF = true ∨ within a 0x24002000 0x24002FFF = true
  if ag = 0 then ¬ monitors
  else if ag = 1 then monitors
  else if ag = 2 then within a 0x24000000 0x24002FFF = true ∨ within a 0x25000000 0x25000FFF = true
  else ¬ within a 0x26000000 0x260000FF = true

/-- Commands that act on a chip in reset: those of the always-on domain and of the test access port, and edges at its pins. -/
def actsInReset : Instr → Bool
  | .powerOnReset | .brownoutReset | .resetN | .watchdogReset _ _ | .resetRelease _ | .crystalRestartRetry | .gpioEdge _ _ | .doorEdge _ _
  | .tapReset | .extest | .idcode | .samplePreload _ | .clamp | .highz | .bypass | .debugInstruction _ => true
  | _ => false

/-- A core of the chip has been cleared: its accumulator, register file and near memory are zero (R252, R325). -/
def State.scratchZero (t : State) (c : Nat) : Prop :=
  (∀ k, 65536 * c ≤ k → k < 65536 * (c + 1) → tblGet wordZero t.mem.acc k = 0#32 ∧ tblGet wordZero t.mem.rf k = 0#32) ∧
    ∀ k, 131072 * c ≤ k → k < 131072 * (c + 1) → tblGet t.mem.nearByte t.mem.near k = 0#8

end Sys2Proof.Machine
end

