-- ==== Sys2Proof/Certificates/Slice0/Obligations.lean ====
section
/-! DEFINITION. Obligations: the statements for the provers. -/

open Sys2Proof Sys2Proof.Machine

/-- A step takes the command at the front of the queue and runs it with the rest of the queue. -/
def Obligations.StepRunsFront : Prop :=
  ∀ (c : Instr) (rest : List Instr) (s : State), s.pending = c :: rest → step s = exec c { s with pending := rest }

/-- Every command of the table completes in every state, but a Kereifold debug instruction under a debug unlock, which the spec
gives no effect (R759). -/
def Obligations.OnlyDebugInstructionsStop : Prop :=
  ∀ (i : Instr) (s : State), (∃ t, exec i s = .next t) ∨
    ∃ code : Fin 256, i = .debugInstruction code ∧ 0x80 ≤ code.val ∧ code.val ≤ 0xFE ∧ bits (s.reg aDbg).toNat 1 2 ≠ 0 ∧
      exec i s = .fault .debugInstruction

/-- The model's choice of log entry 3: on an empty queue the chip takes one cycle of the control clock, 24 cycles of the root
clock, and CT advances by INC, except in a chip reset; where nothing else is in progress that is all. At reset nothing waits or is in
progress, the registers stand at their Reset column and no memory lists anything (R12, R727). -/
def Obligations.TicksAndReset : Prop :=
  (∀ s : State, s.pending = [] →
    (s.running → s.quiet → step s = .next { s with now := s.now + 24, tim := { s.tim with ct := s.tim.ct + s.inc } }) ∧
    (s.pwr.inReset.isSome = true → step s = .next { s with now := s.now + 24 })) ∧
  State.reset.running ∧ State.reset.quiet ∧ State.reset.pending = [] ∧ State.reset.mem = {} ∧ (∀ a, State.reset.reg a = regReset a) ∧
    regReset 0x2700F000 = 0x00A17240#32 ∧ regReset 0x10F00000 = 0x00300000#32 ∧ regReset 0x23000018 = 0x80000000#32

/-- Table 2-5: the dwell of DOWN ends in DETECT with the lanes reset; DETECT, ALIGN, EQUALIZE and RETRAIN end in DOWN, with their
causes, when their time has passed and the exit of phase READY does not hold (R56). R53: in ALIGN, LANE_ID 1 on lane 0 and 0 on
lane 1 set REVERSED; the same LANE_ID on both lanes takes the port to DOWN with cause 9. Training: a lane's lock is shown (R57); a
TRAIN block decides a lane's polarity in ALIGN (R52), leads from ACTIVE to RETRAIN when it is no READY block (R58), and from
RETRAIN to DOWN with cause 10 when it comes from another partner (Table 2-5); adaptation is told (Table 2-4); a lane that loses
its lock in ACTIVE leads to RETRAIN (R57); pairs are sent and compensated (R51). Tables 2-13 and 2-14, R82, R85: what a write of
each field of `LNK_P_n_CTL` does, and what the PRBS31 checkers show. -/
def Obligations.LinkStateMachine : Prop :=
  (∀ (p : Fin 6) (s : State), s.running →
    (s.get (fLnkState p) = 0 → s.get (fLnkEn p) = 1 → s.get (fLnkTest p) = 0 → (s.port p).since + ms ≤ s.now →
      Completes (.linkDownDwellEnd p) s (fun t => t.get (fLnkState p) = 1 ∧ t.get (fLock p 0) = 0 ∧ t.get (fLock p 1) = 0 ∧
        (t.port p).since = s.now ∧ (t.port p).elastic = 0)) ∧
    (∀ (c : Instr) (st limit cause : Nat),
      (c, st, limit, cause) ∈ ([(.detectTimeout p, 1, 20 * ms, 3), (.alignTimeout p, 2, 2 * ms, 4), (.equalizeTimeout p, 3, 50 * ms, 5),
        (.retrainTimeout p, 5, 500 * us, 6)] : List (Instr × Nat × Nat × Nat)) →
      s.get (fLnkState p) = st → (s.port p).since + limit ≤ s.now →
      ((s.port p).phase ≠ 4 ∨ (s.port p).credSeen ≠ 255 ∨ (s.port p).readyRun < 8) →
      Completes c s (fun t => t.get (fLnkState p) = 0 ∧ t.get (fLnkCause p) = cause ∧ t.get (fHeld p) = 0))) ∧
  (∀ (p : Fin 6) (b0 b1 : Body) (skew : Nat) (s : State), s.running → s.get (fLnkState p) = 2 →
    Completes (.alignPair p b0 b1 skew) s (fun t =>
      if b0.toNat % 2 = b1.toNat % 2 then t.get (fLnkState p) = 0 ∧ t.get (fLnkCause p) = 9
      else t.get (fReversed p) = b0.toNat % 2 ∧ t.get (fLnkState p) ≠ 0)) ∧
  (∀ (p : Fin 6) (l : Fin 2) (s : State), s.running →
    (s.get (fLnkTest p) = 0 → Completes (.blockLock p l) s (fun t => t.get (fLock p l) = 1)) ∧
    (∀ (inv : Bool) (body : Body),
      (s.get (fLnkState p) = 2 → bit (s.port p).polSeen l = false →
        Completes (.trainBlock p l inv body) s (fun t => t.get (fPolInv p l) = b2n inv ∧ t.get (fLanePol p l) = b2n inv)) ∧
      (s.get (fLnkState p) = 4 → body.toNat % 16 ≠ 4 → Completes (.trainBlock p l inv body) s (fun t => t.get (fLnkState p) = 5)) ∧
      (s.get (fLnkState p) = 5 → s.get (fPeerNode p) ≠ bits body.toNat 8 6 →
        Completes (.trainBlock p l inv body) s (fun t => t.get (fLnkState p) = 0 ∧ t.get (fLnkCause p) = 10))) ∧
    (∀ preset : Fin 8, s.get (fLnkState p) = 3 → (s.port p).phase = 3 →
      exec (.receiverAdaptationDone p preset) s = .next ((s.fill p).onPort p (fun q => { q with eqDone := true, presetReq := preset }))) ∧
    (∀ bad : Nat, s.get (fLnkTest p) = 0 → s.get (fLnkState p) = 4 → 16 ≤ bad →
      Completes (.lossOfLock p l bad) s (fun t => t.get (fLnkState p) = 5 ∧ t.get (fLock p l) = 0 ∧
        t.get (fInvalid p l) = min 0xFFFF (s.get (fInvalid p l) + bad))) ∧
    (∀ fill : Int, s.get (fLnkState p) = 4 → -4 ≤ fill → fill ≤ 4 →
      exec (.skipPair p fill) s = .next (s.onPort p (fun q =>
        { (q.hear 0 (ctlBlock tySkip 0#56).payload).hear 1 (ctlBlock tySkip 0#56).payload with elastic := fill - fill.sign }))) ∧
    (s.get (fLnkState p) = 4 → s.linkOff = false → (s.port p).alignDone < s.periods p / 16384 →
      Completes (.laneLevelPairDue p) s (fun t => t.out.head? = some (.lanePair p 0x2D ((s.port p).alignSent % 256)) ∧
        (t.port p).alignSent = (s.port p).alignSent + 1 ∧ t.regs = s.regs))) ∧
  (∀ (p : Fin 6) (l : Fin 2) (s : State), s.running →
    (s.get (fLnkState p) ≠ 0 → Completes (.lnkEn p false) s (fun t =>
      t.get (fLnkEn p) = 0 ∧ t.get (fLnkState p) = 0 ∧ t.get (fLnkCause p) = 1)) ∧
    exec (.lnkEn p true) s = .next (s.set (fLnkEn p) 1) ∧
    Completes (.lnkRst p) s (fun t => t.get (fLnkState p) = 0 ∧ t.get (fLnkCause p) = (if s.get (fLnkTest p) = 0 then 2 else 11) ∧
      t.reg (aLnkEvt p) = 0#32 ∧ t.reg (lnkBase p + 8) = 0#32 ∧ t.reg (lnkBase p + 0x10) = 0#32 ∧ t.reg (lnkBase p + 0x14) = 0#32 ∧
      t.reg (lnkBase p + 0x18) = 0#32 ∧ t.get (fHeld p) = 0 ∧ t.get (fLnkEn p) = s.get (fLnkEn p) ∧ t.get (fLnkTest p) = s.get (fLnkTest p)) ∧
    (s.get (fLnkState p) = 4 → Completes (.lnkRetrain p) s (fun t => t.get (fLnkState p) = 5 ∧ (s.port p).held <+: (t.port p).held ∧
      ((s.port p).building = none → (t.port p).held = (s.port p).held))) ∧
    (s.get (fLnkState p) ≠ 4 → exec (.lnkRetrain p) s = .next s) ∧
    exec (.injCrc p) s = .next (s.onPort p (fun q => { q with injCrc := true })) ∧
    (∀ v : Fin 4, v.val ≠ 0 → s.get (fLnkTest p) = 0 → Completes (.lnkTest p v) s (fun t =>
      t.get (fLnkTest p) = v.val ∧ t.get (fLnkState p) = 0 ∧ t.get (fLnkCause p) = 11 ∧ t.reg (aPrbsErr p l) = 0#32 ∧
      t.get (fPrbsSync p l) = 0 ∧ t.get (fPrbsInv p l) = 0)) ∧
    (∀ inv : Bool,
      (s.get (fLnkTest p) = 1 → s.get (fPrbsSync p l) = 0 →
        Completes (.prbsSync p l inv) s (fun t => t.get (fPrbsSync p l) = 1 ∧ t.get (fPrbsInv p l) = b2n inv)) ∧
      ((s.get (fLnkTest p) ≠ 1 ∨ s.get (fPrbsSync p l) = 1) → exec (.prbsSync p l inv) s = .next s)) ∧
    (∀ wrong : List Bool, (s.get (fLnkTest p) = 1 ∨ s.get (fLnkTest p) = 2) → ((s.port p).lane l).check.sync = true →
      ((s.port p).lane l).check.recent = [] → wrong.length ≤ 64 →
      Completes (.prbsSyncLoss p l wrong) s (fun t => t.get (fPrbsSync p l) = (if 32 ≤ wrong.count true then 0 else 1) ∧
        (t.reg (aPrbsErr p l)).toNat = min 0xFFFFFFFF ((s.reg (aPrbsErr p l)).toNat + min 32 (wrong.count true)))))

/-- R65, R58, Table 2-5: an ACTIVE port hands the valid flits of a good frame with the expected SEQ to their VC buffers and
expects the next SEQ; an IDLE or NOTICE block counts; RETRAIN_REQ leads to RETRAIN and GOING_DOWN to DOWN with cause 8; a bad
short frame is counted and raises no NAK (R66); a good one frees the frames that it acknowledges and brings credits (R67, R69, R77). R79: a credit report that has more flits freed than were sent is a protocol error
and leads to RETRAIN. R63: the CRC-24 tells apart any two byte strings of one length that differ in an odd number of bits. -/
def Obligations.LinkReceives : Prop :=
  (∀ (p : Fin 6) (s : State), s.running → s.get (fLnkState p) = 4 →
    (∀ f : Frame,
      let g := ((s.port p).unscrambled true f).read false
      frameGood g = true → bit g.flitV 0 = true → g.seq = (s.port p).expSeq → g.ackV = false → g.nak = false → (s.port p).vcBuf.length = 8 →
      (∀ v : Fin 8, ((s.port p).got.getD v 0 + 256 - (s.port p).freedTotal.getD v 0) % 256 + 4 ≤ bufferOf v) →
      Completes (.fullFrame p f) s (fun t => (t.port p).expSeq = (g.seq + 1) % 256 ∧ (t.port p).accV = true ∧
        (t.port p).nakPending = false ∧
        ∀ v : Fin 8, (t.port p).vcBuf.getD v [] = (s.port p).vcBuf.getD v [] ++
          ((List.range 4).filter (fun i => bit g.flitV i && decide (g.vcs.getD i 0 % 8 = v.val))).map (fun i => g.slots.getD i 0#256))) ∧
    (∀ f : Frame, frameGood (((s.port p).unscrambled true f).read true) = false →
      (((s.port p).unscrambled true f).headless && decide (f.blocks.length = 1)) = false →
      Completes (.shortFrame p f) s (fun t =>
        (t.reg (lnkBase p + 0x10)).toNat = min 0xFFFFFFFF ((s.reg (lnkBase p + 0x10)).toNat + 1) ∧
        (t.port p).nakPending = (s.port p).nakPending ∧ t.reg (aLnkEvt p) = s.reg (aLnkEvt p))) ∧
    (∀ f : Frame,
      let g := ((s.port p).unscrambled true f).read true
      frameGood g = true → g.nak = false →
      ((s.port p).sent.getD (g.crVc % 8) 0 + 256 - g.crTotal % 256) % 256 ≤ s.get (fAdv p (g.crVc % 8)) →
      (g.ackV = false → Completes (.shortFrame p f) s (fun t => (t.port p).crTotal = (s.port p).crTotal.set (g.crVc % 8) (g.crTotal % 256) ∧
        (t.port p).held = (s.port p).held ∧ t.get (fLnkState p) = 4 ∧ t.reg (aLnkEvt p) = s.reg (aLnkEvt p) ∧
        ((s.port p).crTotal.length = 8 → t.get (fAvail p (g.crVc % 8)) =
          s.get (fAdv p (g.crVc % 8)) - ((s.port p).sent.getD (g.crVc % 8) 0 + 256 - g.crTotal % 256) % 256))) ∧
      (∀ i, g.ackV = true → heldAt (s.port p) g.ack = some i → Completes (.shortFrame p f) s (fun t =>
        (t.port p).held = (s.port p).held.drop (i + 1) ∧ (t.port p).crTotal = (s.port p).crTotal.set (g.crVc % 8) (g.crTotal % 256) ∧
        t.get (fLnkState p) = 4 ∧ t.get (fHeld p) = ((s.port p).held.length - (i + 1)) % 128))) ∧
    (exec (.idle p) s = .next (s.gotBlocks p [(ctlBlock tyIdle 0#56).payload])) ∧
    Completes (.notice p 1) s (fun t => t.get (fLnkState p) = 5) ∧
    Completes (.notice p 2) s (fun t => t.get (fLnkState p) = 0 ∧ t.get (fLnkCause p) = 8)) ∧
  (∀ (p : Fin 6) (f : Frame) (s : State), s.running → s.get (fLnkState p) = 4 →
    let g := ((s.port p).unscrambled true f).read true
    frameGood g = true → g.ackV = false → g.nak = false →
    s.get (fAdv p (g.crVc % 8)) < ((s.port p).sent.getD (g.crVc % 8) 0 + 256 - g.crTotal % 256) % 256 →
    Completes (.shortFrame p f) s (fun t => t.get (fLnkState p) = 5 ∧ (t.reg (aLnkEvt p)).getLsbD 4 = true ∧
      (t.port p).crTotal = (s.port p).crTotal)) ∧
  (∀ (xs ys : List Byte), xs.length = ys.length →
    ((xs.zip ys).map (fun b => ((List.range 8).filter (fun i => (b.1 ^^^ b.2).getLsbD i)).length)).sum % 2 = 1 → crc24 xs ≠ crc24 ys)

/-- R73, R70: the timer's expiry starts a replay of every held frame; the fifth start within 10 ms takes the port to DOWN with
cause 7, and no other start does. R62, R69, R77, R68: a frame starts, a resent one with SEQ, slots and tags unchanged; a new one takes
the next SEQ, its first slot bound, and is held once its trailer leaves; a report that waits leaves in a short frame with the next
SEQ. -/
def Obligations.LinkSends : Prop :=
  (∀ (p : Fin 6) (s : State), s.running → s.get (fLnkState p) = 4 → (s.port p).held ≠ [] → (s.port p).replay = none →
    (s.port p).timerFrom + us ≤ s.now →
    Completes (.replayTimerExpiry p) s (fun t =>
      let times := (s.now :: (s.port p).replayTimes).take 5
      if times.length = 5 ∧ s.now - times.getD 4 0 < 10 * ms then t.get (fLnkState p) = 0 ∧ t.get (fLnkCause p) = 7
      else t.get (fLnkState p) = 4 ∧ (t.port p).replay = some 0 ∧ (t.port p).held = (s.port p).held ∧ (t.port p).replayTimes = times)) ∧
  (∀ (p : Fin 6) (s : State), s.running → s.get (fLnkState p) = 4 → s.linkOff = false →
    (∀ (r : Nat) (f : Frame), (s.port p).building = none → (s.port p).replay = some r → (s.port p).held[r]? = some f →
      Completes (.frameSend p) s (fun t => ∃ b : Building, (t.port p).building = some b ∧ b.again = true ∧ b.next = 1 ∧ b.f.seq = f.seq ∧
        b.f.slots = f.slots ∧ b.f.vcs = f.vcs ∧ b.f.flitV = f.flitV ∧ (t.port p).replay = some (r + 1) ∧ (t.port p).held = (s.port p).held ∧
        (t.port p).sent = (s.port p).sent)) ∧
    ((s.port p).building = none → (s.port p).replay = none → (s.port p).held.length < 64 → (s.chooseVc p).isSome = true →
      Completes (.frameSend p) s (fun t => ∃ b : Building, (t.port p).building = some b ∧ b.again = false ∧ b.next = 1 ∧
        b.f.seq = (s.port p).nextSeq ∧ b.f.flitV = 1 ∧ b.f.slots.length = 1 ∧ (t.port p).held = (s.port p).held)) ∧
    (∀ b : Building, (s.port p).building = some b → 4 ≤ b.next → b.blockAt 17 ≤ s.now → s.pairsDue p (b.blockAt 17) = 0 → b.again = false →
      ((s.frameTick p).port p).building = none ∧ ((s.frameTick p).port p).held = (s.port p).held ++ [b.f] ∧
        ((s.frameTick p).port p).nextSeq = ((s.port p).nextSeq + 1) % 256 ∧ (s.frameTick p).out.head? = some (.frame p (b.f.sealed b.inj))) ∧
    ((s.port p).hasReport = true → (s.port p).building = none →
      Completes (.shortFrameSend p) s (fun t => ∃ g : Frame, t.out.head? = some (.frame p g) ∧ g.short = true ∧ g.seq = (s.port p).nextSeq ∧
        g.ack = (s.port p).accSeq ∧ g.ackV = (s.port p).accV ∧ g.nak = (s.port p).nakDue ∧ g.crc = frameCrc g ∧ t.regs = s.regs)))

/-- R88, Table 3-1: every well-formed packet whose LEN follows its payload is read back from its flits, each field at every value.
-/
def Obligations.PacketRoundTrip : Prop :=
  ∀ p : Packet, p.wf = true → p.len = lenOf p.nbytes → flitsPacket (packetFlits p) = p

/-- R89, R91, R103, R105: a packet is examined once its flits are in; a malformed one is discarded and counted without an answer,
a HOP packet is consumed, a stale one is discarded and counted, any other waits at the output that its route names. R104, R106, R107, R111, R115: what leaves an output, the TC0
shaper and sink, the switch of the route banks and the stall breaker. -/
def Obligations.RouterMovesPackets : Prop :=
  (∀ (p : Fin 6) (v : Fin 8) (s : State), s.running → ∀ (f : Flit) (fs : List Flit), (s.port p).vcBuf.getD v.val [] = f :: fs →
    let len : Nat := if v.val < 2 then 1 else max 1 (flitsPacket [f]).len
    let pk := flitsPacket ((f :: fs).take len)
    (fs.length + 1 < len → exec (.packetReceive p v) s = .next s) ∧
    (len ≤ fs.length + 1 → malformed pk = true → Completes (.packetReceive p v) s (fun t =>
      (t.port p).vcBuf = (s.port p).vcBuf.set v.val ((f :: fs).drop len) ∧ t.fab = s.fab ∧
      (t.reg 0x21008044).toNat = min 0xFFFFFFFF ((s.reg 0x21008044).toNat + 1) ∧ (t.reg aFabEvt).getLsbD 2 = true)) ∧
    (len ≤ fs.length + 1 → malformed pk = false → pk.kind = 10 → s.stale pk = false → bit s.loss.reach pk.src = true → Completes (.packetReceive p v) s (fun t =>
      (t.port p).vcBuf = (s.port p).vcBuf.set v.val ((f :: fs).drop len) ∧
      t.fab = { s.fab with hops := s.fab.hops ++ [(p.val, pk.data, (s.port p).hopAt.headD s.ctNs)] })) ∧
    (∀ out, len ≤ fs.length + 1 → malformed pk = false → pk.kind ≠ 10 → s.stale pk = false → pk.bcast = false → bit s.loss.reach pk.src = true →
      s.lookup pk = some out → out < 6 → Completes (.packetReceive p v) s (fun t =>
      (t.port p).vcBuf = (s.port p).vcBuf.set v.val ((f :: fs).drop len) ∧
      ∃ w : Waiting, t.fab.waiting = s.fab.waiting ++ [w] ∧ w.out = out ∧ w.inPort = p.val ∧ w.inVc = v.val ∧ w.at_ = s.now ∧
        w.entry = s.route pk.dst ∧ w.pk.dst = pk.dst ∧ w.pk.data = pk.data)) ∧
    (len ≤ fs.length + 1 → malformed pk = false → s.stale pk = true → Completes (.packetReceive p v) s (fun t =>
      (t.port p).vcBuf = (s.port p).vcBuf.set v.val ((f :: fs).drop len) ∧ t.fab = s.fab ∧
      (t.reg 0x21008048).toNat = min 0xFFFFFFFF ((s.reg 0x21008048).toNat + 1) ∧ (t.reg aFabEvt).getLsbD 3 = true))) ∧
  (∀ s : State, s.running →
    (∀ (v : Fin 8) (w : Waiting), oldest (s.fab.waiting.filter (fun x => x.out = 7 && x.vc = v.val)) = some w → w.pk.kind ≠ 9 →
      Completes (.packetForward 7 v) s (fun t => t.fab.delivered = s.fab.delivered ++ [w.pk] ∧ t.regs = s.regs ∧
        (w.pk.bcast = false → t.fab.waiting = s.fab.waiting.erase w) ∧ t.fab.waiting.length = (s.fab.waiting.erase w).length)) ∧
    (∀ (p : Fin 6) (out v : Fin 8) (w : Waiting), out.val = p.val → oldest (s.fab.waiting.filter (fun x => x.out = out.val && x.vc = v.val)) = some w →
      s.get (fLnkState p) = 4 → ((s.port p).sending.getD v.val {}).flits = [] → (s.port p).sending.length = 8 →
      Completes (.packetForward out v) s (fun t => (t.port p).sending.getD v.val {} = { w := w, flits := packetFlits w.pk } ∧
        t.fab.waiting = s.fab.waiting.erase w)) ∧
    (∀ (out v : Fin 8) (w : Waiting), s.fab.waiting.find? (fun x => x.out = out.val && x.vc = v.val && decide (x.pk.tc ≠ 0) &&
        decide (x.at_ + 2 * ms ≤ s.now)) = some w → s.get fStallEn = 1 → s.plans = [] → isRequest w.pk.kind = false →
      Completes (.stallBreaker out v) s (fun t => t.fab.waiting = s.fab.waiting.erase w ∧
        (t.reg 0x2100804C).toNat = min 0xFFFFFFFF ((s.reg 0x2100804C).toNat + 1) ∧ (t.reg aFabEvt).getLsbD 4 = true)) ∧
    (∀ (b : Packet) (bs : List Packet), s.fab.beacons = b :: bs → (∀ r, s.fab.released = some r → r + 125 * us ≤ s.now) →
      b.bcast = false → b.dst ≠ s.node →
      Completes .beaconRelease s (fun t => t.fab.beacons = bs ∧ t.fab.released = some s.now)) ∧
    (∀ r, s.fab.released = some r → s.now < r + 125 * us → exec .beaconRelease s = .next s) ∧
    (s.pairOn = true → Completes .tc0SinkService s (fun t => t.fab.taken = s.fab.taken ++ s.fab.sink ∧ t.fab.sink = [] ∧ t.get fSinkLevel = 0)) ∧
    (s.get fArm = 1 → s.reg64 0x21008008 ≤ s.ctNs → s.loss.pole ≠ some s.node →
      Completes .routeSwitch s (fun t => t.get fBank = 1 - s.get fBank ∧ t.get fArm = 0 ∧ (t.reg aFabEvt).getLsbD 0 = true)))

/-- R93, R94, R97, R172, Table 3-2: a target performs a request that is the first of its class and source (R108) and sends one
answer, with the request's TAG and ISSUER. R95, R96: a response ends the transaction that its ISSUER and TAG name; without one it
is counted as late. A request without a response ends after 200 us with code 0x07, and its tag stays unused for 1 ms. R95, R96:
the local end of a transaction after 200 us, and the end of its tag's quarantine. R460: the bulk count of a packet whose core was reset
returns with its late answer. -/
def Obligations.TransactionsEnd : Prop :=
  (∀ (pk : Packet) (s u : State), s.running → malformed pk = false → s.ingress pk pk.kind = some u →
    (pk.kind = 2 → (fieldAt pk.data 0 2 < 4 ∨ 512 < fieldAt pk.data 0 2 ∨ fieldAt pk.data 0 2 % 4 ≠ 0) →
      exec (.read pk) s = .next (u.sendFrom (errFor u.node 2 pk))) ∧
    (∀ (w : State) (bs : List Byte) (bad : Bool), pk.kind = 2 → 4 ≤ fieldAt pk.data 0 2 → fieldAt pk.data 0 2 ≤ 512 → fieldAt pk.data 0 2 % 4 = 0 →
      u.spanRead (.fabric pk.who) pk.addr (fieldAt pk.data 0 2) = (w, .inr (bs, bad)) →
      exec (.read pk) s = .next (w.sendFrom { dst := pk.src, tc := 3, kind := 5, poison := bad, nbytes := fieldAt pk.data 0 2, tag := pk.tag,
                                              ten := pk.ten, issuer := pk.issuer, data := bs })) ∧
    (∀ (w : State) (e : Nat), pk.kind = 1 → (isSram pk.addr && decide (pk.addr < 0x1380000)) = false →
      u.spanWrite (.fabric pk.who) pk.addr pk.data = (w, e) →
      exec (.writeBulk pk) s = .next (w.sendFrom (if e = 0 then ackFor w.node pk else errFor w.node e pk))) ∧
    (∀ (w : State) (ok : Bool), pk.kind = 3 → 0x26001000 ≤ pk.addr → pk.addr ≤ 0x260013FF → fieldAt pk.data 2 2 ≠ 0x0B22 →
      u.msgArrive pk.src ((pk.addr - 0x26001000) / 0x100) pk.data = (w, ok) →
      exec (.msg pk) s = .next (w.sendFrom (if ok then ackFor w.node pk else errFor w.node 4 pk))) ∧
    (∀ (w : State) (g : Nat), pk.kind = 4 → fieldAt pk.data 0 2 < 128 → (u.settle pk.addr).gated (palBase (bits (fieldAt pk.data 0 2) 4 3)) = false →
      (u.settle pk.addr).creditReq pk.who (bits (fieldAt pk.data 0 2) 4 3) (fieldAt pk.data 0 2 % 16) pk.addr (fieldAt pk.data 2 4) = (w, .inr g) →
      exec (.creditReq pk) s = .next (w.sendFrom (creditRet pk.src pk.tag pk.issuer pk.ten (bits (fieldAt pk.data 0 2) 4 3) (fieldAt pk.data 0 2 % 16) (32 * g)))) ∧
    (∀ c : Nat, pk.kind = 0 → palCore pk.addr = some c → (u.settle pk.addr).gated pk.addr = false →
      (∀ w, w < 16 → (u.settle pk.addr).winLive c w (pk.addr % 0x1000000) pk.data.length = false) → 4 ≤ pk.ten →
      exec (.writeStream pk) s = .next ((u.settle pk.addr).winViolation c)) ∧
    (∀ c w : Nat, pk.kind = 0 → palCore pk.addr = some c → (u.settle pk.addr).gated pk.addr = false → w < 16 →
      (u.settle pk.addr).winLive c w (pk.addr % 0x1000000) pk.data.length = true →
      ((u.settle pk.addr).palCheck pk.who false true c (pk.addr % 0x1000000) pk.data.length).2 = 0 →
      exec (.writeStream pk) s = .next
        (((u.settle pk.addr).palCheck pk.who false true c (pk.addr % 0x1000000) pk.data.length).1.palPut c (pk.addr % 0x1000000) pk.data))) ∧
  (∀ (pk : Packet) (s u : State), s.running → malformed pk = false → s.ingress pk pk.kind = some u →
    (∀ c ∈ ([(.readData pk, 5), (.writeAck pk, 6), (.err pk, 8)] : List (Instr × Nat)), pk.kind = c.2 → u.txnOf pk = none →
      (c.2 = 5 ∨ ∀ q ∈ u.fab.quarantine, q.reset = false) → exec c.1 s = .next u.late) ∧
    (∀ c ∈ ([(.writeAck pk, 6), (.err pk, 8)] : List (Instr × Nat)), pk.kind = c.2 → u.txnOf pk = none → u.fab.tagWait = [] →
      ∀ q ∈ u.fab.quarantine, q.issuer = pk.issuer → q.tag = pk.tag → q.reset = true → q.bulk = some pk.src →
      Completes c.1 s (fun t => t.bulkCount pk.src = u.bulkCount pk.src - 1 ∧
        (t.reg 0x21008054).toNat = min 0xFFFFFFFF ((u.reg 0x21008054).toNat + 1))) ∧
    (∀ x : Txn, u.txnOf pk = some x →
      (pk.kind = 5 → exec (.readData pk) s = .next ((u.endTxn x).landed x pk.data pk.poison)) ∧
      (pk.kind = 6 → exec (.writeAck pk) s = .next ((u.endTxn x).acked x)) ∧
      (pk.kind = 8 → exec (.err pk) s = .next ((u.endTxn x).txnFailed x (byteAt pk.data 0))) ∧
      (∀ (c ch : Nat), pk.kind = 7 → x.use = .credit c ch → x.pk.dst = pk.src → fieldAt x.pk.data 0 2 = fieldAt pk.data 0 2 →
        exec (.creditRet pk) s = .next ((u.endTxn x).chanCredit c ch (fieldAt pk.data 2 4 / 32) true)))) ∧
  (∀ (issuer : Fin 14) (tag : Fin 1024) (s : State), s.running →
    (∀ x : Txn, s.fab.txns.find? (fun t => t.issuer = issuer.val && t.tag = tag.val && decide (t.since + 200 * us ≤ s.now)) = some x →
      exec (.responseTimeout issuer tag) s = .next ((s.quarantineTxn x).txnFailed x 7) ∧
      (s.quarantineTxn x).fab.txns = s.fab.txns.erase x ∧
      ∃ q : Quarantine, (s.quarantineTxn x).fab.quarantine = s.fab.quarantine ++ [q] ∧ q.issuer = issuer.val ∧ q.tag = tag.val ∧ q.until_ = s.now + ms) ∧
    (∀ q : Quarantine, s.fab.quarantine.find? (fun q => q.issuer = issuer.val && q.tag = tag.val && decide (q.until_ ≤ s.now)) = some q →
      s.fab.tagWait = [] →
      Completes (.tagQuarantineEnd issuer tag) s (fun t => t.fab.quarantine = s.fab.quarantine.erase q ∧ t.regs = s.regs)))

/-- R127, R91, Table 4-2: a TIME_REQ leaves each ACTIVE port at each whole millisecond, 100 us after another HOP packet at the earliest; its arrival waits for the answer; the answer goes
out in the windows of a millisecond with t2 and t3 - t2, and none more than 200 us after the arrival. R129 to R131: what a
TIME_RSP does that is a sample of a member's servo, and one that is none. R122, R130: whatever a TIME_RSP carries, INC stays
within 500 ppm of nominal. R126, R131: the parent chosen is a port whose partner is LOCKED and of the smallest DEPTH, and the
chip's depth is one more; LOCKED clears after 10 ms without a sample, and every FSYNC output is then low. -/
def Obligations.TimeExchange : Prop :=
  (∀ s : State, s.running → ∀ p : Fin 6,
    (s.get (fLnkState p) = 4 → s.get fSyncEn = 1 → (s.port p).reqMs ≠ some s.ctMs → s.atInstant 0 = true → s.hopClear p = true →
      Completes (.timeReqSend p) s (fun t => (t.port p).reqT1 = s.ctNs ∧ (t.port p).reqOpen = true ∧
        (t.port p).reqSeq = ((s.port p).reqSeq + 1) % 256 ∧ t.regs = s.regs ∧
        ∃ w : Waiting, t.fab.waiting = s.fab.waiting ++ [w] ∧ w.out = p.val ∧ w.pk.kind = 10 ∧ w.pk.dst = s.get (fPeerNode p) ∧
          w.pk.data = leBytes 1 2 ++ leBytes 1 ((s.port p).reqSeq + 1) ++ leBytes 14 0)) ∧
    (∀ (data : List Byte) (at_ : Nat), s.fab.hops.find? (fun h => h.1 = p.val && h.2.1 = data) = some (p.val, data, at_) →
      (∀ x, (s.port p).answer = some x → x.2 + 200000 < at_) →
      Completes (.timeReq p data) s (fun t => (t.port p).answer = some (byteAt data 1, at_) ∧ t.fab.hops = s.fab.hops.erase (p.val, data, at_) ∧
        t.regs = s.regs)) ∧
    (∀ (seq t2 : Nat), (s.port p).answer = some (seq, t2) →
      s.get (fLnkState p) = 4 → s.get fSyncEn = 1 →
      (s.ctNs - t2 ≤ 200000 → rspWindow s.ctNs = true → (s.port p).rspMs ≠ some s.ctMs → s.hopClear p = true →
        Completes (.timeRspSend p) s (fun t => (t.port p).answer = none ∧
          ∃ w : Waiting, t.fab.waiting = s.fab.waiting ++ [w] ∧ w.out = p.val ∧ w.pk.kind = 10 ∧
            w.pk.data = leBytes 1 3 ++ leBytes 1 seq ++ leBytes 1 (s.get fDepth + 64 * s.get fLocked + 128 * s.get fRoot) ++ leBytes 1 0 ++
              leBytes 8 t2 ++ leBytes 4 (s.ctNs - t2))) ∧
      (200000 < s.ctNs - t2 → Completes (.timeRspSend p) s (fun t => (t.port p).answer = none ∧ t.fab = s.fab)))) ∧
  (∀ s : State, s.running → ∀ (p : Fin 6) (data : List Byte) (t4 : Nat),
    s.fab.hops.find? (fun h => h.1 = p.val && h.2.1 = data) = some (p.val, data, t4) →
    let q := s.port p
    let t2 := fieldAt data 4 8
    let turn := fieldAt data 12 4
    let rt : Int := (t4 : Int) - q.reqT1 - turn
    let o2 : Int := ((t2 : Int) - q.reqT1) - ((t4 : Int) - (t2 + turn))
    (s.get fParent ≠ p.val → Completes (.timeRsp p data) s (fun t => t.regs = s.regs ∧ t.tim = s.tim ∧
      (t.port p).pLocked = bit (byteAt data 2) 6 ∧ (t.port p).pRoot = bit (byteAt data 2) 7 ∧ (t.port p).pDepth = byteAt data 2 % 64)) ∧
    (s.get fRoot = 0 → s.get fParent = p.val → s.get fMember = 1 → q.reqOpen = true → byteAt data 1 = q.reqSeq →
      (bit (byteAt data 2) 6 = true ∨ bit (byteAt data 2) 7 = true) → turn ≤ 200000 → s.tim.rts = [] → o2.natAbs ≤ 40 →
      s.get fLocked = 1 →
      Completes (.timeRsp p data) s (fun t => t.tim.freq = s.tim.freq + o2 ∧ t.tim.rts = [rt] ∧ t.tim.lastSample = s.ctNs ∧
        t.tim.ct = s.tim.ct ∧ t.get fLocked = 1 ∧
        t.inc = (10737418240 + roundDiv (10737418240 * clampTo 64000 (s.tim.freq + o2 + 16 * o2)) 128000000).toNat))) ∧
  (∀ (p : Fin 6) (data : List Byte) (s : State), 10732049531 ≤ s.inc → s.inc ≤ 10742786949 →
    ∀ c ∈ ([.timeRsp p data, .parentChoice] : List Instr), Completes c s (fun t => 10732049531 ≤ t.inc ∧ t.inc ≤ 10742786949)) ∧
  (∀ s : State, s.running → s.get fRoot = 0 →
    (s.get fSyncEn = 1 → s.tim.choiceMs ≠ some s.ctMs →
      Completes .parentChoice s (fun t => ∀ q : Fin 6, s.timeSource q = true →
        t.get fParent < 6 ∧ s.timeSource (t.get fParent) = true ∧ (s.port (t.get fParent)).pDepth ≤ (s.port q).pDepth ∧
        t.get fDepth = min 63 ((s.port (t.get fParent)).pDepth + 1))) ∧
    (s.get fLocked = 1 → 10000000 ≤ s.ctNs - s.tim.lastSample →
      Completes .lockedLoss s (fun t => t.get fLocked = 0 ∧ ∀ k : Fin 4, (t.fs k).pin = false ∧ (t.fs k).pulse = none)))

/-- R133, R135: boundary(n) of the base and rate in force, and when the next epoch begins; with RUN = 0 a member takes none. R39,
R125, R134, R142: the declaration, FORMATION, the formation instant, RATE_CHANGE and vehicle time. The declaration names the first
whole millisecond at least 5 ms ahead: the model's choice of log entry 25. -/
def Obligations.EpochsAndFormation : Prop :=
  (∀ s : State, s.running →
    (∀ n : Nat, s.tim.baseN ≤ n → s.boundary n = s.tim.baseCt + (n - s.tim.baseN) * 1000000000 / (if s.tim.rate25 then 25 else 30)) ∧
    (s.get fRun = 1 → s.boundary (s.tim.epoch + 1) ≤ s.ctNs → exec .epochBoundary s = .next (s.epochStart (s.tim.epoch + 1))) ∧
    (s.get fRun = 1 → s.ctNs < s.boundary (s.tim.epoch + 1) → exec .epochBoundary s = .next s) ∧
    (s.get fRun = 0 → s.get fMember = 1 → exec .epochBoundary s = .next s)) ∧
  (∀ (b : Packet) (s : State), s.running →
    (∀ t, s.tim.formAt = some t → s.get fMember = 0 → t ≤ s.ctNs → exec .formationInstant s = .next ((s.ctSet 0).enterMember)) ∧
    (∀ t, s.tim.formAt = some t → s.ctNs < t → exec .formationInstant s = .next s) ∧
    (s.get fMember = 0 → s.firmwareUp = true → s.lifecycle ≠ 3 → s.loss.formed = false → s.loss.pole = some s.node → b.src = s.node → s.ctNs ≤ fieldAt b.data 8 8 →
      Completes (.formation b) s (fun t => t.tim.formAt = some (fieldAt b.data 8 8) ∧ t.get fRate = byteAt b.data 2 % 2 ∧ t.get fMember = 0)) ∧
    (s.poleCheck = s → s.firmwareUp = true → s.lifecycle ≠ 3 → s.loss.pole = some s.node → s.loss.lone = false → s.loss.formed = false → s.tim.formAt = none →
      s.loss.reachAt + 100 * ms ≤ s.now →
      Completes .membershipDeclare s (fun t => t.loss.members = s.loss.reach ||| 2 ^ s.node ∧ t.loss.version = 1 ∧
        ∃ T, t.tim.formAt = some T ∧ T % 1000000 = 0 ∧ s.ctNs + 5000000 ≤ T ∧ T < s.ctNs + 6000000)) ∧
    (s.get fRun = 1 → s.tim.epoch + 1 < fieldAt b.data 8 8 →
      Completes (.rateChange b) s (fun t => t.tim.rateAt = some (fieldAt b.data 8 8, bit (byteAt b.data 2) 0) ∧ t.regs = s.regs)) ∧
    (s.get fRun = 1 → fieldAt b.data 8 8 = s.tim.epoch + 1 → s.boundary (s.tim.epoch + 1) < 18446744073709551616 →
      Completes (.rateChange b) s (fun t => t.tim.rateAt = none ∧ t.reg64 0x23000030 = s.boundary (s.tim.epoch + 1) ∧
        t.reg64 0x23000038 = s.tim.epoch + 1 ∧ t.get fRate = b2n (bit (byteAt b.data 2) 0))) ∧
    (s.loss.pole = some s.node → s.get fRun = 1 → s.tim.vtSentEpoch ≠ some s.tim.epoch →
      Completes .vtUpdateSend s (fun t => t.tim.vtSentEpoch = some s.tim.epoch ∧ ∃ q : Packet, t.fab.beacons = s.fab.beacons ++ [q] ∧ q.bcast = true ∧
        byteAt q.data 0 = 0x42 ∧ byteAt q.data 2 = b2n s.tim.ptp.locked ∧ fieldAt q.data 8 8 = unsigned 64 s.tim.ptp.vt)) ∧
    Completes (.vtUpdate b) s (fun t => t.reg64 0x23000090 = fieldAt b.data 8 8 ∧ t.tim.vtValid = bit (byteAt b.data 2) 0 ∧
      t.tim.vtEpoch = some s.tim.epoch) ∧
    (s.tim.vtEpoch.getD 0 + 3 ≤ s.tim.epoch → exec .vtStale s = .next (s.onTim (fun t => { t with vtValid := false }))))

/-- R136 to R138: an FSYNC pulse begins when CT reaches its edge and lasts WIDTH microseconds; while the output is held low none
begins. R143, R144: a clock monitor shows its fault and raises its safety event; the loss of the crystal or the root PLL drives
FSYNC and OW_VALID low and leads to a watchdog reset with origin 5 after 1 ms. R121, R123: the clock gates open at once, a core's
closes once the core is idle; a read of `CLK_CT_LO` latches the upper half. -/
def Obligations.ClocksAndFsync : Prop :=
  (∀ (k : Fin 4) (s : State), s.running →
    ((s.fs k).pulse = none → s.edgeTime k (s.fs k).edge ≤ s.ctNs → (s.fs k).edge < (s.tim.epoch + 1) * fsMult (s.fs k).cfg →
      (s.fsHeld k = false → Completes (.fsyncEdge k) s (fun t => (t.fs k).pulse = some (s.edgeTime k (s.fs k).edge) ∧
        (t.fs k).pin = !bit (s.fs k).cfg 1 ∧ (t.fs k).edge = (s.fs k).edge + 1 ∧ t.regs = s.regs)) ∧
      (s.fsHeld k = true → Completes (.fsyncEdge k) s (fun t => (t.fs k).pulse = none ∧ (t.fs k).pin = (s.fs k).pin ∧
        (t.fs k).edge = (s.fs k).edge + 1))) ∧
    (s.ctNs < s.edgeTime k (s.fs k).edge → exec (.fsyncEdge k) s = .next s) ∧
    (∀ x, (s.fs k).pulse = some x → x + 1000 * (s.fs k).width ≤ s.ctNs →
      Completes (.fsyncPulseEnd k) s (fun t => (t.fs k).pulse = none ∧ (s.fsHeld k = true → (t.fs k).pin = false) ∧
        (s.fsHeld k = false → (t.fs k).pin = bit (s.fs k).cfg 1))) ∧
    (∀ x, (s.fs k).pulse = some x → s.ctNs < x + 1000 * (s.fs k).width → exec (.fsyncPulseEnd k) s = .next s)) ∧
  (∀ s : State, s.running →
    (∀ m : Fin 9, m.val < 5 → bit (s.reg 0x23000084).toNat m = true →
      Completes (.clockMonitorFault m) s (fun t => (t.reg 0x23000080).getLsbD m.val = true ∧ t.saf.events = s.saf.events ++ [(6, m.val)] ∧
        t.tim = s.tim)) ∧
    (bit (s.reg 0x23000084).toNat 6 = true → Completes (.pllLockLoss false) s (fun t => t.get fEthLock = 0 ∧ (t.reg 0x23000080).getLsbD 6 = true)) ∧
    (∀ c ∈ ([.crystalLoss, .pllLockLoss true] : List Instr), s.tim.resetDue = none →
      Completes c s (fun t => t.tim.resetDue = some (s.now, 5) ∧ t.saf.running = false ∧ t.linkOff = true ∧ ∀ k : Fin 4, (t.fs k).pin = false)) ∧
    (∀ (x origin : Nat), s.tim.resetDue = some (x, origin) → origin < 256 →
      (x + ms ≤ s.now → Completes .faultResetDelay s (fun t => t.pwr.inReset = some 3 ∧ t.get fKind = 3 ∧ t.get fOrigin = origin)) ∧
      (s.now < x + ms → exec .faultResetDelay s = .next s))) ∧
  (∀ s : State, s.running →
    (∀ v : Word, exec (.clkGateWrite v) s = .next ((s.setReg aGate (v &&& 0xFFFF#32)).setReg aGateStat ((v &&& 0xFFFF#32) ||| (s.reg aGateStat &&& 0xFF#32)))) ∧
    (∀ c : Fin 8, (bit (s.reg aGate).toNat c = false → s.coreIdle c = true →
        Completes (.coreGateClose c) s (fun t => ∀ i : Fin 16, (t.reg aGateStat).getLsbD i.val = ((s.reg aGateStat).getLsbD i.val && decide (i.val ≠ c.val)))) ∧
      (s.coreIdle c = false → exec (.coreGateClose c) s = .next s)) ∧
    Completes .clkCtLoRead s (fun t => t.tim.ctHi = s.ctNs / 4294967296 ∧ t.tim.ct = s.tim.ct ∧ t.regs = s.regs))

/-- R139 to R142: the messages of an IEEE 1588 master on the pole's port. -/
def Obligations.VehicleTime : Prop :=
  ∀ s : State, s.running → ∀ (e : Fin 2) (data : List Byte),
    (∀ (u : State) (x : Nat), s.ethTake e 5 data = (u, x) → u.ptpMine e 0 data = true → u.fromMaster data = true → bit (byteAt data 6) 1 = true →
      Completes (.ptpSync e data) s (fun t => t.tim.ptp.sync = some (beAt data 30 2, ((x : Int) - ptpCorrection data).toNat) ∧
        t.tim.ptp.lastSync = some u.now ∧ t.tim.ct = u.tim.ct)) ∧
    (∀ (u : State) (x : Nat), s.ethTake e 6 data = (u, x) → ∀ n t2 : Nat, u.tim.ptp.sync = some (n, t2) → ∀ d : Int, u.tim.ptp.meanDelay = some d →
      u.ptpMine e 8 data = true → u.fromMaster data = true → beAt data 30 2 = n →
      Completes (.ptpFollowUp e data) s (fun t => t.tim.ptp.vt = ptpTime data 34 + ptpCorrection data + d - t2 ∧ t.tim.ct = u.tim.ct)) ∧
    (∀ (u : State) (x : Nat), s.ethTake e 6 data = (u, x) → u.ptpMine e 0xB data = true → beAt data 61 2 < 255 →
      Completes (.ptpAnnounce e data) s (fun t => ∃ m : Master, m ∈ t.tim.ptp.masters ∧ m.id = ptpIdentity data 20 ∧ m.heard = u.now)) ∧
    (s.loss.pole = some s.node → s.tim.ptp.enabled = true → s.ptpMaster.isSome = true →
      Completes .ptpDelayReqSend s (fun t => t.tim.ptp.delaySeq = (s.tim.ptp.delaySeq + 1) % 65536 ∧
        t.tim.ptp.delayReq = some ((s.tim.ptp.delaySeq + 1) % 65536, s.ctNs))) ∧
    (∀ (u : State) (x : Nat), s.ethTake e 6 data = (u, x) → ∀ n t3 : Nat, u.tim.ptp.delayReq = some (n, t3) → u.ptpMine e 9 data = true →
      u.fromMaster data = true → beAt data 30 2 = n → ptpIdentity data 44 = u.ptpId e →
      Completes (.ptpDelayResp e data) s (fun t => t.tim.ptp.delayReq = none ∧
        t.tim.ptp.meanDelay = some (roundDiv ((u.tim.ptp.t2 - u.tim.ptp.t1) + (ptpTime data 34 - ptpCorrection data - t3)) 2))) ∧
    (∀ x : Nat, s.tim.ptp.lastSync = some x → s.loss.pole = some s.node →
      x + 3 * s.tim.ptp.masters.foldl (fun n m => max n m.interval) 0 ≤ s.now →
      Completes .ptpMasterLoss s (fun t => t.tim.ptp.locked = false ∧ t.tim.ptp.vt = s.tim.ptp.vt ∧ t.tim.ptp.meanDelay = none))

/-- R156: a region maps its addresses one-to-one into its banks and rows, with or without the hash, which permutes the banks of
each row. -/
def Obligations.RegionMap : Prop :=
  ∀ (r : Rgn) (a b : Nat), r.plog < 4 → r.base ≤ a → r.base ≤ b →
    (r.map a = r.map b → a = b) ∧
    16 * r.group + 2 * r.first ≤ (r.map a).1 ∧ (r.map a).1 < 16 * r.group + 2 * r.first + r.nb ∧
    (r.map a).2.1 = r.rowBase + (a - r.base) / 64 / r.nb ∧ (r.map a).2.2 = (a - r.base) % 64 ∧
    (∀ i < r.nb, ∃ c : Nat, r.base ≤ c ∧ (c - r.base) / 64 / r.nb = (a - r.base) / 64 / r.nb ∧ (r.map c).1 = 16 * r.group + 2 * r.first + i)

/-- R157, R158, Table 5-3: what a write of `PAL_RGN_r_CFG` that sets EN does; an enabled region keeps its other fields and raises
cause 7; clearing EN stops the region; a locked region's registers stand. R157 (causes 4 to 6): no write of a region register lets
two enabled regions of a core share an address, a row of a bank, or, with different owners, a bank pair. -/
def Obligations.RegionsStayApart : Prop :=
  (∀ (c r : Fin 8) (v : Word) (s : State), s.gateOpen c →
    let g := s.rgn c r
    let others := ((List.range 8).filter (fun q => q ≠ r.val && (s.rgn c q).en)).map (s.rgn c)
    let n := rgnOf (s.reg (aRgn c r 0)).toNat (s.reg (aRgn c r 1)).toNat ((v &&& 0x7FF1FFE#32) ||| 1#32).toNat
    (g.en = false → g.lock = false → v.getLsbD 0 = true → rgnCause n others = 0 →
      Completes (.palRgnWrite c r 2 v) s (fun t => t.rgn c r = { n with lock := v.getLsbD 31 && !(s.retaken (aRgn c r 2)).getLsbD 31 } ∧
        (∀ q : Fin 8, q ≠ r → t.rgn c q = s.rgn c q) ∧ t.mem = s.mem ∧ t.reg (aPalEvt c) = s.reg (aPalEvt c))) ∧
    (g.en = false → g.lock = false → v.getLsbD 0 = true → rgnCause n others ≠ 0 →
      Completes (.palRgnWrite c r 2 v) s (fun t => (t.rgn c r).en = false ∧ (t.reg (aPalEvt c)).getLsbD 4 = true ∧
        t.reg (palReg c 0x18) = BitVec.ofNat 32 (r.val + 16 * rgnCause n others) ∧ t.mem = s.mem)) ∧
    (g.en = true → g.lock = false →
      (v &&& 0x3FFFC0#32 ≠ s.reg (aRgn c r 0) →
        Completes (.palRgnWrite c r 0 v) s (fun t => t.rgn c r = g ∧ (t.reg (aPalEvt c)).getLsbD 4 = true ∧
          t.reg (palReg c 0x18) = BitVec.ofNat 32 (r.val + 16 * 7))) ∧
      (v &&& 0x3FFFC0#32 = s.reg (aRgn c r 0) → exec (.palRgnWrite c r 0 v) s = .next s) ∧
      Completes (.palRgnWrite c r 2 v) s (fun t => t.rgn c r = { g with en := v.getLsbD 0, lock := v.getLsbD 31 && !(s.retaken (aRgn c r 2)).getLsbD 31 } ∧ t.mem = s.mem)) ∧
    (g.lock = true → ∀ w : Fin 3, Completes (.palRgnWrite c r w v) s (fun t => t.rgn c r = g))) ∧
  (∀ (c r : Fin 8) (w : Fin 3) (v : Word) (s : State), s.regionsApart c → Completes (.palRgnWrite c r w v) s (fun t => t.regionsApart c))

/-- R169: clearing a bit of `PAL_BANK_PWR` loses the pair's contents and its readiness; a pair that is switched on is ready, and
zero, no sooner than 2 us and 24,576 CORE_CLK cycles later. R171 to R173: what a write of a window's CFG and of its REL do; the
units that producers hold never pass the window's size. R161, R162, R176, Table 5-6: a displaced wide port is counted with its
step; the phases of a tenant clear follow each other, the second leaves every byte of the covered regions zero, and the fourth
releases the regions. R177: a covered word that no write makes good leaves its bank bad and VERIFY_FAIL set at the third. -/
def Obligations.BanksAndWindows : Prop :=
  (∀ (c : Fin 8) (p : Fin 16) (s : State),
    (∀ v : Word, s.gateOpen c →
      (bit v.toNat p = false → bit (s.reg (palReg c 8)).toNat p = true →
        Completes (.palBankPwrWrite c v) s (fun t => t.reg (palReg c 8) = v &&& 0xFFFF#32 ∧ bit (t.reg (palReg c 0xC)).toNat p = false ∧
          ∀ b row x, b / 2 = p.val → row < 1536 → x < 64 → tblGet byteZero t.mem.pal (palKey c b row x) = 0#8)) ∧
      (bit v.toNat p = bit (s.reg (palReg c 8)).toNat p →
        Completes (.palBankPwrWrite c v) s (fun t => bit (t.reg (palReg c 0xC)).toNat p = bit (s.reg (palReg c 0xC)).toNat p ∧
          ∀ b row x, b / 2 = p.val → row < 1536 → x < 64 →
            tblGet byteZero t.mem.pal (palKey c b row x) = tblGet byteZero s.mem.pal (palKey c b row x)))) ∧
    (s.running → ∀ x, tblGet (fun _ => none) s.mem.pairUp (16 * c.val + p.val) = some x →
      (x + 2 * us + 24576 * 8 ≤ s.now → Completes (.pairReady c p) s (fun t => bit (t.reg (palReg c 0xC)).toNat p = true ∧
        (∀ q : Fin 16, q ≠ p → bit (t.reg (palReg c 0xC)).toNat q = bit (s.reg (palReg c 0xC)).toNat q) ∧
        ∀ b row x, b / 2 = p.val → row < 1536 → x < 64 → tblGet byteZero t.mem.pal (palKey c b row x) = 0#8)) ∧
      (s.now < x + 2 * us + 24576 * 8 → exec (.pairReady c p) s = .next s))) ∧
  (∀ (c : Fin 8) (w : Fin 16) (v : Word) (s : State), s.gateOpen c →
    let lg := bits v.toNat 1 5
    let base := (s.reg (aWin c w 0)).toNat
    let inside := ∃ r : Fin 8, (s.rgn c r).en = true ∧ (s.rgn c r).base ≤ base ∧ base + 2 ^ lg ≤ (s.rgn c r).base + (s.rgn c r).size
    (s.winOpen c w = false → v.getLsbD 0 = true → 8 ≤ lg → lg ≤ 20 → base % 2 ^ lg = 0 → inside →
      Completes (.palWinCfgWrite c w v) s (fun t => t.winOpen c w = true ∧ t.winUnits c w = 2 ^ lg / 32 ∧ t.winHeld c w = 0 ∧
        t.reg (aWin c w 4) = 0#32 ∧ t.winProducer c w = bits v.toNat 6 6)) ∧
    (s.winOpen c w = false → v.getLsbD 0 = true → ¬ inside →
      Completes (.palWinCfgWrite c w v) s (fun t => t.winOpen c w = false ∧ (t.reg (aPalEvt c)).getLsbD 6 = true)) ∧
    (s.winOpen c w = true → Completes (.palWinCfgWrite c w v) s (fun t => t.winOpen c w = v.getLsbD 0 ∧ t.winUnits c w = s.winUnits c w ∧
      t.winProducer c w = s.winProducer c w)) ∧
    (s.winHeld c w < v.toNat % 65536 → exec (.palWinRel c w v) s = .next (s.event (aPalEvt c) 0x40)) ∧
    (v.toNat % 65536 ≤ s.winHeld c w → Completes (.palWinRel c w v) s (fun t =>
      t.reg (aWin c w 3) = s.reg (aWin c w 3) + BitVec.ofNat 32 (v.toNat % 65536))) ∧
    (s.winHeld c w ≤ s.winUnits c w → Completes (.palWinRel c w v) s (fun t => t.winHeld c w ≤ t.winUnits c w)) ∧
    (∀ (who : Who) (addr n : Nat), s.winHeld c w ≤ s.winUnits c w → (s.creditReq who c w addr n).1.winHeld c w ≤ s.winUnits c w)) ∧
  (∀ (c : Fin 8) (s : State),
    (∀ (b : Fin 16) (step : Nat), s.gateOpen c → step < 65536 →
      Completes (.narrowDisplace c b step) s (fun t => (t.reg (palReg c 0x20)).toNat = min 0xFFFFFFFF ((s.reg (palReg c 0x20)).toNat + 1) ∧
        (t.reg (aPalEvt c)).getLsbD 0 = true ∧ t.reg (palReg c 0x24) = BitVec.ofNat 32 (0x80000000 + step) ∧ t.mem = s.mem)) ∧
    (s.running → ∀ k : ClearState, tblGet (fun _ => none) s.mem.clear c.val = some k → k.tenant < 8 →
      (k.phase < 4 → 1 ≤ k.phase → Completes (.clearPhaseEnd c) s (fun t =>
        tblGet (fun _ => none) t.mem.clear c.val = some { k with phase := k.phase + 1, since := s.now } ∧
        (t.reg (palReg c 0x3C)).toNat % 128 = 1 + 2 * (k.phase + 1) + 16 * k.tenant ∧
        (k.phase = 2 → ∀ r : Fin 8, (k.all = true ∨ (s.rgn c r).tenant = k.tenant) →
          ∀ a, (s.rgn c r).base ≤ a → a < (s.rgn c r).base + (s.rgn c r).size → ((s.rgn c r).map a).1 < 32 →
            ((s.rgn c r).map a).2.1 < 1536 → (s.rgn c r).size % (64 * (s.rgn c r).nb) = 0 →
            tblGet byteZero t.mem.pal (palKey c ((s.rgn c r).map a).1 ((s.rgn c r).map a).2.1 ((s.rgn c r).map a).2.2) = 0#8) ∧
        (k.phase ≠ 2 → (k.phase = 3 → s.failWords c k = []) → t.mem.pal = s.mem.pal) ∧
        (k.phase = 3 → ∀ key ∈ s.mem.stuck, key ∈ s.mem.badPar → s.covered c k key = true → key % 4194304 / 98304 < 32 →
          (t.reg (palReg c 0x3C)).getLsbD 7 = true ∧ (t.reg (palReg c 0x10)).getLsbD (key % 4194304 / 98304) = true ∧
          (t.reg (aPalEvt c)).getLsbD 3 = true))) ∧
      (k.phase = 4 → exec (.clearPhaseEnd c) s = .next (s.clearRelease c k).finishRelease ∧
        ∀ r : Fin 8, (k.all = true ∨ (s.rgn c r).tenant = k.tenant) → ((s.clearRelease c k).rgn c r).en = false ∧
          ((s.clearRelease c k).rgn c r).lock = false ∧ ((s.clearRelease c k).rgn c r).tenant = 7)))

/-- R182, R183, R192, R198, R212, R208, Table 6-4: a DMA step pushes its descriptor or waits for a place; a channel starts its
next descriptor when the one before has ended, a stream that waits for its re-run (R211) before the queue; one that fails a check at
issue moves nothing and kills the context. R186, R190: a packet moves at most 512 bytes and crosses no row end, no 512-byte boundary
of the remote address and no wrap point. R187, R189, R194, R200, R201, R202: how a channel begins its next packet: a READ that
reserves its landing goes to the injection stage; a local write, a WRITE_BULK or a WRITE_STREAM waits for its beats; a stream asks for
the credit that R200 names and waits when it holds too little. R194, R196, R197, R199: a beat of the read side takes one row's part, the
first one a write slot; the last one hands a local write to the write side or presents the packet, a stream's at the price of R201; a
beat of the write side puts one row's part into the palette and the last one frees the slot; a high-priority beat leaves the ordinary
channel PREEMPTED and counts a packet cut short. R210: 100 us after ERR 0x04 a WRITE_BULK is sent again, at most three times; a
fourth ERR 0x04 ends the descriptor with code 0x0A. -/
def Obligations.DmaChannels : Prop :=
  (∀ (c ch : Fin 8) (s : State), s.running →
    (∀ ws : List Nat, s.nextStep c 2 ws → bits (word ws 0) 8 3 = ch.val →
      ((s.chan c ch).queue.length < 4 → Completes (.dmaStep c) s (fun t =>
        (t.chan c ch).queue = (s.chan c ch).queue ++
          [{ words := ws, ten := s.get (fTenant c), step := s.get (fSeqPc c), attempt := (s.core c).seq.attempt (s.get (fSeqPc c)) }] ∧
        t.get (fSeqPc c) = (s.get (fSeqPc c) + 1) % 65536 ∧ t.get (fSeqState c) = 1 ∧ t.mem = s.mem)) ∧
      (4 ≤ (s.chan c ch).queue.length → Completes (.dmaStep c) s (fun t => (t.chan c ch).queue = (s.chan c ch).queue ∧
        t.get (fSeqPc c) = s.get (fSeqPc c) ∧ t.get (fSeqState c) = 2))) ∧
    (∀ d : DmaDesc, (s.chan c ch).cur = none →
      ((s.chan c ch).kept = none → (s.chan c ch).queue.head? = some d → s.dmaCheck c ch d = 0 →
        Completes (.descriptorStart c ch) s (fun t => (t.chan c ch).cur = some d ∧ (t.chan c ch).pos = 0 ∧
          (t.chan c ch).queue = (s.chan c ch).queue.drop 1 ∧ (t.chan c ch).remain = d.total / 32 ∧
          (t.chan c ch).epochAt = s.tim.boundaryAt ∧ t.get (fChDesc c ch) = d.id ∧
          t.reg (aChBytes c ch) = 0#32 ∧ t.get (fChState c ch) = (if d.isStream then 2 else 1) ∧ t.mem = s.mem)) ∧
      (∀ k : DmaDesc × Nat × Nat, (s.chan c ch).kept = some k → (s.chan c ch).again = some d → s.dmaCheck c ch d = 0 →
        Completes (.descriptorStart c ch) s (fun t => (t.chan c ch).cur = some d ∧ (t.chan c ch).pos = 0 ∧
          (t.chan c ch).queue = (s.chan c ch).queue ∧ (t.chan c ch).remain = k.2.1 ∧ (t.chan c ch).paid = k.2.2 ∧
          (t.chan c ch).kept = none ∧ t.get (fChDesc c ch) = d.id ∧ t.get (fHeldCred c ch) = s.get (fHeldCred c ch) ∧
          t.get (fPendCred c ch) = s.get (fPendCred c ch) ∧ t.mem = s.mem)) ∧
      (((s.chan c ch).kept = none ∧ (s.chan c ch).queue.head? = some d) ∨ ((s.chan c ch).kept ≠ none ∧ (s.chan c ch).again = some d) →
        s.dmaCheck c ch d ≠ 0 → Completes (.descriptorStart c ch) s (fun t => t.get (fChState c ch) = 4 ∧
          t.reg (dmaReg c (0x20 * ch.val + 0xC)) = BitVec.ofNat 32 (s.dmaCheck c ch d + 65536 * d.id) ∧
          (t.reg (aDmaEvt c)).getLsbD (8 + ch.val) = true ∧ t.get (fSeqState c) = 5 ∧ t.mem = s.mem))) ∧
    ((s.chan c ch).cur ≠ none ∨ ((s.chan c ch).kept = none ∧ (s.chan c ch).queue = []) ∨
      ((s.chan c ch).kept ≠ none ∧ (s.chan c ch).again = none) → exec (.descriptorStart c ch) s = .next s) ∧
    (∀ d : DmaDesc, (s.chan c ch).cur = some d →
      (d.total ≤ (s.chan c ch).pos → (s.chan c ch).part = none → (s.chan c ch).reads = 0 → (s.chan c ch).writes = 0 →
        Completes (.descriptorComplete c ch) s (fun t => (t.chan c ch).cur = none ∧ t.get (fChState c ch) = 0 ∧
          t.reg (dmaReg c (0x20 * ch.val + 8)) = s.reg (dmaReg c (0x20 * ch.val + 8)) + 1#32 ∧
          (d.irq = true → (t.reg (aDmaEvt c)).getLsbD ch.val = true) ∧ (d.irq = false → t.reg (aDmaEvt c) = s.reg (aDmaEvt c)) ∧
          t.get (fHeldCred c ch) = 0 ∧ t.get (fPendCred c ch) = 0 ∧ t.mem = s.mem)) ∧
      ((s.chan c ch).pos < d.total ∨ (s.chan c ch).part ≠ none ∨ 0 < (s.chan c ch).reads ∨ 0 < (s.chan c ch).writes →
        exec (.descriptorComplete c ch) s = .next s)) ∧
    (s.gateOpen c → Completes (.dmaFlush c ch) s (fun t => t.chan c ch = {} ∧ t.get (fChState c ch) = 0 ∧ t.get (fHeldCred c ch) = 0 ∧
      t.get (fPendCred c ch) = 0 ∧ t.mem = s.mem ∧ ∀ h : Fin 8, h ≠ ch → t.chan c h = s.chan c h))) ∧
  (∀ (s : State) (c pos idx : Nat) (d : DmaDesc), 0 < d.len →
    let src := (s.nextSpan c d pos idx).1
    let dst := (s.nextSpan c d pos idx).2.1
    let n := (s.nextSpan c d pos idx).2.2
    0 < n ∧ n ≤ 512 ∧ pos % d.len + n ≤ d.len ∧
    (s.ownPal c d.dst = true → src % 512 + n ≤ 512) ∧ (s.ownPal c d.dst = false → dst % 512 + n ≤ 512) ∧
    (d.srcWrap ≠ 0 → src % 2 ^ d.srcWrap + n ≤ 2 ^ d.srcWrap ∧ src / 2 ^ d.srcWrap = gLocal d.src / 2 ^ d.srcWrap) ∧
    (d.dstWrap ≠ 0 → dst % 2 ^ d.dstWrap + n ≤ 2 ^ d.dstWrap ∧ dst / 2 ^ d.dstWrap = gLocal d.dst / 2 ^ d.dstWrap)) ∧
  (∀ s : State, s.running → ∀ (c ch : Fin 8) (d : DmaDesc), (s.chan c ch).cur = some d → (s.chan c ch).pos < d.total →
    (s.chan c ch).part = none → ∀ idx : Nat,
    let q := s.chan c ch
    let at_ := d.idx + 4 * (q.pos / d.len)
    (d.mode ≠ 3 ∧ idx = 0) ∨ (d.mode = 3 ∧ (s.palCheck (d.who s) false false c at_ 4).2 = 0 ∧
      (s.palRead c at_ 4 3 d.step d.attempt).2.2 = false ∧ idx = leNat (s.palBytes c at_ 4) ∧
      (gLocal d.src + idx) % 4 = 0 ∧ (gLocal d.src + idx) % 512 + d.elem ≤ 512) →
    let src := (s.nextSpan c d q.pos idx).1
    let dst := (s.nextSpan c d q.pos idx).2.1
    let n := (s.nextSpan c d q.pos idx).2.2
    let request : Packet :=
      { dst := gNode d.src, kind := 2, nbytes := 2, issuer := c, ten := d.ten, addr := src, data := leBytes 2 n }
    let begun (t : State) : Prop := (t.chan c ch).pos = q.pos + n ∧ (t.chan c ch).writes = q.writes ∧
      (t.chan c ch).part = some { src := src - palBase c, dst := dst, len := n } ∧ t.get (fChState c ch) = 1 ∧ t.mem = s.mem
    let asked (t : State) : Prop := t.get (fHeldCred c ch) = s.get (fHeldCred c ch) ∧
      (s.get (fPendCred c ch) = 0 → q.creqOut = false → 2 * s.get (fHeldCred c ch) < d.chunk → 0 < q.remain →
        t.get (fPendCred c ch) = min d.chunk q.remain ∧ (t.chan c ch).remain = q.remain - min d.chunk q.remain) ∧
      (0 < s.get (fPendCred c ch) ∨ q.creqOut = true ∨ d.chunk ≤ 2 * s.get (fHeldCred c ch) ∨ q.remain = 0 →
        t.get (fPendCred c ch) = s.get (fPendCred c ch) ∧ (t.chan c ch).remain = q.remain ∧ t.fab = s.fab)
    (d.isStream = false →
      (s.ownPal c d.src = false → s.slotFree c ch true = true → Completes (.dmaPacketForm c ch) s (fun t =>
        (t.chan c ch).pos = q.pos + n ∧ (t.chan c ch).reads = q.reads + 1 ∧ t.mem = s.mem ∧
        t.fab.inject = s.fab.inject ++
          [{ core := c, ch := ch, dl := q.deadline, pk := request, use := some (.dmaRead c ch (dst - palBase c) n) }])) ∧
      (s.ownPal c d.src = true → Completes (.dmaPacketForm c ch) s (fun t => begun t ∧ t.fab = s.fab)) ∧
      (s.ownPal c d.src = false → s.slotFree c ch true = false → Completes (.dmaPacketForm c ch) s (fun t =>
        t.chan c ch = q ∧ t.mem = s.mem ∧ t.fab = s.fab))) ∧
    (d.isStream = true → s.ownPal c d.src = true →
      (n ≤ s.credited c ch → Completes (.dmaPacketForm c ch) s (fun t => begun t ∧ asked t)) ∧
      (s.credited c ch < n → Completes (.dmaPacketForm c ch) s (fun t => (t.chan c ch).pos = q.pos ∧ (t.chan c ch).part = none ∧
        t.get (fChState c ch) = 2 ∧ t.mem = s.mem ∧ asked t)))) ∧
  (∀ (s : State) (c ch : Fin 8) (d : DmaDesc) (p : DmaPart), (s.chan c ch).cur = some d → (s.chan c ch).part = some p →
    let a := p.src + p.data.length
    let n := min (p.len - p.data.length) (64 - a % 64)
    let data := p.data ++ s.palBytes c a n
    let pk : Packet := { dst := gNode d.dst, nbytes := p.len, ten := d.ten, addr := p.dst, data := data }
    let t := s.chanBeat c ch
    p.data.length < p.len → (s.palCheck (d.who s) false false c a n).2 = 0 → (s.palRead c a n 3 d.step d.attempt).2.2 = false →
    let writes := (s.chan c ch).writes + (if p.data = [] then 1 else 0)
    (p.data.length + n < p.len →
      t.chan c ch = { s.chan c ch with part := some { p with data := data }, writes := writes } ∧ t.mem = s.mem ∧ t.fab = s.fab) ∧
    (p.data.length + n = p.len → (t.chan c ch).writes = writes ∧
      (s.ownPal c d.dst = true → t.mem = s.mem ∧ t.fab = s.fab ∧ (t.chan c ch).part = none ∧
        (t.core c).dma.land = (s.core c).dma.land ++
          [{ ch := ch, read := false, addr := p.dst - palBase c, data := data, len := p.len }]) ∧
      (s.ownPal c d.dst = false → d.isStream = false → t.mem = s.mem ∧ (t.chan c ch).part = none ∧
        t.fab.inject = s.fab.inject ++ [{ core := c, ch := ch, dl := (s.chan c ch).deadline, pk := { pk with kind := 1, issuer := c },
                                          use := some (.dmaWrite c ch p.len 0) }]) ∧
      (s.ownPal c d.dst = false → d.isStream = true → (s.chan c ch).frac < 32 → t.mem = s.mem ∧ (t.chan c ch).part = none ∧
        (t.chan c ch).paid = (s.chan c ch).paid - p.len ∧
        32 * t.get (fHeldCred c ch) + (t.chan c ch).frac =
          32 * s.get (fHeldCred c ch) + (s.chan c ch).frac - (p.len - (s.chan c ch).paid) ∧ (t.chan c ch).frac < 32 ∧
        t.fab.inject = s.fab.inject ++
          [{ core := c, ch := ch, dl := (s.chan c ch).deadline, pk := { pk with tc := 1, kind := 0 }, use := none }]))) ∧
  (∀ (s : State) (c ch : Fin 8) (d : DmaDesc) (x : DmaLand), x.ch = ch → (s.chan c ch).cur = some d →
    nextLand (s.core c).dma.land = some x →
    let n := min x.data.length (64 - x.addr % 64)
    let t := s.landBeat c
    (s.palCheck (d.who s) false true c x.addr n).2 = 0 →
    t.mem = (s.palPut c x.addr (x.data.take n)).mem ∧ t.fab = s.fab ∧
    (n < x.data.length → t.chan c ch = s.chan c ch ∧
      (t.core c).dma.land = (s.core c).dma.land.replace x { x with addr := x.addr + n, data := x.data.drop n }) ∧
    (n = x.data.length → (t.core c).dma.land = (s.core c).dma.land.erase x ∧
      (t.chan c ch).reads = (s.chan c ch).reads - (if x.read then 1 else 0) ∧
      (t.chan c ch).writes = (s.chan c ch).writes - (if x.read then 0 else 1) ∧
      t.reg (aChBytes c ch) = BitVec.ofNat 32 (min ((s.chan c ch).moved + x.len) 0xFFFFFFFF))) ∧
  (∀ (s : State) (c ch o : Fin 8), s.highBeat c = some ch.val → s.ordBeat c = some o.val → s.get (fChState c o) ≠ 3 →
    (s.preempt c).get (fChState c o) = 3 ∧ (s.preempt c).chan c o = s.chan c o ∧
    ((s.preempt c).reg (dmaReg c 0x40C)).toNat =
      min 0xFFFFFFFF ((s.reg (dmaReg c 0x40C)).toNat + (if (s.chan c o).part.any (fun p => !p.data.isEmpty) then 1 else 0))) ∧
  (∀ (c ch : Fin 8) (s : State), s.running →
    (∀ d : DmaDesc, (s.chan c ch).cur = some d → ∀ r : Resend,
      (s.chan c ch).resends.find? (fun r => decide (r.since + 100 * us ≤ s.now)) = some r →
      let pk : Packet :=
        { dst := r.node, kind := 1, nbytes := r.data.length, issuer := c, ten := d.ten, addr := r.addr, data := r.data }
      Completes (.bulkResend c ch) s (fun t => t.chan c ch = { s.chan c ch with resends := (s.chan c ch).resends.erase r } ∧
        t.fab.inject = s.fab.inject ++ [{ core := c, ch := ch, dl := (s.chan c ch).deadline, pk := pk,
                                          use := some (.dmaWrite c ch r.data.length r.tries) }] ∧
        t.mem = s.mem ∧ t.get (fChState c ch) = s.get (fChState c ch))) ∧
    ((∀ r ∈ (s.chan c ch).resends, s.now < r.since + 100 * us) → exec (.bulkResend c ch) s = .next s) ∧
    (∀ (x : Txn) (n tries : Nat), x.use = .dmaWrite c ch n tries →
      (tries < 3 → ((s.txnFailed x 4).chan c ch).resends = (s.chan c ch).resends ++
        [{ node := x.pk.dst, addr := x.pk.addr, data := x.pk.data.take n, tries := tries + 1, since := s.now }]) ∧
      (3 ≤ tries → ∀ d, (s.chan c ch).cur = some d →
        (s.txnFailed x 4).reg (dmaReg c (0x20 * ch.val + 0xC)) = BitVec.ofNat 32 (0x0A + 256 * 4 + 65536 * d.id))))

/-- R204, R205: a GO to a BUSY slot is ignored; KIND 3 or BYTES out of range end at once with local fault 0x03, an address that the
slot may not name with 0x02; any other note leaves its slot BUSY and waits for its beat behind the earlier ones. At its beat a local
note writes its bytes and is DONE, or meets local fault 0x08; a WRITE_BULK or MSG goes to the injection stage. -/
def Obligations.Notes : Prop :=
  (∀ (c : Fin 8) (sl : Fin 4) (ten : Fin 8) (s : State), s.gateOpen c →
    let stat := aNoteStat c sl
    let ctl := (s.reg (dmaReg c (0x208 + 0x80 * sl.val))).toNat
    let n := ctl % 128
    let a := s.reg64 (dmaReg c (0x200 + 0x80 * sl.val))
    let data := ((List.range 16).flatMap (fun i => leBytes 4 (s.reg (dmaReg c (0x240 + 0x80 * sl.val + 4 * i))).toNat)).take n
    let pk : Packet :=
      { dst := gNode a, kind := if bits ctl 7 2 = 1 then 1 else 3, nbytes := n, issuer := c, ten := ten, addr := gLocal a, data := data }
    ((s.reg stat).toNat % 4 = 1 → exec (.dmaNoteGo c sl ten) s = .next (s.event (aDmaEvt c) 0x100000)) ∧
    ((s.reg stat).toNat % 4 ≠ 1 →
      (bits ctl 7 2 = 3 ∨ n < 4 ∨ 64 < n ∨ n % 4 ≠ 0 → Completes (.dmaNoteGo c sl ten) s (fun t =>
        t.reg stat = 0x8303#32 ∧ (t.reg (aDmaEvt c)).getLsbD (16 + sl.val) = true ∧ t.mem = s.mem)) ∧
      (4 ≤ n → n ≤ 64 → n % 4 = 0 → bits ctl 7 2 ≠ 3 → gMid a ≠ 0 ∨ (bits ctl 7 2 = 0 ∧ s.ownPal c a = false) →
        Completes (.dmaNoteGo c sl ten) s (fun t => t.reg stat = 0x8203#32 ∧ (t.reg (aDmaEvt c)).getLsbD (16 + sl.val) = true ∧
          t.mem = s.mem)) ∧
      (4 ≤ n → n ≤ 64 → n % 4 = 0 → bits ctl 7 2 ≠ 3 → gMid a = 0 → (bits ctl 7 2 = 0 → s.ownPal c a = true) →
        Completes (.dmaNoteGo c sl ten) s (fun t => t.reg stat = 1#32 ∧ t.mem = s.mem ∧
          (t.core c).dma.notes = (s.core c).dma.notes ++ [{ slot := sl, pk := pk, local_ := decide (bits ctl 7 2 = 0) }])))) ∧
  (∀ (c : Fin 8) (sl : Fin 4) (x : DmaNote) (rest : List DmaNote) (s : State), (s.core c).dma.notes = x :: rest → x.slot = sl.val →
    s.highBeat c = none → s.slotFree c 0 false = true →
    let t := s.dmaBeat c
    let f := (s.palCheck { ten := x.pk.ten, src := s.node } false true c (x.pk.addr - palBase c) x.pk.nbytes).2
    (t.core c).dma.notes = rest ∧
    (x.local_ = true → f = 0 → t.reg (aNoteStat c sl) = 2#32 ∧ t.mem = (s.palPut c (x.pk.addr - palBase c) x.pk.data).mem ∧
      (t.reg (aDmaEvt c)).getLsbD (16 + sl.val) = true) ∧
    (x.local_ = true → f ≠ 0 → t.reg (aNoteStat c sl) = 0x8803#32 ∧ t.mem = s.mem) ∧
    (x.local_ = false → t.mem = s.mem ∧ t.reg (aNoteStat c sl) = s.reg (aNoteStat c sl) ∧
      t.fab.inject = s.fab.inject ++ [{ core := c, ch := 8 + sl.val, dl := none, pk := x.pk, use := some (.note c sl) }]))

/-- R216, R217, R225, R227, R229: GO, HALT, RERUN_GO and ABANDON of `SEQ_CTL`. Ended work advances no counter and leaves the
palette alone, which is the model's choice of log entry 24 for a tensor operation that has drained tiles. R228, R251: at the boundary of an armed switch the NEXT values become the list, ARM clears, SWITCHED is set and a
pass of the new list starts; a killed context stays killed; before its epoch nothing happens. R219, Table 7-8: issue past the last
entry and a reserved TYPE kill the context with codes 0x03 and 0x01, whichever step is tried; a step of another type than the next
one changes nothing. R222 to R225: the sequencer's own entries issue when their conditions hold and hold issue otherwise; a local SIGNAL
waits for those issued before it. -/
def Obligations.Sequencer : Prop :=
  (∀ (c : Fin 8) (s : State), s.gateOpen c →
    (s.get (fSeqState c) = 0 ∨ s.get (fSeqState c) = 5 →
      (s.listOk c = true → Completes (.seqGo c) s (fun t => t.get (fSeqState c) = 1 ∧ t.get (fSeqPc c) = (s.reg (seqReg c 0x14)).toNat % 65536 ∧
        (t.core c).seq.pass = s.tim.epoch ∧ (t.core c).seq.bases = (List.range 16).map (s.waitCount c) ∧ t.mem = s.mem)) ∧
      (s.listOk c = false → Completes (.seqGo c) s (fun t => t.get (fSeqState c) = 5 ∧
        t.reg (seqReg c 0x50) = BitVec.ofNat 32 (4 + 65536 * ((s.reg (seqReg c 0x14)).toNat % 65536)) ∧ t.mem = s.mem))) ∧
    (1 ≤ s.get (fSeqState c) → s.get (fSeqState c) ≤ 4 → exec (.seqGo c) s = .next s) ∧
    Completes (.seqHalt c) s (fun t => t.get (fSeqState c) = 0 ∧ (t.core c).seq.tensor = [] ∧ (t.core c).tg.launches = [] ∧
      (∀ ch : Fin 8, t.chan c ch = {}) ∧ (∀ k : Fin 8, t.reg (seqReg c (0x30 + 4 * k.val)) = s.reg (seqReg c (0x30 + 4 * k.val))) ∧
      t.mem = s.mem) ∧
    Completes (.rerunGo c) s (fun t =>
      (t.core c).seq = { (s.core c).seq with reruns := (s.core c).seq.reruns.map (fun (r : Rerun) => { r with refetch := false }) } ∧
      ((∀ r ∈ (s.core c).seq.reruns, r.refetch = true → r.line = none) → t.mem = s.mem)) ∧
    (1 ≤ s.get (fSeqState c) → s.get (fSeqState c) ≤ 4 → Completes (.seqAbandon c) s (fun t => t.get (fSeqState c) = 6 ∧
      (t.core c).seq.tensor = [] ∧ (t.core c).tg.launches = [] ∧ (∀ ch : Fin 8, t.chan c ch = {}) ∧
      (∀ k : Fin 8, t.reg (seqReg c (0x30 + 4 * k.val)) = s.reg (seqReg c (0x30 + 4 * k.val))) ∧ t.mem = s.mem))) ∧
  (∀ (c : Fin 8) (s : State), s.running →
    (∀ n : Nat, (s.core c).seq.switchAt = some n → s.get (fSeqArm c) = 1 →
      (n ≤ s.tim.epoch → Completes (.planSwitch c) s (fun t => t.reg (seqReg c 0xC) = s.reg (seqReg c 0x18) ∧
        t.reg (seqReg c 0x10) = s.reg (seqReg c 0x1C) ∧ t.reg (seqReg c 0x14) = s.reg (seqReg c 0x20) ∧ t.get (fSeqArm c) = 0 ∧
        (t.reg (aSeqEvt c)).getLsbD 3 = true ∧ (t.core c).seq.switchAt = none ∧ (t.core c).seq.tensor = [] ∧ t.mem = s.mem ∧
        (s.get (fSeqState c) = 5 → t.get (fSeqState c) = 5) ∧
        (s.get (fSeqState c) ≠ 5 → 0 < (s.reg (seqReg c 0x1C)).toNat → (s.reg (seqReg c 0x18)).toNat % 64 = 0 →
          s.inOneRegion (s.coreWho c) c (s.reg (seqReg c 0x18)).toNat (64 * (s.reg (seqReg c 0x1C)).toNat) false false = true →
          t.get (fSeqState c) = 1 ∧ t.get (fSeqPc c) = (s.reg (seqReg c 0x20)).toNat % 65536 ∧ (t.core c).seq.pass = n))) ∧
      (s.tim.epoch < n → exec (.planSwitch c) s = .next s)) ∧
    (s.get (fSeqArm c) = 0 → exec (.planSwitch c) s = .next s)) ∧
  (∀ (c : Fin 8) (s : State), s.running → s.issuing c = true → ∀ i ∈
    ([.tensor c, .dmaStep c, .tgLaunch c, .waitStep c, .barrier c, .signal c, .creditWait c, .creditRel c, .epochEnd c, .test c] : List Instr),
    let pc := s.get (fSeqPc c)
    ((s.reg (seqReg c 0x10)).toNat ≤ pc → Completes i s (fun t => t.get (fSeqState c) = 5 ∧
      t.reg (seqReg c 0x50) = BitVec.ofNat 32 (3 + 65536 * pc))) ∧
    (pc < (s.reg (seqReg c 0x10)).toNat → (s.palCheck (s.coreWho c) false false c (s.stepAddr c pc) 64).2 = 0 →
      (s.palRead c (s.stepAddr c pc) 64 5 0 0).2.2 = false → word (s.stepWords c pc) 0 % 256 = 0 ∨ 10 < word (s.stepWords c pc) 0 % 256 →
      Completes i s (fun t => t.get (fSeqState c) = 5 ∧ t.reg (seqReg c 0x50) = BitVec.ofNat 32 (1 + 65536 * pc)))) ∧
  (∀ s : State, s.running → ∀ (c : Fin 8) (ws : List Nat),
    let pc := s.get (fSeqPc c)
    let issued (t : State) : Prop := t.get (fSeqPc c) = (pc + 1) % 65536 ∧ t.get (fSeqState c) = 1
    let holds (t : State) : Prop := t.get (fSeqPc c) = pc ∧ t.get (fSeqState c) = 2 ∧ t.mem = s.mem
    (s.nextStep c 4 ws →
      let ok := reached (s.waitCount c (bits (word ws 0) 8 4)) ((s.core c).seq.bases.getD (bits (word ws 0) 8 4) 0 + word ws 1) = true ∧
        (bit (word ws 0) 12 = true → (s.reg (dmaReg c 0x408)).toNat % 2 = 1)
      (ok → Completes (.waitStep c) s (fun t => issued t ∧ t.mem = s.mem)) ∧ (¬ ok → Completes (.waitStep c) s holds)) ∧
    (s.nextStep c 5 ws → ∀ i ∈ (if s.get (fSeqState c) = 2 then [.barrier c, .barrierReread c] else [.barrier c] : List Instr),
      ((s.palCheck (s.coreWho c) false false c (word ws 3) 4).2 ≠ 0 → Completes i s (fun t => t.get (fSeqState c) = 5 ∧
        t.reg (seqReg c 0x50) = BitVec.ofNat 32 (5 + 65536 * pc))) ∧
      ((s.palCheck (s.coreWho c) false false c (word ws 3) 4).2 = 0 → (s.palRead c (word ws 3) 4 5 0 0).2.2 = false →
        let ok := reached (leNat (s.palBytes c (word ws 3) 4)) (s.passValue c (word ws 1) (word ws 2)) = true
        (ok → Completes i s (fun t => issued t ∧ t.mem = s.mem)) ∧ (¬ ok → Completes i s holds))) ∧
    (s.nextStep c 6 ws →
      let a := word ws 3 + 4294967296 * word ws 4
      a % 4 = 0 → gMid a = 0 →
      (bit (word ws 0) 8 = false → s.ownPal c a = true → (s.palCheck (s.coreWho c) false true c (gLocal a - palBase c) 4).2 = 0 →
        ((s.core c).seq.signals = [] → Completes (.signal c) s (fun t => issued t ∧
          t.mem = (s.palPut c (gLocal a - palBase c) (leBytes 4 (s.passValue c (word ws 1) (word ws 2)))).mem)) ∧
        ((s.core c).seq.signals ≠ [] → Completes (.signal c) s (fun t => issued t ∧ t.mem = s.mem ∧
          (t.core c).seq.signals = (s.core c).seq.signals ++ [pc] ∧ (t.core c).seq.locals = (s.core c).seq.locals ++
            [{ step := pc, addr := a, data := leBytes 4 (s.passValue c (word ws 1) (word ws 2)) }]))) ∧
      (bit (word ws 0) 8 = true → Completes (.signal c) s (fun t => issued t ∧ t.mem = s.mem ∧
        (t.core c).seq.signals = (s.core c).seq.signals ++ [pc]))) ∧
    (s.nextStep c 7 ws →
      let ok := (s.chan c (bits (word ws 0) 8 3)).hasDesc DmaDesc.isStream = false ∨ word ws 1 ≤ s.get (fHeldCred c (bits (word ws 0) 8 3))
      (ok → Completes (.creditWait c) s (fun t => issued t ∧ t.mem = s.mem)) ∧ (¬ ok → Completes (.creditWait c) s holds)) ∧
    (s.nextStep c 8 ws →
      let w := bits (word ws 0) 8 4
      (s.winOpen c w = true → word ws 1 ≤ s.winHeld c w →
        Completes (.creditRel c) s (fun t => issued t ∧ t.reg (aWin c w 3) = s.reg (aWin c w 3) + BitVec.ofNat 32 (word ws 1))) ∧
      (s.winOpen c w = false → Completes (.creditRel c) s (fun t => t.get (fSeqState c) = 5 ∧
        t.reg (seqReg c 0x50) = BitVec.ofNat 32 (5 + 65536 * pc)))) ∧
    (s.nextStep c 9 ws →
      (s.inFlight c = true → Completes (.epochEnd c) s holds) ∧
      (s.inFlight c = false → (s.core c).seq.boundary = false → Completes (.epochEnd c) s (fun t =>
        t.get (fSeqState c) = 3 ∧ (t.core c).seq.atEnd = true ∧ t.mem = s.mem)) ∧
      (s.inFlight c = false → (s.core c).seq.boundary = true → s.listOk c = true → Completes (.epochEnd c) s (fun t =>
        t.get (fSeqState c) = 1 ∧ t.get (fSeqPc c) = (s.reg (seqReg c 0x14)).toNat % 65536 ∧ (t.core c).seq.pass = s.tim.epoch ∧
        (t.core c).seq.bases = (List.range 16).map (s.waitCount c)))))

/-- R232, R248: a TENSOR step waits for its arrays, kills the context with the first failing check of Table 7-7, and otherwise
runs on behind the next step. R221, R237, R242, R245: an integer operation that leaves its sums in the accumulator completes with
each tile's entries at the sum of the exact products of its operands modulo 2^32, the palette unchanged and its step counter risen
by one. R221, Table 7-9: an operation that can still read its operands completes, drained or not: its step counter and the
operation count rise, and it is in flight no longer. R229, R230, R248: a fault at a beat kills the context with code 0x10; a
poisoned operand aborts the step without a count, and an operation with ACC_IN is never run again; re-runs wait for RERUN_GO and
issue the same steps with their next attempts, the first to abort first. -/
def Obligations.TensorUnit : Prop :=
  (∀ s : State, s.running → ∀ (c : Fin 8) (ws : List Nat), s.nextStep c 1 ws →
    let pc := s.get (fSeqPc c)
    (s.tensorFree c ws = false → Completes (.tensor c) s (fun t => t.get (fSeqPc c) = pc ∧ t.get (fSeqState c) = 2 ∧ t.mem = s.mem ∧
      (t.core c).seq.tensor = (s.core c).seq.tensor)) ∧
    (s.tensorFree c ws = true → s.tensorCheck c ws ≠ 0 → Completes (.tensor c) s (fun t => t.get (fSeqState c) = 5 ∧
      t.reg (seqReg c 0x50) = BitVec.ofNat 32 (s.tensorCheck c ws + 256 + 65536 * pc) ∧
      t.reg (tnsReg c 4) = BitVec.ofNat 32 (s.tensorCheck c ws + 65536 * (tdescOf ws).id) ∧ t.mem = s.mem)) ∧
    (s.tensorFree c ws = true → s.tensorCheck c ws = 0 → Completes (.tensor c) s (fun t => t.get (fSeqPc c) = (pc + 1) % 65536 ∧
      t.get (fSeqState c) = 1 ∧ t.mem = s.mem ∧ ∃ r : TensorRun, (t.core c).seq.tensor = (s.core c).seq.tensor ++ [r] ∧ r.words = ws ∧
        r.step = pc ∧ r.arrays = (tdescOf ws).arr ∧ r.test = false))) ∧
  (∀ s : State, s.running → ∀ (c : Fin 8) (st : Nat) (r : TensorRun), s.tensorRun c st = some r → s.mem.parityOk = true → r.tiles = 0 → r.buf = none →
    let t := tdescOf r.words
    t.drain = false → t.accIn = false → t.accFp = false → (t.ws = true → pairOk t.fa t.fb false = true) →
    (∀ sp ∈ t.reads, sp.2 = 0 ∨ (s.palCheck (s.coreWho c) true false c sp.1 sp.2).2 = 0) →
    Completes (.tensorComplete c st) s (fun u =>
      (∀ i < t.tiles, ∀ o ∈ t.outputs (t.tilePos i),
        tblGet wordZero u.mem.acc (accKey c (t.accBase + i) o.1 o.2) = BitVec.ofInt 32 ((List.range t.kLen).map (fun k =>
          (s.valA c t (t.tilePos i) (16 * (t.tilePos i).xb + o.1) (16 * (t.tilePos i).j + o.2) k).int *
            (s.valB c t (t.tilePos i) o.2 k).int)).sum) ∧
      u.mem.pal = s.mem.pal ∧ u.reg (seqReg c (0x30 + 4 * t.cnt)) = s.reg (seqReg c (0x30 + 4 * t.cnt)) + 1#32 ∧
      (u.reg (tnsReg c 8)).toNat = min 0xFFFFFFFF ((s.reg (tnsReg c 8)).toNat + 1) ∧ (u.core c).seq.tensor = (s.core c).seq.tensor.erase r)) ∧
  (∀ s : State, s.running → ∀ (c : Fin 8) (st : Nat) (r : TensorRun), s.tensorRun c st = some r → s.mem.parityOk = true →
    let t := tdescOf r.words
    (t.usesSlot = true → (s.sfuSlot c t.slot).ready = true ∧ (s.sfuSlot c t.slot).badPar = []) →
    (∀ sp ∈ t.reads, sp.2 = 0 ∨ (s.palCheck (s.coreWho c) true false c sp.1 sp.2).2 = 0) →
    (t.drain = true → t.spanC.2 = 0 ∨ (s.palCheck (s.coreWho c) true true c t.spanC.1 t.spanC.2).2 = 0) →
    Completes (.tensorComplete c st) s (fun u =>
      u.reg (seqReg c (0x30 + 4 * t.cnt)) = s.reg (seqReg c (0x30 + 4 * t.cnt)) + 1#32 ∧
      (u.reg (tnsReg c 8)).toNat = min 0xFFFFFFFF ((s.reg (tnsReg c 8)).toNat + 1) ∧
      (u.core c).seq.tensor = (s.core c).seq.tensor.erase r ∧ u.get (fSeqState c) = s.get (fSeqState c))) ∧
  (∀ s : State, s.running → ∀ (c : Fin 8) (st : Nat),
    (∀ r : TensorRun, s.tensorRun c st = some r →
      Completes (.tensorOperandFault c st 0x10) s (fun t => t.get (fSeqState c) = 5 ∧
        t.reg (seqReg c 0x50) = BitVec.ofNat 32 (0x10 + 256 + 65536 * (r.step % 65536)) ∧
        t.reg (tnsReg c 4) = BitVec.ofNat 32 (0x10 + 65536 * (tdescOf r.words).id)) ∧
      Completes (.tensorOperandFault c st 0x11) s (fun t => t.reg (tnsReg c 4) = BitVec.ofNat 32 (0x11 + 65536 * (tdescOf r.words).id) ∧
        (t.reg (aSeqEvt c)).getLsbD 1 = true ∧ ((tdescOf r.words).accIn = true → t.get (fSeqState c) = 6) ∧
        (t.get (fSeqState c) = 4 ∨ t.get (fSeqState c) = 6) ∧
        ∀ k : Fin 8, t.reg (seqReg c (0x30 + 4 * k.val)) = s.reg (seqReg c (0x30 + 4 * k.val)))) ∧
    (s.tensorRun c st = none → ∀ code : Nat, exec (.tensorOperandFault c st code) s = .next s) ∧
    ((∀ r ∈ (s.core c).seq.reruns, r.refetch = true) → exec (.rerunIssue c) s = .next s) ∧
    (∀ r : Rerun, (s.core c).seq.reruns.find? (fun x => !x.refetch) = some r →
      (s.get (fSeqState c) ≠ 4 → exec (.rerunIssue c) s = .next s) ∧
      (s.get (fSeqState c) = 4 → r.step ≠ s.get (fSeqPc c) → (s.palCheck (s.coreWho c) false false c (s.stepAddr c r.step) 64).2 = 0 →
        (s.palRead c (s.stepAddr c r.step) 64 5 0 0).2.2 = false → word (s.stepWords c r.step) 0 % 256 = 1 →
        s.tensorFree c (s.stepWords c r.step) = true → s.tensorCheck c (s.stepWords c r.step) = 0 →
        Completes (.rerunIssue c) s (fun t => t.get (fSeqState c) = (if (s.core c).seq.reruns.erase r = [] then 1 else 4) ∧
          (t.core c).seq.reruns = (s.core c).seq.reruns.erase r ∧ t.get (fSeqPc c) = s.get (fSeqPc c) ∧
          t.mem = s.mem ∧ ∃ x : TensorRun, (t.core c).seq.tensor = (s.core c).seq.tensor ++ [x] ∧ x.step = r.step ∧ x.attempt = r.attempt))))

/-- R622, R623, R221: TEST steps wait for their arrays and count; a vector set that has run is remembered; a mismatch raises code
0x0D; sets are forced after 30 ms and overdue after 40 ms. -/
def Obligations.ArraySelfTest : Prop :=
  ∀ (c : Fin 8) (s : State), s.running →
    (∀ ws : List Nat, s.nextStep c 10 ws →
      (s.arraysBusy c &&& bits (word ws 0) 8 4 ≠ 0 → Completes (.test c) s (fun t => t.get (fSeqPc c) = s.get (fSeqPc c) ∧ t.get (fSeqState c) = 2)) ∧
      (s.arraysBusy c &&& bits (word ws 0) 8 4 = 0 → Completes (.test c) s (fun t => t.get (fSeqPc c) = (s.get (fSeqPc c) + 1) % 65536 ∧
        ∃ r : TensorRun, (t.core c).seq.tensor = (s.core c).seq.tensor ++ [r] ∧ r.test = true ∧ r.arrays = bits (word ws 0) 8 4))) ∧
    (∀ (st : Nat) (r : TensorRun) (pass : Bool), (s.core c).seq.tensor.find? (fun t => t.test && t.step = st) = some r →
      Completes (.testComplete c st pass) s (fun t => (t.core c).seq.tensor = (s.core c).seq.tensor.erase r ∧
        t.reg (seqReg c (0x30 + 4 * bits (word r.words 0) 24 3)) = s.reg (seqReg c (0x30 + 4 * bits (word r.words 0) 24 3)) + 1#32 ∧
        (pass = false → r.arrays % 16 ≠ 0 → (t.reg (aSeqEvt c)).getLsbD 4 = true ∧ (0x0D, c.val) ∈ t.saf.events) ∧
        (pass = true → t.saf.events = s.saf.events) ∧ t.mem = s.mem)) ∧
    (∀ (a : Fin 4) (st : Fin 16) (pass : Bool),
      let key := (c.val * 4 + a.val) * 16 + st.val
      let last := tblGet (fun _ => 0) s.saf.setRun key
      (bit (s.arraysBusy c) a = false → Completes (.selfTestSetRun c a st pass) s (fun t => tblGet (fun _ => 0) t.saf.setRun key = s.ctNs ∧
        t.saf.events = s.saf.events ++ (if pass then [] else [(0x0D, c.val)]))) ∧
      (bit (s.arraysBusy c) a = true → exec (.selfTestSetRun c a st pass) s = .next s) ∧
      (bit (s.reg 0x23000008).toNat c = true → bit (s.arraysBusy c) a = false → last + 30000000 ≤ s.ctNs →
        Completes (.selfTestForce c a st pass) s (fun t => (t.reg 0x240000A4).toNat = min 0xFFFFFFFF ((s.reg 0x240000A4).toNat + 1) ∧
          tblGet (fun _ => 0) t.saf.setRun key = s.ctNs)) ∧
      (s.ctNs < last + 30000000 → exec (.selfTestForce c a st pass) s = .next s) ∧
      (bit (s.reg 0x23000008).toNat c = true → (s.reg 0x24000030).getLsbD 9 = true → last + 40000000 ≤ s.ctNs →
        Completes (.selfTestOverdue c a st) s (fun t => (t.reg (aStCore c)).getLsbD 17 = true ∧ t.saf.events = s.saf.events ++ [(0x0D, c.val)])) ∧
      (s.ctNs < last + 40000000 → exec (.selfTestOverdue c a st) s = .next s))

/-- R253, R258, R266, R267: in every floating format each pattern that is no NaN is written back as itself, subnormal values and
the sign of zero included, and every NaN as the canonical one; so is every LOG12 code (R257). R263, R264: a rounding is to the
nearest, ties to even; a conversion never makes an infinity or a NaN of a finite value, keeps its sign, and an integer result
stays within its range. R259, R269: the exponent code of a block of finite FP32 values is at most 254 and its mantissas lie in
-127 to 127; a block of zeros has exponent code 0 and zero mantissas. -/
def Obligations.NumberFormats : Prop :=
  ((∀ f ∈ [e4m3, e5m2, fp16, bf16, fp32], ∀ w < 2 ^ (1 + f.eb + f.mb), ∀ sat : Bool,
    f.encode sat (f.decode w) = if f.decode w = .nan then f.nan else w) ∧
  (∀ c < 4096, toLog12 (ofLog12 c) = c)) ∧
  ((∀ m n : Nat, 0 < n →
    2 * rneShift m n * 2 ^ n ≤ 2 * m + 2 ^ n ∧ 2 * m ≤ 2 * rneShift m n * 2 ^ n + 2 ^ n ∧
    (2 * rneShift m n * 2 ^ n = 2 * m + 2 ^ n ∨ 2 * m = 2 * rneShift m n * 2 ^ n + 2 ^ n → rneShift m n % 2 = 0)) ∧
  (∀ f ∈ [e4m3, e5m2, fp16, bf16, fp32], ∀ (neg : Bool) (m : Nat) (e : Int), ∃ (k : Nat) (g : Int),
    f.decode (f.encode true (.fin neg m e)) = .fin neg k g) ∧
  (∀ (lo hi : Int) (neg : Bool) (m : Nat) (e : Int), lo ≤ hi →
    lo ≤ (FVal.fin neg m e).toInt lo hi ∧ (FVal.fin neg m e).toInt lo hi ≤ hi ∧ (FVal.inf neg).toInt lo hi = if neg then lo else hi)) ∧
  (∀ ws : List Nat, ws.length = 16 → (∀ w ∈ ws, isFin w = true) →
    let b := toBs8 (ws.map f32)
    b.1 ≤ 254 ∧ b.2.length = 16 ∧ (∀ q ∈ b.2, q < 256 ∧ -127 ≤ signed 8 q ∧ signed 8 q ≤ 127) ∧
    ((∀ w ∈ ws, w % 2147483648 = 0) → b.1 = 0 ∧ ∀ q ∈ b.2, q = 0))

/-- R277 to R279: which segment of a UNIFORM table an input falls in, and what a NaN and inputs outside the domain give. R287 to
R289: merging with an empty accumulator changes nothing but K, counts add up and saturate, BAD spreads, and 32 inactive lanes
leave an accumulator as it was. -/
def Obligations.SpecialFunctions : Prop :=
  (∀ (k : SfuSlot) (x : Nat), x < 4294967296 →
    let h := k.head
    let lo := f32 (word h 1)
    let w := signed 8 (word h 2)
    let nseg := word h 0 % 128
    (f32 x = .nan → sfuTable k x = fp32.nan) ∧
    (bits (word h 0) 7 2 = 0 → isFin (word h 1) = true → f32 x ≠ .nan →
      ((f32 x).lt lo = true → sfuTable k x = sfuLine (word h 3) (word h 4) x) ∧
      ((f32 x).lt lo = false → (f32 x).lt (lo.add (finOf false nseg w)) = false → sfuTable k x = sfuLine (word h 5) (word h 6) x) ∧
      (∀ i < nseg, (f32 x).lt (lo.add (finOf false i w)) = false → (f32 x).lt (lo.add (finOf false (i + 1) w)) = true →
        ∃ t : Nat, sfuPlace h x = .seg i t ∧ sfuTable k x =
          ffma (ffma (ffma (word k.coefs (4 * i + 3)) t (word k.coefs (4 * i + 2))) t (word k.coefs (4 * i + 1))) t (word k.coefs (4 * i)))) ∧
    (∀ a b : Nat, (f32 b).eq (.fin false 0 0) = true → sfuLine a b x = a) ∧
    (∀ a b : Nat, (f32 b).eq (.fin false 0 0) = false → sfuLine a b x = ffma b x a)) ∧
  (∀ a b : RowAcc,
    (a.n = 0 → rowMerge a b = { b with k := a.k }) ∧ (b.n = 0 → a.n ≠ 0 → rowMerge a b = a) ∧
    (a.n < 4294967296 → b.n < 4294967296 → (rowMerge a b).n = min 0xFFFFFFFF (a.n + b.n)) ∧
    (a.n ≠ 0 → b.n ≠ 0 → (rowMerge a b).bad = (a.bad || b.bad)) ∧
    (∀ k : Nat, rowMerge a (rowTree (List.replicate 32 ({ k := k } : RowAcc))) = if a.n = 0 then { ({ k := k } : RowAcc) with k := a.k } else a))

/-- R283 to R285, R291, R293, Table 9-3: a GO to a READY slot or during a load fails with cause 0x01; UNLOAD empties the slot; a
load ends with the slot READY and its signature kept, or with the first failing cause and the slot as it was. R291: a self-test
pass starts 10 ms after the last start, is late after 20 ms, and ends counted; a mismatch raises code 0x0E. -/
def Obligations.SfuLoads : Prop :=
  (∀ (c : Fin 8) (slot : Fin 16) (s : State),
    (s.gateOpen c →
      ((s.sfuSlot c slot).ready = true ∨ (s.core c).sfu.loading.isSome = true → Completes (.sfuLoadGo c slot) s (fun t =>
        t.reg (sfuReg c 8) = BitVec.ofNat 32 (4 + 16 * slot.val + 256) ∧ (t.reg (aSfuEvt c)).getLsbD 1 = true ∧ t.cores = s.cores)) ∧
      ((s.sfuSlot c slot).ready = false → (s.core c).sfu.loading = none → Completes (.sfuLoadGo c slot) s (fun t =>
        (t.core c).sfu.loading = some slot.val ∧ t.reg (sfuReg c 8) = BitVec.ofNat 32 (1 + 16 * slot.val))) ∧
      Completes (.sfuUnload c slot) s (fun t => t.sfuSlot c slot = {} ∧ (t.reg (sfuReg c 0xC)).getLsbD slot.val = false ∧
        (∀ i : Fin 16, i ≠ slot → t.sfuSlot c i = s.sfuSlot c i ∧ (t.reg (sfuReg c 0xC)).getLsbD i.val = (s.reg (sfuReg c 0xC)).getLsbD i.val))) ∧
    (s.running → (s.core c).sfu.loading = none → exec (.sfuLoadEnd c) s = .next s) ∧
    (s.running → (s.core c).sfu.loading = some slot.val → s.mem.parityOk = true →
      let a := (s.reg (sfuReg c 0)).toNat
      let len := imageLen (words16 (s.palBytes c a 64))
      let bs := s.palBytes c a len
      let home := ∃ r : Fin 8, (s.rgn c r).en = true ∧ (s.rgn c r).tenant = 7 ∧ (s.rgn c r).base ≤ a ∧ a + len ≤ (s.rgn c r).base + (s.rgn c r).size
      let served := (s.palCheck s.firmware false false c a 64).2 = 0 ∧ (s.palCheck s.firmware false false c a len).2 = 0
      (¬ home ∨ ¬ served → Completes (.sfuLoadEnd c) s (fun t => t.reg (sfuReg c 8) = BitVec.ofNat 32 (4 + 16 * slot.val + 512) ∧
        (t.reg (aSfuEvt c)).getLsbD 1 = true ∧ (t.core c).sfu.loading = none ∧ t.sfuSlot c slot = s.sfuSlot c slot)) ∧
      (∀ cause index : Nat, home → served → imageCause (slotOf bs) (words16 (bs.take 64)) bs = some (cause, index) →
        Completes (.sfuLoadEnd c) s (fun t => t.reg (sfuReg c 8) = BitVec.ofNat 32 (4 + 16 * slot.val + 256 * cause + 65536 * (index % 65536)) ∧
          (t.reg (aSfuEvt c)).getLsbD 1 = true ∧ t.sfuSlot c slot = s.sfuSlot c slot)) ∧
      (home → served → imageCause (slotOf bs) (words16 (bs.take 64)) bs = none →
        Completes (.sfuLoadEnd c) s (fun t => t.sfuSlot c slot = slotOf bs ∧ (t.sfuSlot c slot).ready = true ∧
          (t.reg (sfuReg c 0xC)).getLsbD slot.val = true ∧ (t.reg (aSfuEvt c)).getLsbD 0 = true ∧
          t.reg (aSlot c slot 0x10) = sfuSig (slotOf bs) ∧ t.reg (sfuReg c 8) = BitVec.ofNat 32 (3 + 16 * slot.val) ∧ t.mem = s.mem)))) ∧
  (∀ (c : Fin 8) (slot : Fin 32) (s : State), s.running →
    ((s.core c).sfu.passAt = none → (s.core c).sfu.lastPass + 10 * ms ≤ s.now → Completes (.sfuSelfTestStart c) s (fun t =>
      (t.core c).sfu.passAt = some s.now ∧ (t.core c).sfu.slots = (s.core c).sfu.slots ∧ t.regs = s.regs)) ∧
    ((s.core c).sfu.passAt.isSome = true ∨ s.now < (s.core c).sfu.lastPass + 10 * ms → exec (.sfuSelfTestStart c) s = .next s) ∧
    (∀ x, (s.core c).sfu.passAt = some x →
      (x + 20 * ms ≤ s.now → Completes (.sfuSelfTestLate c) s (fun t => (t.core c).sfu.late = true ∧ t.regs = s.regs)) ∧
      (s.now < x + 20 * ms → exec (.sfuSelfTestLate c) s = .next s) ∧
      ∀ pass : Bool, Completes (.sfuSelfTestEnd c slot pass) s (fun t => (t.core c).sfu.passAt = none ∧
        (t.reg (sfuReg c 0x18)).toNat = min 0xFFFFFFFF ((s.reg (sfuReg c 0x18)).toNat + 1) ∧
        t.saf.events = s.saf.events ++ (if pass then [] else [(0x0E, c.val)]) ∧
        (pass = false → t.reg (sfuReg c 0x1C) = BitVec.ofNat 32 slot.val ∧ (t.reg (aSfuEvt c)).getLsbD 2 = true))))

/-- R298, R303, Table 10-5: a launch waits for its turn and its space, kills the context with the first failing check, or goes in
flight behind the next step with its parameter block read and the near cache empty. R299, R301: the next group of the earliest
waiting launch becomes resident in a free slot once its registers and granules are free, with its registers, lanes and divergence
state as R301 says; with GANG all groups become resident at once (R299). R302, R303, R319, R221: a launch whose groups have ended and whose notes have finished completes: its counter
rises, its shared window is free and the caches are empty. LIMIT kills the context with code 0x18, no sooner, and not a launch whose
completion conditions hold (R324). -/
def Obligations.Launches : Prop :=
  (∀ s : State, s.running → ∀ (c : Fin 8) (ws : List Nat), s.nextStep c 3 ws →
    let pc := s.get (fSeqPc c)
    let l : Launch := { step := pc, words := ws, param := [], attempt := (s.core c).seq.attempt pc }
    (s.launchTurn c l = false ∨ s.launchRoom c l = false → Completes (.tgLaunch c) s (fun t => t.get (fSeqPc c) = pc ∧
      t.get (fSeqState c) = 2 ∧ t.mem = s.mem ∧ (t.core c).tg = (s.core c).tg)) ∧
    (s.launchTurn c l = true → s.launchRoom c l = true → s.launchCheck c l ≠ 0 → Completes (.tgLaunch c) s (fun t => t.killed c 3 (s.launchCheck c l) pc ∧
      (t.reg (tgReg c 4)).toNat % 256 = s.launchCheck c l ∧ (t.reg (tgReg c 0x10)).getLsbD 0 = true)) ∧
    (s.launchTurn c l = true → s.launchRoom c l = true → s.launchCheck c l = 0 →
      (s.palCheck (s.coreWho c) false false c l.paramAt 64).2 ≠ 0 → Completes (.tgLaunch c) s (fun t => t.killed c 3 0x12 pc ∧
        (t.reg (tgReg c 4)).toNat % 256 = 0x12)) ∧
    (s.launchTurn c l = true → s.launchRoom c l = true → s.launchCheck c l = 0 →
      (s.palCheck (s.coreWho c) false false c l.paramAt 64).2 = 0 → (s.palRead c l.paramAt 64 6 0 0).2.2 = false →
      Completes (.tgLaunch c) s (fun t => t.get (fSeqPc c) = (pc + 1) % 65536 ∧ t.get (fSeqState c) = 1 ∧ (t.core c).tg.cache = [] ∧ (t.core c).tg.icache = [] ∧
        (t.core c).tg.split = l.split ∧ (t.core c).tg.groups = (s.core c).tg.groups ∧ t.mem.pal = s.mem.pal ∧ t.mem.rf = s.mem.rf ∧
        ∃ m : Launch, (t.core c).tg.launches = (s.core c).tg.launches ++ [m] ∧ m.words = ws ∧ m.step = pc ∧ m.next = 0 ∧ m.ended = 0 ∧
          m.param = words16 (s.palBytes c l.paramAt 64) ∧ m.shared.length = l.lsShr))) ∧
  (∀ s : State, s.running → ∀ (c : Fin 8) (g : Fin 32) (l : Launch), s.nextLaunch c = some l → l.gang = false → s.group c g = none →
    (l.vregs ≤ (s.freeVregs c).length → l.lsGrp ≤ (s.freeGranules c (s.core c).tg.split).length →
      Completes (.groupResident c g) s (fun t => s.sameMemory t ∧ ∃ x : Group, t.group c g = some x ∧ x.launch = l.step ∧ x.index = l.next ∧
        x.pc = l.code ∧ x.exist = l.lanes l.next ∧ x.ended = 0 ∧ x.stack = [] ∧ x.waiting = 0 ∧ x.p = [l.lanes l.next, 0, 0, 0, 0, 0, 0, 0] ∧
        (l.param.length = 16 → x.u.take 19 = l.param ++ [l.next, l.groups, l.threads]) ∧
        x.vbase.length = l.vregs ∧ x.grans.length = l.lsGrp ∧
        (∀ k < 32, 0 < l.vregs → tblGet wordZero t.mem.rf (rfKey c (x.vbase.getD 0 0) k) = BitVec.ofNat 32 (32 * l.next + k)) ∧
        (∀ i < l.vregs, 0 < i → ∀ k < 32, tblGet wordZero t.mem.rf (rfKey c (x.vbase.getD i 0) k) = 0#32))) ∧
    ((s.freeVregs c).length < l.vregs → exec (.groupResident c g) s = .next s)) ∧
  (∀ s : State, s.running → ∀ (c : Fin 8) (g : Fin 32) (l : Launch), s.nextLaunch c = some l → l.gang = true → s.group c g = none →
    (s.gangFree c l = false → exec (.groupResident c g) s = .next s) ∧
    (s.gangFree c l = true → s.launch c l.step = some l → Completes (.groupResident c g) s (fun t => s.sameMemory t ∧
      ∀ i < l.groups, ∃ (h : Fin 32) (x : Group), s.group c h = none ∧ t.group c h = some x ∧ x.launch = l.step ∧ x.index = i))) ∧
  (∀ s : State, s.running → ∀ (c : Fin 8) (st : Nat),
    (s.launch c st = none → exec (.launchComplete c st) s = .next s ∧ exec (.launchLimit c st) s = .next s) ∧
    (∀ l : Launch, s.launch c st = some l →
      (l.groups ≤ l.ended → l.notes = [] → Completes (.launchComplete c st) s (fun t =>
        t.reg (seqReg c (0x30 + 4 * l.cnt)) = s.reg (seqReg c (0x30 + 4 * l.cnt)) + 1#32 ∧ (t.core c).tg.cache = [] ∧ (t.core c).tg.icache = [] ∧
        (t.core c).tg.launches = (s.core c).tg.launches.filter (fun x => x.step ≠ st) ∧ t.mem = s.mem)) ∧
      (l.over = false → exec (.launchComplete c st) s = .next s) ∧
      (l.limit ≠ 0 → l.since + l.limit * 8192 ≤ s.now → l.over = true → exec (.launchLimit c st) s = exec (.launchComplete c st) s) ∧
      (l.limit ≠ 0 → l.since + l.limit * 8192 ≤ s.now → l.over = false → Completes (.launchLimit c st) s (fun t => t.killed c 3 0x18 l.step ∧
        (t.core c).tg.launches = [] ∧ (t.core c).tg.groups = [] ∧ (t.reg (tgReg c 0x10)).getLsbD 3 = true ∧ t.mem = s.mem)) ∧
      (l.limit = 0 ∨ s.now < l.since + l.limit * 8192 → exec (.launchLimit c st) s = .next s)))

/-- R335: each integer, logic and shift instruction writes its result of A, B and C to the executing lanes of v[DST] alone, or
once to u[DST]; every other register and the memories stay. R336: the floating instructions compute in TY with one rounding and
the canonical NaN; FNEG and FABS change the sign alone. -/
def Obligations.TgArithmetic : Prop :=
  (∀ s : State, s.running → ∀ (c : Fin 8) (g : Fin 32) (x : TgAt),
    ∀ e ∈ ([(.add c g, 0x10, fun _ a b _ => a + b), (.sub c g, 0x11, fun _ a b _ => a - b), (.mul c g, 0x12, fun _ a b _ => a * b),
        (.mulhi c g, 0x13, fun t a b _ => if t = 0 then (a.signExtend 64 * b.signExtend 64).extractLsb' 32 32
          else (a.setWidth 64 * b.setWidth 64).extractLsb' 32 32),
        (.mad c g, 0x14, fun _ a b d => a * b + d),
        (.min c g, 0x15, fun t a b _ => if t = 0 then (if a.sle b then a else b) else if a.ule b then a else b),
        (.max c g, 0x16, fun t a b _ => if t = 0 then (if a.sle b then b else a) else if a.ule b then b else a),
        (.and c g, 0x17, fun _ a b _ => a &&& b), (.or c g, 0x18, fun _ a b _ => a ||| b), (.xor c g, 0x19, fun _ a b _ => a ^^^ b),
        (.shl c g, 0x1A, fun _ a b _ => a <<< b.toNat),
        (.shr c g, 0x1B, fun t a b _ => if t = 0 then a.sshiftRight b.toNat else a >>> b.toNat),
        (.mov c g, 0x1D, fun _ a _ _ => a),
        (.ones c g, 0x1F, fun _ a _ _ => BitVec.ofNat 32 ((List.range 32).filter (fun i => a.getLsbD i)).length),
        (.clz c g, 0x1E, fun _ a _ _ => BitVec.ofNat 32 (if a = 0#32 then 32 else 31 - Nat.log2 a.toNat)),
        (.bsel c g, 0x43, fun _ a b d => BitVec.ofNat 32 (leNat ((List.range 4).map (fun k => (leBytes 8 (a.toNat + 4294967296 * d.toNat)).getD
          (b.extractLsb' (4 * k) 3).toNat 0#8))))]
          : List (Instr × Nat × (Nat → Word → Word → Word → Word))),
      s.serves c g e.2.1 x →
      let f (k : Nat) : Word := e.2.2 (iTy x.w) (BitVec.ofNat 32 (s.opA x k)) (BitVec.ofNat 32 (s.opB x k)) (BitVec.ofNat 32 (s.opC x k))
      (iDU x.w = false → Completes e.1 s (fun t => s.laneWrites t x (iDst x.w) f ∧ s.tgStep t x (some ((x.g.next x).ran false)) ∧
        s.sameMemory t)) ∧
      (iDU x.w = true → ∀ k, lowLane x.exec = some k → Completes e.1 s (fun t => t.mem = s.mem ∧
        s.tgStep t x (some (((x.g.setU (iDst x.w) (f k).toNat).next x).ran false)))) ∧
      (iDU x.w = true → x.exec = 0 → Completes e.1 s (fun t => t.mem = s.mem ∧ s.tgStep t x (some ((x.g.next x).ran false))))) ∧
  (∀ s : State, s.running → ∀ (c : Fin 8) (g : Fin 32) (x : TgAt),
    ∀ e ∈ ([(.fadd c g, 0x20, fun t a b _ => tyOut t ((tyVal t a).add (tyVal t b))),
        (.fsub c g, 0x21, fun t a b _ => tyOut t ((tyVal t a).add (tyVal t b).neg)),
        (.fmul c g, 0x22, fun t a b _ => tyOut t ((tyVal t a).mul (tyVal t b))),
        (.fma c g, 0x23, fun t a b d => tyOut t (((tyVal t a).mul (tyVal t b)).add (tyVal t d))),
        (.fmin c g, 0x24, fun t a b _ => if tyVal t a = .nan ∨ tyVal t b = .nan then (tyFmt t).nan
          else if (tyVal t b).lt (tyVal t a) then b % 2 ^ (if t = 2 then 32 else 16)
          else if (tyVal t a).lt (tyVal t b) ∨ a / 2 ^ (if t = 2 then 31 else 15) % 2 = 1 then a % 2 ^ (if t = 2 then 32 else 16)
          else b % 2 ^ (if t = 2 then 32 else 16)),
        (.fmax c g, 0x25, fun t a b _ => if tyVal t a = .nan ∨ tyVal t b = .nan then (tyFmt t).nan
          else if (tyVal t a).lt (tyVal t b) then b % 2 ^ (if t = 2 then 32 else 16)
          else if (tyVal t b).lt (tyVal t a) ∨ a / 2 ^ (if t = 2 then 31 else 15) % 2 = 0 then a % 2 ^ (if t = 2 then 32 else 16)
          else b % 2 ^ (if t = 2 then 32 else 16)),
        (.fneg c g, 0x26, fun t a _ _ => if tyVal t a = .nan then (tyFmt t).nan
          else (a ^^^ 2 ^ (if t = 2 then 31 else 15)) % 2 ^ (if t = 2 then 32 else 16)),
        (.fabs c g, 0x27, fun t a _ _ => if tyVal t a = .nan then (tyFmt t).nan else a % 2 ^ (if t = 2 then 31 else 15))]
          : List (Instr × Nat × (Nat → Nat → Nat → Nat → Nat))),
      s.serves c g e.2.1 x →
      let f (k : Nat) : Word := BitVec.ofNat 32 (e.2.2 (iTy x.w) (s.opA x k) (s.opB x k) (s.opC x k))
      (iDU x.w = false → Completes e.1 s (fun t => s.laneWrites t x (iDst x.w) f ∧ s.tgStep t x (some ((x.g.next x).ran false)) ∧
        s.sameMemory t)) ∧
      (iDU x.w = true → ∀ k, lowLane x.exec = some k → Completes e.1 s (fun t => t.mem = s.mem ∧
        s.tgStep t x (some (((x.g.setU (iDst x.w) (f k).toNat).next x).ran false)))))

/-- R335, R337: SEL, MOVI, XLANE, LPICK, MPACK: what they move to v[DST] or u[DST]. R337: CMPI, CMPF, MOP and MUNPK write the
executing lanes' bits of p[DST] and keep the others. R338, R339: CVT, BSUNP and BSPK write the converted values of the executing
lanes. -/
def Obligations.TgMovesAndConversions : Prop :=
  (∀ s : State, s.running → ∀ (c : Fin 8) (g : Fin 32) (x : TgAt),
    let goes (t : State) : Prop := s.tgStep t x (some ((x.g.next x).ran false)) ∧ s.sameMemory t
    let sets (v : Nat) (t : State) : Prop := t.mem = s.mem ∧ s.tgStep t x (some (((x.g.setU (iDst x.w) v).next x).ran false))
    (s.serves c g 0x1C x → Completes (.sel c g) s (fun t => goes t ∧ s.laneWrites t x (iDst x.w)
      (fun k => BitVec.ofNat 32 (if bit (x.g.p.getD (iC x.w) 0) k then s.opA x k else s.opB x k)))) ∧
    (s.serves c g 0x44 x → bit x.w 21 = false → Completes (.movi c g) s (fun t => goes t ∧
      s.laneWrites t x (iDst x.w) (fun _ => BitVec.ofNat 32 (bits x.w 32 32)))) ∧
    (s.serves c g 0x44 x → bit x.w 21 = true → x.exec ≠ 0 → Completes (.movi c g) s (sets (bits x.w 32 32))) ∧
    (s.serves c g 0x35 x → iDU x.w = false → Completes (.xlane c g) s (fun t => goes t ∧ s.laneWrites t x (iDst x.w) (fun k =>
      let b := s.opB x k
      BitVec.ofNat 32 (s.opA x (if iCmp x.w = 0 then b % 32 else if iCmp x.w = 3 then k ^^^ (b % 32)
        else if iCmp x.w = 1 then (if b ≤ k then k - b else if 4294967296 ≤ 31 + b - k then k + 4294967296 - b else k)
        else if k + b < 32 then k + b else if 4294967296 ≤ k + b then k + b - 4294967296 else k))))) ∧
    (s.serves c g 0x35 x → iDU x.w = true → x.lanes ≠ [] → Completes (.xlane c g) s (sets (s.opA x 0))) ∧
    (s.serves c g 0x36 x → x.exec ≠ 0 → Completes (.lpick c g) s (sets (s.vreg x (iA x.w) (s.opB x 0 % 32)))) ∧
    (s.serves c g 0x33 x → x.exec ≠ 0 → Completes (.mpack c g) s (sets (x.exec &&& x.g.p.getD (iA x.w) 0)))) ∧
  (∀ s : State, s.running → ∀ (c : Fin 8) (g : Fin 32) (x : TgAt), x.exec < 4294967296 →
    ∀ e ∈ ([(.cmpi c g, 0x30, fun k => cmpInt (iCmp x.w) (iTy x.w) (s.opA x k) (s.opB x k)),
        (.cmpf c g, 0x31, fun k => cmpFloat (iCmp x.w) (tyVal (iTy x.w) (s.opA x k)) (tyVal (iTy x.w) (s.opB x k))),
        (.mop c g, 0x32, fun k =>
          let a := bit (x.g.p.getD (iA x.w) 0) k
          let b := bit (x.g.p.getD (iB x.w) 0) k
          if iCmp x.w = 0 then a && b else if iCmp x.w = 1 then a || b else if iCmp x.w = 2 then a != b else a && !b),
        (.munpk c g, 0x34, fun k => bit (x.g.u.getD (iA x.w) 0) k)] : List (Instr × Nat × (Nat → Bool))),
      s.serves c g e.2.1 x → x.g.p.length = 8 →
      Completes e.1 s (fun t => t.mem = s.mem ∧ ∃ p : List Nat,
        s.tgStep t x (some (({ x.g with p := p, pBad := x.g.pBad.filter (fun r => r ≠ iDst x.w) } : Group).next x |>.ran false)) ∧
        p.length = 8 ∧ (∀ r < 8, r ≠ iDst x.w → p.getD r 0 = x.g.p.getD r 0) ∧
        ∀ k < 32, bit (p.getD (iDst x.w) 0) k = if bit x.exec k then e.2.2 k else bit (x.g.p.getD (iDst x.w) 0) k)) ∧
  (∀ s : State, s.running → ∀ (c : Fin 8) (g : Fin 32) (x : TgAt),
    ∀ e ∈ ([(.cvt c g, 0x40, fun k =>
          let w := cvtWidth (bits x.w 32 4)
          BitVec.ofNat 32 (cvtOut (bits x.w 39 4) (cvtIn (bits x.w 32 4) (s.opA x k / 2 ^ (w * iSub x.w) % 2 ^ w)))),
        (.bsunp c g, 0x41, fun k => BitVec.ofNat 32 (if s.opB x k % 256 = 255 then 0x7FC00000
          else fp32.encode true (finOf false (signed 8 (s.opA x k)) (((s.opB x k % 256 : Nat) : Int) - 133)))),
        (.bspk c g, 0x42, fun k =>
          let block := toBs8 ((List.range 16).map (fun i =>
            if bit x.exec (k / 16 * 16 + i) then f32 (s.opA x (k / 16 * 16 + i)) else .fin false 0 0))
          BitVec.ofNat 32 (block.2.getD (k % 16) 0 + 256 * block.1))] : List (Instr × Nat × (Nat → Word))),
      s.serves c g e.2.1 x →
      (iDU x.w = false → Completes e.1 s (fun t => s.laneWrites t x (iDst x.w) e.2.2 ∧ s.tgStep t x (some ((x.g.next x).ran false)) ∧
        s.sameMemory t)) ∧
      (iDU x.w = true → ∀ k, lowLane x.exec = some k → Completes e.1 s (fun t => t.mem = s.mem ∧
        s.tgStep t x (some (((x.g.setU (iDst x.w) (e.2.2 k).toNat).next x).ran false)))))

/-- R312, R313, R340, R342: loads extend what they read, uncached ones read the palette; stores write through; in the local store
the highest lane that names a byte leaves its own. A misaligned lane kills with code 0x14 before any other fault. R315, R341:
lanes whose words are apart each write the operation's result of the old word and receive the old word; the lowest lane that names
a word receives what it held before the instruction. R344: NOTE waits for a BUSY slot, else fills and issues it; NOTEST reads its
status. -/
def Obligations.TgMemory : Prop :=
  (∀ s : State, s.running → ∀ (c : Fin 8) (g : Fin 32) (x : TgAt),
    let n := szBytes (iTy x.w)
    let go := some ((x.g.next x).ran false)
    (s.serves c g 0x50 x → s.memFault x false = (s, none) →
      (iBU x.w = false → iCU x.w = true → s.mem.parityOk = true → Completes (.ld c g) s (fun t => s.tgStep t x go ∧ s.sameMemory t ∧
        s.laneWrites t x (iDst x.w) (fun k => BitVec.ofNat 32 (szExtend (iTy x.w) (s.palBytes c (s.memAddr x k) n))))) ∧
      (iBU x.w = false → iCU x.w = false → s.mem.parityOk = true → Completes (.ld c g) s (fun t => s.tgStep t x go ∧ s.sameMemory t ∧
        ∃ f : Nat → Word, s.laneWrites t x (iDst x.w) f ∧ ∀ k ∈ x.lanes,
          f k = BitVec.ofNat 32 (szExtend (iTy x.w) (s.palBytes c (s.memAddr x k) n)) ∨
          ∃ line, s.cacheHit c (s.memAddr x k) = some line ∧ f k = BitVec.ofNat 32 (szExtend (iTy x.w) (slice line (s.memAddr x k % 64) n)))) ∧
      (iBU x.w = true → s.mem.nearBad = [] → Completes (.ld c g) s (fun t => s.tgStep t x go ∧ s.sameMemory t ∧
        s.laneWrites t x (iDst x.w) (fun k => BitVec.ofNat 32 (szExtend (iTy x.w) (s.lsRead (s.memKey x k) n)))))) ∧
    (s.serves c g 0x51 x → s.memFault x true = (s, none) →
      (iBU x.w = false → Completes (.st c g) s (fun t => s.tgStep t x go ∧ t.mem.rf = s.mem.rf ∧ t.mem.near = s.mem.near ∧
        t.mem.pal = (x.lanes.foldl (fun u k => u.palPut c (s.memAddr x k) (leBytes n (s.vreg x (iDst x.w) k))) s).mem.pal)) ∧
      (iBU x.w = true → Completes (.st c g) s (fun t => s.tgStep t x go ∧ t.mem.rf = s.mem.rf ∧ t.mem.pal = s.mem.pal ∧
        (∀ key, (∀ k ∈ x.lanes, key < s.memKey x k ∨ s.memKey x k + n ≤ key) →
          tblGet s.mem.nearByte t.mem.near key = tblGet s.mem.nearByte s.mem.near key) ∧
        ∀ k ∈ x.lanes, ∀ i < n, (∀ m ∈ x.lanes, k < m → s.memKey x k + i < s.memKey x m ∨ s.memKey x m + n ≤ s.memKey x k + i) →
          tblGet s.mem.nearByte t.mem.near (s.memKey x k + i) = (leBytes n (s.vreg x (iDst x.w) k)).getD i 0#8))) ∧
    (∀ e ∈ ([(.ld c g, 0x50, false), (.st c g, 0x51, true), (.atom c g, 0x52, true)] : List (Instr × Nat × Bool)), s.serves c g e.2.1 x →
      ∀ code lane, (s.memFault x e.2.2).2 = some (code, lane) → Completes e.1 s (fun t => t.killed c 3 code x.l.step ∧
        (code = 0x14 ∨ code = 0x13 ∨ code = 0x12) ∧ t.reg (tgReg c 4) = BitVec.ofNat 32 (code + 256 * g.val + 8192 * lane) ∧
        ((∃ k ∈ x.lanes, s.memAddr x k % n ≠ 0) → code = 0x14)))) ∧
  (∀ s : State, s.running → ∀ (c : Fin 8) (g : Fin 32) (x : TgAt), s.serves c g 0x52 x → s.memFault x true = (s, none) → s.mem.nearBad = [] →
    let old (k : Nat) : Nat := leNat (s.lsRead (s.memKey x k) 4)
    Completes (.atom c g) s (fun t => s.tgStep t x (some ((x.g.next x).ran false)) ∧ t.mem.pal = s.mem.pal ∧
      (∀ k ∈ x.lanes, (∀ m ∈ x.lanes, m < k → s.memKey x m + 4 ≤ s.memKey x k ∨ s.memKey x k + 4 ≤ s.memKey x m) →
        tblGet wordZero t.mem.rf (rfKey c (x.g.vbase.getD (iDst x.w) 0) k) = BitVec.ofNat 32 (old k)) ∧
      (∀ k ∈ x.lanes, (∀ m ∈ x.lanes, m ≠ k → s.memKey x m + 4 ≤ s.memKey x k ∨ s.memKey x k + 4 ≤ s.memKey x m) →
        tblGets s.mem.nearByte t.mem.near (s.memKey x k) 4 =
          leBytes 4 (atomResult (iAop x.w) (old k) (s.vreg x (iB x.w) k) (s.vreg x (iC x.w) k))) ∧
      ∀ key, (∀ k ∈ x.lanes, key < s.memKey x k ∨ s.memKey x k + 4 ≤ key) →
        tblGet s.mem.nearByte t.mem.near key = tblGet s.mem.nearByte s.mem.near key)) ∧
  (∀ s : State, s.running → ∀ (c : Fin 8) (g : Fin 32) (x : TgAt), x.exec ≠ 0 →
    let stat := aNoteStat c (iNslot x.w)
    let a := dmaReg c (0x200 + 0x80 * iNslot x.w)
    (s.serves c g 0x70 x →
      ((s.reg stat).toNat % 4 = 1 → exec (.note c g) s = .next s) ∧
      ((s.reg stat).toNat % 4 ≠ 1 → Completes (.note c g) s (fun t =>
        t.reg a = BitVec.ofNat 32 (x.g.u.getD (iA x.w) 0) ∧ t.reg (a + 4) = BitVec.ofNat 32 (x.g.u.getD (iA x.w + 1) 0) ∧
        (∀ i < iNbytes x.w / 4, t.reg (a + 0x40 + 4 * i) = BitVec.ofNat 32 (s.vreg x (iDst x.w) i)) ∧
        t.reg (a + 8) = BitVec.ofNat 32 (iNbytes x.w + 128 * iNkind x.w) ∧ (t.reg stat).toNat % 4 ≠ 0 ∧
        ∃ e : Group, t.group c g = some e ∧ e.pc = (x.g.next x).pc ∧ e.resume = (x.g.next x).resume ∧ e.u = x.g.u))) ∧
    (s.serves c g 0x71 x → Completes (.notest c g) s (fun t => t.mem = s.mem ∧
      s.tgStep t x (some (((x.g.setU (iDst x.w) ((s.reg stat).toNat % 65536)).next x).ran false)))))

/-- R343, R285, R289, R290, Table 9-6: SFU requests of a READY slot, row statistics on accumulators of the launch, and their
faults. -/
def Obligations.TgSpecial : Prop :=
  (∀ s : State, s.running → ∀ (c : Fin 8) (g : Fin 32) (x : TgAt), x.exec = 0 →
    ∀ e ∈ ([(.sfu c g, 0x60), (.rsclr c g, 0x61), (.rsadd c g, 0x62), (.rsmrg c g, 0x63), (.rsrd c g, 0x64)] : List (Instr × Nat)),
      s.serves c g e.2 x → Completes e.1 s (fun t => t.mem = s.mem ∧ s.tgStep t x (some ((x.g.next x).ran false)))) ∧
  ∀ s : State, s.running → ∀ (c : Fin 8) (g : Fin 32) (x : TgAt), x.exec ≠ 0 →
    let goes (t : State) : Prop := s.tgStep t x (some ((x.g.next x).ran false))
    let acc := s.rowAcc c (iRs x.w)
    (s.serves c g 0x60 x →
      ((s.sfuSlot c (iSlot x.w)).ready = true → (s.sfuSlot c (iSlot x.w)).badPar = [] → Completes (.sfu c g) s (fun t => goes t ∧
        s.sameMemory t ∧ s.laneWrites t x (iDst x.w) (fun k => BitVec.ofNat 32 ((tyFmt (iOty x.w)).encode true
          (f32 (sfuTable (s.sfuSlot c (iSlot x.w)) (toF32 (tyVal (iTy x.w) (s.opA x k))))))))) ∧
      ((s.sfuSlot c (iSlot x.w)).ready = false → Completes (.sfu c g) s (fun t => t.killed c 4 1 x.l.step))) ∧
    (∀ e ∈ ([(.rsclr c g, 0x61), (.rsadd c g, 0x62), (.rsmrg c g, 0x63), (.rsrd c g, 0x64)] : List (Instr × Nat)), s.serves c g e.2 x →
      x.l.ownsRow (iRs x.w) = false → Completes e.1 s (fun t => t.killed c 4 2 x.l.step ∧ t.rowAcc c (iRs x.w) = acc)) ∧
    (x.l.ownsRow (iRs x.w) = true →
      (s.serves c g 0x61 x → Completes (.rsclr c g) s (fun t => goes t ∧ t.mem = s.mem ∧
        t.rowAcc c (iRs x.w) = { k := x.g.u.getD (iA x.w) 0 % 4294967296 })) ∧
      (s.serves c g 0x62 x →
        let new := rowMerge acc (rowTree ((List.range 32).map (fun k => if bit x.exec k then rowElem acc.k (s.opA x k) else { k := acc.k })))
        (new.bad = false → Completes (.rsadd c g) s (fun t => goes t ∧ t.mem = s.mem ∧ t.rowAcc c (iRs x.w) = new)) ∧
        (new.bad = true → Completes (.rsadd c g) s (fun t => goes t ∧ (t.rowAcc c (iRs x.w)).bad = true ∧
          (t.reg (aSfuEvt c)).getLsbD 5 = true))) ∧
      (s.serves c g 0x63 x → x.l.ownsRow (iRs2 x.w) = true →
        ((s.rowAcc c (iRs2 x.w)).k = acc.k → (rowMerge acc (s.rowAcc c (iRs2 x.w))).bad = false →
          Completes (.rsmrg c g) s (fun t => goes t ∧ t.rowAcc c (iRs x.w) = rowMerge acc (s.rowAcc c (iRs2 x.w)))) ∧
        ((s.rowAcc c (iRs2 x.w)).k ≠ acc.k → Completes (.rsmrg c g) s (fun t => t.killed c 4 3 x.l.step))) ∧
      (s.serves c g 0x64 x → x.g.u.length = 64 → Completes (.rsrd c g) s (fun t => t.mem = s.mem ∧ ∃ u : List Nat,
        t.group c g = some (({ x.g with u := u, uBad := x.g.uBad.filter (fun r => r < iDst x.w ∨ iDst x.w + 6 ≤ r) } : Group).next x |>.ran false) ∧
        (List.range 6).map (fun i => u.getD (iDst x.w + i) 0) = acc.words ∧
        ∀ r, (r < iDst x.w ∨ iDst x.w + 6 ≤ r) → u.getD r 0 = x.g.u.getD r 0)))

/-- R345 to R348 in masked mode: NOP and FENCE go on; EXIT ends its lanes and resumes a waiting side; BRA needs one outcome; BRD
and RCV keep the divergence stack. R308, R348, R310: in independent mode each lane follows its own outcome; JOIN and LBAR hold
lanes until all have arrived, and their releases let them go on behind it. -/
def Obligations.TgControl : Prop :=
  (∀ s : State, s.running → ∀ (c : Fin 8) (g : Fin 32) (x : TgAt), x.l.indep = false →
    let target := (x.pc : Int) + 8 * iTgt x.w
    let rcv := unsigned 32 ((x.pc : Int) + 8 * iRcv x.w)
    let f := x.mask &&& (0xFFFFFFFF - x.exec)
    let at_ (pc active : Nat) (stack : List (Nat × Nat × Bool)) (t : State) : Prop := t.mem = s.mem ∧
      ∃ e : Group, s.tgStep t x (some e) ∧ e.pc = pc ∧ e.active = active ∧ e.stack = stack ∧ e.u = x.g.u ∧ e.p = x.g.p
    (∀ e ∈ ([(.nop c g, 0), (.fence c g, 7), (.yield c g, 5), (.wait c g, 6)] : List (Instr × Nat)), s.serves c g e.2 x →
      Completes e.1 s (at_ (x.pc + 8) x.mask x.g.stack)) ∧
    (s.serves c g 1 x →
      (({ x.g with ended := x.g.ended ||| x.exec } : Group).alive = 0 → Completes (.exit c g) s (fun t => t.group c g = none ∧ t.mem = s.mem)) ∧
      (({ x.g with ended := x.g.ended ||| x.exec } : Group).alive ≠ 0 → f ≠ 0 → Completes (.exit c g) s (at_ (x.pc + 8) f
        (x.g.stack.map (fun e => (e.1, e.2.1 &&& (0xFFFFFFFF - x.exec), e.2.2)))))) ∧
    (s.serves c g 2 x → x.mask ≠ 0 →
      (x.exec = 0 → Completes (.bra c g) s (at_ (x.pc + 8) x.mask x.g.stack)) ∧
      (x.exec = x.mask → x.l.holds target = true → Completes (.bra c g) s (at_ target.toNat x.mask x.g.stack)) ∧
      (x.exec ≠ 0 → x.exec ≠ x.mask → Completes (.bra c g) s (fun t => t.killed c 3 0x17 x.l.step)) ∧
      (x.exec = x.mask → x.l.holds target = false → Completes (.bra c g) s (fun t => t.killed c 3 0x11 x.l.step))) ∧
    (s.serves c g 3 x →
      (x.exec ≠ 0 → f ≠ 0 → x.g.stack.length ≤ 14 → Completes (.brd c g) s
        (at_ (x.pc + 8) f ((unsigned 32 target, x.exec, false) :: (rcv, x.mask, true) :: x.g.stack))) ∧
      (x.exec ≠ 0 → f = 0 → x.g.stack.length ≤ 15 → x.l.holds target = true → Completes (.brd c g) s
        (at_ target.toNat x.mask ((rcv, x.mask, true) :: x.g.stack))) ∧
      (x.exec = 0 → x.g.stack.length ≤ 15 → Completes (.brd c g) s (at_ (x.pc + 8) x.mask ((rcv, x.mask, true) :: x.g.stack))) ∧
      (16 ≤ x.g.stack.length → Completes (.brd c g) s (fun t => t.killed c 3 0x15 x.l.step))) ∧
    (s.serves c g 4 x →
      (x.g.stack = [] → Completes (.rcv c g) s (fun t => t.killed c 3 0x16 x.l.step)) ∧
      (∀ (pc m : Nat) (rest : List (Nat × Nat × Bool)), x.g.stack = (pc, m, true) :: rest →
        (pc = x.pc → Completes (.rcv c g) s (at_ (x.pc + 8) m rest)) ∧
        (pc ≠ x.pc → Completes (.rcv c g) s (fun t => t.killed c 3 0x16 x.l.step))) ∧
      (∀ (pc m : Nat) (rest : List (Nat × Nat × Bool)), x.g.stack = (pc, m, false) :: rest → x.l.holds pc = true →
        Completes (.rcv c g) s (at_ pc m rest)))) ∧
  (∀ s : State, s.running → ∀ (c : Fin 8) (g : Fin 32),
    (∀ x : TgAt, x.l.indep = true → s.serves c g 2 x → x.exec ≠ 0 → x.l.holds ((x.pc : Int) + 8 * iTgt x.w) = true →
      Completes (.bra c g) s (fun t => ∃ e : Group, s.tgStep t x (some e) ∧ (iTgt x.w ≤ 0 → e.run = 0) ∧
        ∀ k < 32, e.resume.getD k 0 = if bit x.exec k then ((x.pc : Int) + 8 * iTgt x.w).toNat else if bit x.mask k then x.pc + 8 else x.g.resume.getD k 0)) ∧
    (∀ x : TgAt, x.l.indep = true → s.serves c g 8 x → Completes (.join c g) s (fun t => ∃ e : Group, s.tgStep t x (some e) ∧
      e.waiting = x.g.waiting ||| x.mask ∧ e.resume = x.g.resume ∧ e.run = 0)) ∧
    (∀ x : TgAt, s.serves c g 9 x →
      (x.l.indep = true → Completes (.lbar c g) s (fun t => ∃ e : Group, s.tgStep t x (some e) ∧ e.waiting = x.g.waiting ||| x.mask ∧
        e.resume = x.g.resume)) ∧
      (x.l.indep = false → x.g.stack = [] → Completes (.lbar c g) s (fun t => ∃ e : Group, s.tgStep t x (some e) ∧ e.hold = 3 ∧ e.pc = x.pc + 8)) ∧
      (x.l.indep = false → x.g.stack ≠ [] → Completes (.lbar c g) s (fun t => t.killed c 3 0x16 x.l.step))) ∧
    (∀ x : Group, s.group c g = some x →
      (x.hold = 1 → x.notes = [] → Completes (.waitRelease c g) s (fun t => t.group c g = some { x with hold := 0 } ∧ t.mem = s.mem)) ∧
      (x.hold = 1 → x.notes ≠ [] → exec (.waitRelease c g) s = .next s) ∧
      (∀ a, x.hold = 0 → x.allWait = some a → iOp (s.insAt c a) = 8 → Completes (.joinRelease c g) s (fun t =>
        ∃ e : Group, t.group c g = some e ∧ e.waiting = 0 ∧ ∀ k < 32, e.resume.getD k 0 = x.resume.getD k 0 + (if bit x.waiting k then 8 else 0))) ∧
      (x.allWait = none → exec (.joinRelease c g) s = .next s)) ∧
    (∀ (st : Nat) (l : Launch), s.launch c st = some l → l.groups ≤ l.next →
      (∃ (h : Fin 32) (x : Group), s.group c h = some x ∧ x.launch = st ∧ s.atLbar c x = false) → exec (.lbarRelease c st) s = .next s) ∧
    (∀ (st : Nat) (l : Launch), s.launch c st = some l → l.groups ≤ l.next → (∃ (h : Fin 32) (x : Group), s.group c h = some x ∧ x.launch = st) →
      (∀ (h : Fin 32) (x : Group), s.group c h = some x → x.launch = st → s.atLbar c x = true) →
      Completes (.lbarRelease c st) s (fun t => ∀ (h : Fin 32) (x : Group), s.group c h = some x → t.group c h = if x.launch = st then some x.release else some x)))

/-- R360, R362, R366, R374, Table 12-3 causes 2 and 3: which FS opens a frame and under which ID; a second FS in the window of the
open frame voids it; an FS in no window starts nothing; EN clears a pipeline and starts it. R361, R364, R365, R393, R431: the
record that a frame's end latches, its void causes, the frozen frame, an edge without an FS, a group member past its deadline, and
the snapshot that a read of FREC_ID_LO takes. -/
def Obligations.CameraFrames : Prop :=
  (∀ s : State, s.running → ∀ (p : Fin 4) (num : Nat) (h : CsiHead), h.ecc = false → s.onPixVc p h = true →
    (s.camOn p = true → (s.cam p).cur = none →
      (s.get (fSynced p) = 0 →
        Completes (.frameStart p num h) s (fun t => t.get (fInFrame p) = 1 ∧ (t.cam p).count = (s.cam p).count + 1 ∧
          ∃ f, (t.cam p).cur = some f ∧ f.id = (s.cam p).count ∧ f.fsT = s.ctNs ∧ f.rows = 0 ∧ f.bad = 0 ∧ f.void = none ∧
            (f.drop = true ↔ num ≠ 0 ∧ (s.cam p).lastNum ≠ 0 ∧ num ≠ (s.cam p).lastNum + 1 ∧ num ≠ 1))) ∧
      (s.get (fSynced p) = 1 → ∀ (j : Nat) (x : Nat) (rest : List (Nat × Nat)), (s.cam p).edges = (j, x) :: rest →
        x + (s.fsWin p).1 ≤ s.ctNs → s.ctNs ≤ x + (s.fsWin p).2 → (∀ e ∈ rest, s.ctNs ≤ e.2 + (s.fsWin p).2) →
        Completes (.frameStart p num h) s (fun t => t.get (fInFrame p) = 1 ∧ (t.cam p).edges = rest ∧
          ∃ f, (t.cam p).cur = some f ∧ f.id = j ∧ f.edge = some x ∧ f.fsT = s.ctNs ∧ f.rows = 0)) ∧
      (s.get (fSynced p) = 1 → (∀ e ∈ (s.cam p).edges, s.ctNs < e.2 + (s.fsWin p).1 ∧ s.ctNs ≤ e.2 + (s.fsWin p).2) →
        (∀ x, (s.cam p).lastEdge = some x → s.ctNs < x + (s.fsWin p).1 ∨ x + (s.fsWin p).2 < s.ctNs) →
        Completes (.frameStart p num h) s (fun t => (t.cam p).cur = none ∧ (t.cam p).skip = true ∧ (t.cam p).record = (s.cam p).record ∧
          (t.reg (camReg p 0x6C)).toNat = min 0xFFFFFFFF ((s.reg (camReg p 0x6C)).toNat + 1)))) ∧
    (s.camOn p = true → ∀ f : CamFrame, (s.cam p).cur = some f →
      (s.get (fSynced p) = 1 → (∀ e ∈ (s.cam p).edges, s.ctNs ≤ e.2 + (s.fsWin p).2) → f.edge.any (s.inWindow p) = true →
        Completes (.frameStart p num h) s (fun t => (t.cam p).cur = none ∧ (t.cam p).record.getD 5 0 % 16 = 1 + 2 * 2 ∧ t.get (fInFrame p) = 0)) ∧
      (s.get (fSynced p) = 0 →
        Completes (.frameStart p num h) s (fun t => (t.cam p).record.getD 5 0 % 16 = 1 + 2 * 3 ∧ (t.cam p).record.getD 0 0 = f.id % 4294967296 ∧
          ∃ g, (t.cam p).cur = some g ∧ g.id = (s.cam p).count ∧ g.rows = 0))) ∧
    (s.camOn p = true → ∀ t : State, exec (.frameStart p num h) s = .next t →
      s.get (fSynced p) = 0 ∨ (∀ e ∈ (s.cam p).edges, s.ctNs ≤ e.2 + (s.fsWin p).2) →
      (t.cam p).lastNum = if num = 0 then (s.cam p).lastNum else num) ∧
    (s.gateOpen (8 + p) →
      (s.get (fCamEn p) = 0 → s.camChecks p = true → s.grdCause p = 0 →
        Completes (.camEn p true) s (fun t => t.get (fCamEn p) = 1 ∧ t.get (fInFrame p) = 0 ∧ (t.cam p).cur = none ∧ (t.cam p).count = 0 ∧
          (t.cam p).latched = 0 ∧ (t.cam p).marks = [] ∧ ∀ d : Fin 4, t.dest (4 * p.val + d.val) = {})) ∧
      (s.get (fCamEn p) = 0 → (s.camChecks p = false ∨ s.grdCause p ≠ 0) →
        Completes (.camEn p true) s (fun t => t.get (fCamEn p) = 0 ∧ (t.reg (camReg p 0)).getLsbD 31 = true ∧ t.cam p = s.cam p)) ∧
      (s.get (fCamEn p) = 1 →
        Completes (.camEn p false) s (fun t => t.get (fCamEn p) = 0 ∧ (t.cam p).cur = none ∧ (t.cam p).queue = [] ∧
          (∀ f, (s.cam p).cur = some f → (t.cam p).record.getD 5 0 % 16 = 1 + 2 * 6))))) ∧
  (∀ s : State, s.running → ∀ p : Fin 4,
    (s.camOn p = true → ∀ f : CamFrame, (s.cam p).cur = some f → (f.void = none ∨ f.void = some 5) → (s.cam p).late = [] →
      ∀ h : CsiHead, s.onPixVc p h = true → Completes (.frameEnd p h) s (fun t =>
        let r := (t.cam p).record
        (t.cam p).cur = none ∧ t.get (fInFrame p) = 0 ∧ (t.reg (aCamEvt p)).getLsbD 0 = true ∧ r.getD 0 0 + 4294967296 * r.getD 1 0 = f.id ∧
        r.getD 2 0 + 4294967296 * r.getD 3 0 = f.fsT ∧ r.getD 6 0 = (~~~ f.sig).toNat ∧ (t.cam p).latched = (s.cam p).latched + 1 ∧
        (r.getD 5 0 % 2 = 1 ↔ f.void.isSome = true ∨ f.rows < s.camH p ∨ s.get (fBadMax p) < f.bad) ∧
        (f.void = none → f.rows < s.camH p → r.getD 5 0 / 2 % 8 = 3) ∧
        (f.void = none → s.camH p ≤ f.rows → s.get (fBadMax p) < f.bad → r.getD 5 0 / 2 % 8 = 4) ∧
        (f.void = some 5 → r.getD 5 0 / 2 % 8 = 5) ∧
        (f.void = none → s.camH p ≤ f.rows → f.bad ≤ s.get (fBadMax p) →
          (r.getD 5 0 / 256 % 2 = 1 ↔ (s.cam p).lastSig = some (~~~ f.sig).toNat) ∧ (t.cam p).lastSig = some (~~~ f.sig).toNat ∧
          ((s.cam p).lastSig = some (~~~ f.sig).toNat → (0x13, p.val) ∈ t.saf.events)))) ∧
    ((s.cam p).cur = none → s.camOn p = true → ∀ h : CsiHead, h.ecc = false → s.onPixVc p h = true →
      Completes (.frameEnd p h) s (fun t => t = s)) ∧
    (s.camOn p = true → s.get (fSynced p) = 1 → ∀ (j : Nat) (x : Nat) (rest : List (Nat × Nat)), (s.cam p).edges = (j, x) :: rest →
      x + (s.fsWin p).2 ≤ s.ctNs →
      Completes (.fsWindowClose p) s (fun t =>
        let r := (t.cam p).record
        r.getD 0 0 + 4294967296 * r.getD 1 0 = j ∧ r.getD 2 0 = 0 ∧ r.getD 3 0 = 0 ∧ r.getD 5 0 % 16 = 1 + 2 * 1 ∧
        (t.cam p).edges = rest ∧ (t.cam p).cur = (s.cam p).cur ∧ (t.cam p).latched = (s.cam p).latched + 1)) ∧
    (∀ f : CamFrame, (s.cam p).cur = some f → s.get (fGroup p) ≠ 0 → (s.reg (grdReg p 0xEC)).toNat % 65536 ≠ 0 → s.get (fSynced p) = 1 →
      ∀ x, f.edge = some x → x + 1000 * ((s.reg (grdReg p 0xEC)).toNat % 65536) ≤ s.ctNs → (s.cam p).late = [] →
      (s.endWaits p = true → exec (.groupDeadline p) s = .next s) ∧
      (s.endWaits p = false → Completes (.groupDeadline p) s (fun t => (t.cam p).cur = none ∧ (t.cam p).record.getD 5 0 % 16 = 1 + 2 * 3 ∧ (t.cam p).record.getD 0 0 = f.id % 4294967296))) ∧
    (s.gateOpen (8 + p) →
      Completes (.frecIdLoRead p) s (fun t => t.vid = s.vid ∧
        ∀ i : Fin 7, t.reg (camReg p (0x100 + 4 * i)) = BitVec.ofNat 32 ((s.cam p).record.getD i 0))))

/-- R355 to R359, R353: what each packet of a camera does: a good pixel line of an open frame is taken and enters the signature, a
bad one counts, is replaced and does not; lines past HEIGHT, lines outside a frame and unwanted packets are counted as discarded.
-/
def Obligations.CameraPackets : Prop :=
  ∀ s : State, s.running → ∀ (p : Fin 4) (data : List Byte), s.camOn p = true →
    let one (a : Nat) (t : State) : Prop := (t.reg a).toNat = min 0xFFFFFFFF ((s.reg a).toNat + 1)
    let disc (t : State) : Prop := t.cam p = s.cam p ∧ one (camReg p 0x5C) t ∧ t.vid = s.vid
    (∀ h : CsiHead, h.ecc = false → s.onPixVc p h = true → h.dt.val = s.pixDt p →
     (∀ f : CamFrame, (s.cam p).cur = some f → f.void = none → f.rows < s.camH p → (s.pset p).due = none →
      (∀ bad, (bad = true ∨ data.length ≠ s.camW p * dtBits (s.pixDt p) / 8) →
        Completes (.pixelLine p data bad false false h) s (fun t => one (camReg p 0x4C) t ∧
          ∃ g, (t.cam p).cur = some g ∧ g.rows = f.rows + 1 ∧ g.bad = f.bad + 1 ∧ g.badRows = f.badRows ++ [f.rows] ∧ g.sig = f.sig ∧
            (t.cam p).lines.head? = some (if f.rows < periodOf (s.get (fPhaseRows p)) then
                List.replicate (s.camW p * (if s.pixDt p = 0x1E then 2 else 1)) 0
              else (s.cam p).lines.getD (periodOf (s.get (fPhaseRows p)) - 1) []))) ∧
      (data.length = s.camW p * dtBits (s.pixDt p) / 8 →
        Completes (.pixelLine p data false false false h) s (fun t => t.reg (camReg p 0x4C) = s.reg (camReg p 0x4C) ∧
          ∃ g, (t.cam p).cur = some g ∧ g.rows = f.rows + 1 ∧ g.bad = f.bad ∧ g.sig = crc32cFrom f.sig data ∧ g.id = f.id ∧
            (t.cam p).lines.head? = some (unpackLine (s.pixDt p) data))) ∧
      Completes (.pixelLine p data false false true h) s (fun t => (∃ g, (t.cam p).cur = some g ∧ g.void = some 5 ∧ g.rows = f.rows) ∧
        (t.reg (aCamEvt p)).getLsbD 4 = true ∧ one (camReg p 0x58) t)) ∧
    (∀ f : CamFrame, (s.cam p).cur = some f → f.void = none → s.camH p ≤ f.rows → (s.pset p).due = none →
      Completes (.pixelLine p data false false false h) s disc) ∧
    ((s.cam p).cur = none → (s.pset p).due = none → Completes (.pixelLine p data false false false h) s disc)) ∧
    (∀ h : CsiHead, h.ecc = false →
      ((s.onPixVc p h = false ∨ h.dt.val ≠ s.pixDt p) → (s.pset p).due = none → ∀ crc lane ovf,
        Completes (.pixelLine p data crc lane ovf h) s disc) ∧
      (s.onPixVc p h = false → (∀ num, Completes (.frameStart p num h) s disc) ∧ Completes (.frameEnd p h) s disc ∧
        Completes (.lineStart p h) s disc) ∧
      (((s.cam p).cur = none ∨ s.get (fEmbEn p) = 0 ∨ h.vc.val ≠ s.get (fEmbVc p)) → Completes (.embeddedLine p data h) s disc) ∧
      ((s.cam p).cur.isSome = true → s.get (fEmbEn p) = 1 → h.vc.val = s.get (fEmbVc p) → h.crcErr = true →
        Completes (.embeddedLine p data h) s (fun t => one (camReg p 0x48) t ∧ (t.reg (aCamEvt p)).getLsbD 3 = true ∧
          (t.cam p).emb = ((s.cam p).emb ++ data).take 4096)) ∧
      (s.onPixVc p h = true → Completes (.lineStart p h) s (fun t => t = s)) ∧
      (s.camKeeps p h = false → Completes (.packetDiscard p h) s disc) ∧
      (∀ num, exec (.frameStart p num { h with ecc := true }) s = exec (.frameStart p num h) (s.bump (camReg p 0x40))) ∧
      exec (.frameEnd p { h with ecc := true }) s = exec (.frameEnd p h) (s.bump (camReg p 0x40)) ∧
      (∀ crc lane ovf, exec (.pixelLine p data crc lane ovf { h with ecc := true }) s =
        exec (.pixelLine p data crc lane ovf h) (s.bump (camReg p 0x40))) ∧
      exec (.embeddedLine p data { h with ecc := true }) s = exec (.embeddedLine p data h) (s.bump (camReg p 0x40)) ∧
      exec (.lineStart p { h with ecc := true }) s = exec (.lineStart p h) (s.bump (camReg p 0x40))) ∧
    (∀ h : CsiHead, h.ecc = false → h.crcErr = false → h.vc.val = s.get (fEmbVc p) → (s.cam p).cur.isSome = true → s.get (fEmbEn p) = 1 →
      Completes (.embeddedLine p data h) s (fun t => (t.cam p).emb = ((s.cam p).emb ++ data).take 4096 ∧ (t.cam p).cur = (s.cam p).cur ∧ t.regs = s.regs)) ∧
    (∀ h : CsiHead, h.ecc = true → s.camKeeps p h = false →
      Completes (.packetDiscard p h) s (fun t => one (camReg p 0x5C) t ∧ one (camReg p 0x40) t)) ∧
    Completes (.uncorrectableHeader p) s (fun t => t.cam p = s.cam p ∧ (t.reg (aCamEvt p)).getLsbD 2 = true ∧ one (camReg p 0x44) t) ∧
    (∀ rx : Fin 4, rx ≠ 0 → Completes (.dphyLaneStateChange p rx) s (fun t => t.get (fCamRx p) = rx ∧ t.vid = s.vid))

/-- R367 to R371, R375: the settings queue, its RAM, and the life of a set on the bus. -/
def Obligations.SettingsSets : Prop :=
  ∀ (p : Fin 4) (s : State),
    let d : SetDesc := { first := bits (s.reg (camReg p 0x88)).toNat 0 8, count := bits (s.reg (camReg p 0x88)).toNat 8 8,
                         id := bits (s.reg (camReg p 0x88)).toNat 16 16, tgt := s.reg64 (camReg p 0x8C) }
    (s.gateOpen (8 + p) →
      ((s.cam p).queue.length + b2n (s.cam p).run.isSome < 4 → d.first + d.count ≤ 255 → d.id ≠ 0 →
        Completes (.setCommit p) s (fun t => (t.cam p).queue = (s.cam p).queue ++ [d] ∧ t.get (fQueued p) = (s.cam p).queue.length + 1 ∧
          t.reg (aCamEvt p) = s.reg (aCamEvt p))) ∧
      (4 ≤ (s.cam p).queue.length + b2n (s.cam p).run.isSome → Completes (.setCommit p) s (fun t => t.cam p = s.cam p ∧ (t.reg (aCamEvt p)).getLsbD 12 = true)) ∧
      Completes (.setFlush p) s (fun t => (t.cam p).queue = [] ∧ (t.cam p).run = (s.cam p).run ∧ t.get (fQueued p) = 0) ∧
      (∀ (e : Fin 256) (hi : Bool) (v : Word),
        ((∃ x ∈ (s.cam p).queue, x.holds e = true) ∨ (∃ r, (s.cam p).run = some r ∧ r.desc.holds e = true) →
          Completes (.setramWrite p e hi v) s (fun t => t.cam p = s.cam p ∧ (t.reg (aCamEvt p)).getLsbD 12 = true ∧ t.setEntry p e = s.setEntry p e)) ∧
        ((s.cam p).queue = [] → (s.cam p).run = none →
          Completes (.setramWrite p e hi v) s (fun t => t.setEntry p e =
            if hi then ((s.setEntry p e).1, v.toNat) else ((v &&& 0xFFFF3FFF#32).toNat, (s.setEntry p e).2))))) ∧
    (s.running →
      ((s.cam p).run = none → s.get (fCamEn p) = 1 → ∀ x rest, (s.cam p).queue = x :: rest → ∀ k close, (s.cam p).blank = some (k, close) →
        ((x.tgt : Int) - 1 - s.get (fDelay p) ≤ k → s.ctNs + s.setEstimate p x < close →
          Completes (.setStart p) s (fun t => (t.cam p).run = some { desc := x, win := some (k, close) } ∧ (t.cam p).queue = rest ∧ t.get (fSetBusy p) = 1)) ∧
        ((k : Int) < (x.tgt : Int) - 1 - s.get (fDelay p) ∨ close ≤ s.ctNs + s.setEstimate p x → Completes (.setStart p) s (fun t => t = s))) ∧
      ((s.cam p).run = none → s.get (fCamEn p) = 0 → ∀ x rest, (s.cam p).queue = x :: rest →
        Completes (.setStart p) s (fun t => (t.cam p).run = some { desc := x, win := none } ∧ (t.cam p).queue = rest)) ∧
      (∀ r, (s.cam p).run = some r → r.at_ ≤ r.desc.count →
        let e := s.setEntry p (r.desc.first + r.at_)
        Completes (.i2cEntryWrite p true) s (fun t => (t.cam p).run = some { r with at_ := r.at_ + 1, retried := false } ∧
          t.out = .i2c p (entryBytes e.1 e.2) true :: s.out) ∧
        (r.retried = false → Completes (.i2cEntryWrite p false) s (fun t => (t.cam p).run = some { r with retried := true })) ∧
        (r.retried = true → Completes (.i2cEntryWrite p false) s (fun t => (t.cam p).run = none ∧ (t.reg (aCamEvt p)).getLsbD 8 = true ∧
          (t.reg (aCamEvt p)).getLsbD 11 = true ∧
          (∀ k close, r.win = some (k, close) → (t.cam p).marks = (k + 1 + s.get (fDelay p), none) :: (s.cam p).marks)))) ∧
      (∀ r, (s.cam p).run = some r → r.desc.count < r.at_ → ∀ k close, r.win = some (k, close) →
        Completes (.setWritten p) s (fun t => (t.cam p).run = none ∧ (t.reg (aCamEvt p)).getLsbD 6 = true ∧ t.get (fLastId p) = r.desc.id % 65536 ∧
          (t.cam p).marks = (k + (if close < s.ctNs then 2 else 1) + s.get (fDelay p), some r.desc.id) :: (s.cam p).marks ∧
          ((close < s.ctNs ∨ (r.desc.tgt : Int) - 1 - s.get (fDelay p) < k) →
            (t.reg (camReg p 0x60)).toNat = min 0xFFFFFFFF ((s.reg (camReg p 0x60)).toNat + 1)))) ∧
      (∀ k close, (s.cam p).blank = some (k, close) → close ≤ s.ctNs →
        Completes (.blankingClose p) s (fun t => (t.cam p).blank = none ∧ t.regs = s.regs ∧ (t.cam p).queue = (s.cam p).queue)) ∧
      (∀ r, (s.cam p).run = some r →
        ∀ freed, Completes (.i2cStuckBus ⟨p.val, by omega⟩ freed) s (fun t => (t.cam p).run = none ∧ (t.reg (aCamEvt p)).getLsbD 11 = true ∧ (t.reg (aCamEvt p)).getLsbD 8 = true)))

/-- R380, R381: with every correction off, OUT_FMT 0 writes each U16 sample plus PEDESTAL, saturated, in two bytes. R396 to R399,
R400, R402: a row that one packet holds is written at its ring offset and costs its units; a dropped row's units are consumed
unwritten; an entry goes out once its rows are gone and two units are held, a stripe's header before the verdict; a destination
that waited for two boundaries fails. -/
def Obligations.GroundAndStripes : Prop :=
  (∀ (p : Fin 4) (y : Nat) (vs : List Nat) (s : State), s.grdActive p 0 % 32 = 0 → bits (s.reg (grdReg p 0x18)).toNat 8 2 = 0 →
    (∀ v ∈ vs, v < 65536) →
    (s.groundRow p y vs).2 =
        ((vs.flatMap (fun v => leBytes 2 (min 65535 (v + bits (s.grdActive p 0) 16 12)))).take (2 * s.camW p)) ∧
      (s.groundRow p y vs).1.reg (grdReg p 0xC8) = s.reg (grdReg p 0xC8) ∧ (s.groundRow p y vs).1.reg (grdReg p 0xCC) = s.reg (grdReg p 0xCC) ∧
      ((s.groundRow p y vs).1.cam p).zones = (s.cam p).zones) ∧
  (∀ s : State, s.running → ∀ w : Fin 24,
    let c := s.ringCfg w
    let d := s.dest w
    let packet (a n : Nat) (data : List Byte) : Inject :=
      { core := 8 + writerOf w, ch := 0, dl := none, use := none,
        pk := { dst := n, tc := 1, kind := 0, nbytes := data.length, ten := c.ten, addr := a, data := data } }
    let off (r : RingRow) : Nat := (c.rows * r.frame + (r.y - c.row0)) * c.stride % 2 ^ c.ringLog
    (∀ r : RingRow, d.rows = [r] → r.done = 0 → d.pend ≠ 0 → 0 < c.stride →
      (r.data.length = c.stride → c.stride % 32 = 0 → off r % 512 + c.stride ≤ 512 → off r + c.stride ≤ 2 ^ c.ringLog →
        c.stride / 32 ≤ s.get (fRingHeld w) →
        Completes (.stripeRowWrite w) s (fun t => (t.dest w).rows = [] ∧ t.get (fRingHeld w) = s.get (fRingHeld w) - c.stride / 32 ∧
          t.fab = { s.fab with inject := s.fab.inject ++ [packet (gLocal c.ring + off r) (gNode c.ring) r.data] })) ∧
      (r.data = [] → c.stride % 32 = 0 → c.stride / 32 ≤ s.get (fRingHeld w) →
        Completes (.stripeRowWrite w) s (fun t => (t.dest w).rows = [] ∧ t.get (fRingHeld w) = s.get (fRingHeld w) - c.stride / 32 ∧ t.fab = s.fab)) ∧
      (s.get (fRingHeld w) = 0 → Completes (.stripeRowWrite w) s (fun t => t.dest w = d ∧ t.fab = s.fab))) ∧
    (∀ (h : RingHead) (rest : List RingHead), d.heads = h :: rest → h.words.length = 16 → (∀ r ∈ d.rows, r.frame = h.frame → h.last < r.y) →
      let off := ((c.stripes + 1) * h.frame + h.entry) * 64 % 2 ^ c.hdrLog
      let sent (ws : List Nat) (t : State) : Prop := (t.dest w).heads = rest ∧ (t.dest w).heldH = d.heldH - 2 ∧
        t.fab = { s.fab with inject := s.fab.inject ++ [packet (gLocal c.hdr + off) (gNode c.hdr) (ws.flatMap (fun x => leBytes 4 x))] }
      (h.entry ≠ c.stripes → 2 ≤ d.heldH → Completes (.stripeHeaderWrite w) s (sent h.words)) ∧
      (h.entry ≠ c.stripes → Completes (.verdictWrite w) s (fun t => t = s)) ∧
      (h.entry = c.stripes → 2 ≤ d.heldH →
        Completes (.verdictWrite w) s (sent (h.words.set 1 (if d.voidSent.contains h.frame then h.words.getD 1 0 ||| 2 else h.words.getD 1 0)))) ∧
      (h.entry ≠ c.stripes → d.heldH < 2 → d.pendH = 0 → Completes (.stripeHeaderWrite w) s (fun t => (t.dest w).pendH = 2 ∧ (t.dest w).heads = d.heads))) ∧
    (d.failed = false → d.waiting = true → 2 ≤ d.waited →
      Completes (.destFail w) s (fun t => t.dest w = { failed := true } ∧ t.get (fRingFailed w) = 1 ∧
        (w.val < 16 → (t.reg (grdReg (w.val / 4) 0xC0)).getLsbD 3 = true))) ∧
    (d.waiting = false → d.heads.length < 64 → Completes (.destFail w) s (fun t => t = s)))

/-- R394, R263: one frame's sums are learnt, their mean rounded to nearest even, or decide; a camera newly found obscured is a safety event of mechanism 0x14. Table
14-3, R430, R436: a shadowed parameter set: COMMIT arms it, its checks end, the boundary of its target frame applies it or refuses
it, ABORT opens it, and the copy back ends. `t` below 4 is the ground set of a pipeline, 4 + f that of a feed. -/
def Obligations.ObscurationAndParameters : Prop :=
  (∀ s : State, s.running → ∀ p : Fin 4, s.grdOn p 4 = true →
    let o := (s.cam p).obs
    (o.fresh = true → s.reg (grdReg p 0xE8) = 0#32 →
      (o.st = 1 → Completes (.obscurationCheck p) s (fun t => (t.cam p).obs.learnt = o.learnt + 1 ∧
        ((t.cam p).obs.st = 0 ↔ o.learn ≤ o.learnt + 1) ∧ t.saf = s.saf ∧
        ∀ z < 64, (t.cam p).obs.b1.getD z 0 = (if o.learn ≤ o.learnt + 1 then
          (roundDiv (o.b1.getD z 0 + 256 * s.zoneSum p z 0) (o.learnt + 1)).toNat else o.b1.getD z 0 + 256 * s.zoneSum p z 0))) ∧
      (o.st = 0 → ∀ n : Nat, n = ((List.range 64).filter (fun z => decide (256 * o.divDull * s.zoneSum p z 0 < o.b1.getD z 0))).length →
        Completes (.obscurationCheck p) s (fun t => (t.cam p).obs.dull = n ∧
          (t.cam p).obs.bad = (if o.zonesOn ≤ n then o.bad + 1 else 0) ∧
          ((2 ≤ (t.cam p).obs.st) ↔ (if s.tim.rate25 then o.frames25 else o.frames30) ≤ (if o.zonesOn ≤ n then o.bad + 1 else 0)) ∧
          (2 ≤ (t.cam p).obs.st → t.saf.events = s.saf.events ++ [(0x14, p.val)])))) ∧
    (s.reg (grdReg p 0xE8) ≠ 0#32 → Completes (.obscurationCheck p) s (fun t => t = s))) ∧
  (∀ (s : State) (k : Fin 12),
    (s.gateOpen (if k.val < 4 then 8 + k.val else 12) →
      (s.get (fSetState k) = 0 →
        Completes (.paramSetCommit k) s (fun t => t.get (fSetState k) = 1 ∧ (t.pset k).tgt = s.reg64 (commitReg k 0) ∧
          (t.pset k).id = bits (s.reg (commitReg k 8)).toNat 16 16 ∧ (t.pset k).checked = none ∧ (t.pset k).due = none)) ∧
      (s.get (fSetState k) = 1 → Completes (.paramSetCommit k) s (fun t => t.vid = s.vid ∧ t.get (fSetState k) = 1 ∧
        (4 ≤ k.val → (t.reg (feedReg (k.val - 4) 0x40)).getLsbD 6 = true))) ∧
      (s.get (fSetState k) = 1 → (s.pset k).due = none →
        Completes (.paramSetAbort k) s (fun t => t.get (fSetState k) = 0 ∧ t.pset k = {} ∧ t.vid.cams = s.vid.cams ∧ t.vid.feeds = s.vid.feeds))) ∧
    (s.running →
      (s.get (fSetState k) = 1 →
        Completes (.paramSetChecksDone k) s (fun t => t.regs = s.regs ∧
          (t.pset k).checked = some (if k.val < 4 then decide (s.grdSetCause k = 0) else s.feedSetOk (k.val - 4)) ∧ (t.pset k).due = (s.pset k).due)) ∧
      (∀ j : Nat, (s.pset k).due = some j → (s.pset k).checked = some true → j < 2 ^ 64 →
        Completes (.paramSetApply k) s (fun t => t.get (fSetState k) = 2 ∧ t.get (fAppliedId k) = (s.pset k).id % 65536 ∧
          t.reg64 (commitReg k 0x10) = j ∧ t.pset k = {} ∧
          (if k.val < 4 then (t.cam k).active else (t.feed (k.val - 4)).active) = s.shadowBank k ∧
          (t.reg (commitReg k 0x18)).toNat = (if (s.pset k).tgt < j then min 0xFFFFFFFF ((s.reg (commitReg k 0x18)).toNat + 1)
            else (s.reg (commitReg k 0x18)).toNat))) ∧
      (∀ j : Nat, (s.pset k).due = some j → (s.pset k).checked = some false →
        Completes (.paramSetApply k) s (fun t => t.get (fSetState k) = 0 ∧ t.pset k = {} ∧ t.vid.cams = s.vid.cams ∧ t.vid.feeds = s.vid.feeds ∧
          (k.val < 4 → (t.reg (grdReg k 0xC0)).getLsbD 4 = true))) ∧
      (s.get (fSetState k) = 2 → Completes (.paramSetSyncDone k) s (fun t => t.get (fSetState k) = 0 ∧ t.vid = s.vid))))

/-- R412 to R414, R435: a feed starts only with a good configuration; the boundary of a frame, its verdict, a verdict that does
not come, with the end of its wait first (R436), and the reading of the source ring. R419 to R422, R425: a packet is formed and held back; the held packet leaves with M,
VOID and DROP once the verdict is final; the CSI-2 transmitter sends a line of the feed whose line has been ready longest, then the
embedded line and FE; a producer publishes a layer's buffer. -/
def Obligations.Feeds : Prop :=
  (∀ (s : State) (f : Fin 8),
    (s.gateOpen 12 →
      (s.get (fFeedEn f) = 0 → s.feedCause f = 0 → s.availPast f (s.reg64 (feedReg f 0x20)) < 0 →
        Completes (.feedEn f true) s (fun t => t.get (fFeedEn f) = 1 ∧ t.get (fFeedState f) = 1 ∧ (t.feed f).frame = s.reg64 (feedReg f 0x20) ∧
          (t.feed f).open_ = false ∧ (t.feed f).count = 0 ∧ t.dest (16 + f.val) = {})) ∧
      (s.get (fFeedEn f) = 0 → s.feedCause f ≠ 0 →
        Completes (.feedEn f true) s (fun t => t.get (fFeedEn f) = 0 ∧ (t.reg (aFeedEvt f)).getLsbD 9 = true ∧ t.get ⟨feedReg f 0x44, 0, 4⟩ = s.feedCause f ∧
          t.vid = s.vid)) ∧
      (s.get (fFeedEn f) = 1 →
        Completes (.feedEn f false) s (fun t => t.get (fFeedEn f) = 0 ∧ t.get (fFeedState f) = 0 ∧ (t.feed f).open_ = false ∧ t.dest (16 + f.val) = {})) ∧
      (s.get (fFeedEn f) = 1 → (s.feed f).open_ = false → ∀ m : Nat, 1 ≤ m → m ≤ s.feedH f → ∀ v : Word,
        v = BitVec.ofNat 32 ((s.feed f).frame * s.feedH f + m) →
        Completes (.feedAvailWrite f v) s (fun t => t.reg (feedReg f 0x28) = v ∧ (t.feed f).open_ = true ∧ (t.feed f).frame = (s.feed f).frame ∧
          (t.feed f).startAt = s.ctNs ∧ (t.feed f).verdict = none ∧ (t.feed f).consumed = 0 ∧ t.get (fFeedState f) = 2)) ∧
      ((s.feed f).open_ = true → (s.feed f).verdict = none → s.ctNs < (s.feed f).startAt + 2000000000 / s.rate → ∀ v : Word,
        (s.feed f).frame % 2147483648 = v.toNat / 2 →
        Completes (.feedVerdictWrite f v) s (fun t => (t.feed f).verdict = some (v.getLsbD 0) ∧ (t.feed f).frame = (s.feed f).frame ∧
          (t.reg (feedReg f 0x50)).toNat = (if v.getLsbD 0 then min 0xFFFFFFFF ((s.reg (feedReg f 0x50)).toNat + 1) else (s.reg (feedReg f 0x50)).toNat))) ∧
      ((s.feed f).open_ = true → (s.feed f).verdict = none → (s.feed f).startAt + 2000000000 / s.rate ≤ s.ctNs → ∀ v : Word,
        Completes (.feedVerdictWrite f v) s (fun t => (t.feed f).verdict = some true)) ∧
      (((s.feed f).open_ = true → (s.feed f).verdict = none → s.ctNs < (s.feed f).startAt + 2000000000 / s.rate) → ∀ v : Word,
        (s.feed f).frame % 2147483648 ≠ v.toNat / 2 →
        Completes (.feedVerdictWrite f v) s (fun t => t.vid = s.vid ∧ t.reg (feedReg f 0x50) = s.reg (feedReg f 0x50)))) ∧
    (s.running →
      ((s.feed f).open_ = true → (s.feed f).verdict = none → (s.feed f).startAt + 2000000000 / s.rate ≤ s.ctNs →
        Completes (.verdictLate f) s (fun t => (t.feed f).verdict = some true ∧ (t.reg (aFeedEvt f)).getLsbD 1 = true ∧
          (t.reg (feedReg f 0x4C)).toNat = min 0xFFFFFFFF ((s.reg (feedReg f 0x4C)).toNat + 1))) ∧
      ((s.feed f).verdict.isSome = true → Completes (.verdictLate f) s (fun t => t = s)) ∧
      (let x := s.feed f
       let n := s.feedRowRead f
       let ring := 2 ^ (s.feedWord f 4 % 32)
       let at_ := ((x.frame * s.feedH f + x.asked / n) * s.feedWord f 8 + x.asked % n) % ring
       s.get (fFeedEn f) = 1 → x.open_ = true → x.ended = false → s.clocked 12 = true → (∀ l : Fin 4, (x.layer l).shown = false) → s.readsOut < 32 →
        x.asked / n < s.rowsAvail f → x.asked / n < s.rowFloor f + formRows →
        Completes (.feedRowRead f) s (fun t => (t.feed f).reads = x.reads + 1 ∧
          (t.feed f).asked = x.asked + min (n - x.asked % n) (min 512 (ring - at_)) ∧ (t.feed f).consumed = x.consumed)))) ∧
  (∀ (s : State) (f : Fin 8),
    let x := s.feed f
    (s.running →
      (∀ k : Fin 2, let r := x.stream k
        s.get (fFeedEn f) = 1 → x.open_ = true → x.ended = false → s.streamOn f k = true → r.idle = false → s.clocked 12 = true → r.pair < s.streamPairs f k →
        s.pairReadyFor f k r.pair = true → r.held = none → (∀ l : Fin 4, s.layerOn f l = false) →
        Completes (.rtpPacketSend f k) s (fun t => ((t.feed f).stream k).held = some (s.rtpPacket f k r) ∧
          ((t.feed f).stream k).seq = (r.seq + 1) % 4294967296 ∧
          (((t.feed f).stream k).pair, ((t.feed f).stream k).part) =
            (if (s.packetSpan f k r.part).2.2 ≤ r.part + 1 then (r.pair + 1, 0) else (r.pair, r.part + 1)))) ∧
      (x.open_ = true → x.ended = true → ∀ void, x.verdict = some void → ∀ (k : Fin 2) (pkt : List Byte), (x.stream k).held = some pkt →
        s.get (fEthEn (bits (s.streamCfg f k) 1 1)) = 1 →
        s.streamQueued (bits (s.streamCfg f k) 1 1) (2 * f.val + k.val) + pkt.length + 50 ≤ 65536 →
        Completes (.heldPacketSend f k) s (fun t => ((t.feed f).stream k).held = none ∧
          ∃ head : List Byte, (t.eth (bits (s.streamCfg f k) 1 1)).txq =
            (s.eth (bits (s.streamCfg f k) 1 1)).txq ++ [(2 * f.val + k.val, head ++ sealPacket pkt void (x.stream k).drop)])) ∧
      (∀ k : Fin 2, x.verdict = none → Completes (.heldPacketSend f k) s (fun t => t = s)) ∧
      (s.csiOn f = true → x.csi.live = true → s.get (fFeedEn f) = 1 → x.open_ = true → s.clocked 13 = true → x.csi.finished = false →
        x.csi.started = true →
        (x.csi.dropped = false → x.csi.sent < s.csiReady f → s.csiNext = some f.val →
          Completes (.csitxLineSend f) s (fun t => (t.feed f).csi.sent = x.csi.sent + 1 ∧ t.vid.csiOrder = s.vid.csiOrder.erase f ∧
            t.out.head? = some (.csi (s.csiVc f) (s.csiLine f x.csi.sent).1 (s.csiLine f x.csi.sent).2))) ∧
        (x.csi.dropped = true → ∀ void, x.verdict = some void →
          Completes (.csitxLineSend f) s (fun t => (t.feed f).csi.finished = true ∧
            t.out = .csi (s.csiVc f) 1 (csiNumber x.frame) ::
              .csi (s.csiVc f) 0x12 (beBytes 4 x.frame ++ beBytes 8 (s.feedEdge f x.frame) ++ beBytes 4 (s.feedFlags f + b2n void + 2)) :: s.out)))) ∧
    (s.gateOpen 12 → ∀ (l : Fin 4) (v fid : Word),
      Completes (.layerReadyWrite f l v fid) s (fun t => t.layerWord f l 0x24 = v.toNat % 4 ∧ t.layerWord f l 0x28 = fid.toNat ∧
        t.layerWord f l 0x30 = min 0xFFFFFFFF (s.layerWord f l 0x30 + 1) ∧ (s.get (fFeedEn f) = 1 → bit (t.feed f).readied l = true))))

/-- R449 to R452, Table 15-4: READY once per epoch when the flags have reached their targets; the pole holds READYs, commits when
all have come before boundary(n + 2), and ignores a READY for a decided epoch; a chip writes the epoch word of each decision;
EPOCH_FAIL abandons. -/
def Obligations.EpochBarrier : Prop :=
  ∀ s : State, s.running → ∀ plan n : Nat,
    let e := s.plan plan
    (e.covers n = true → bit e.nodes s.node = true → s.flagsReached e n = true → s.mem.ecc = [] → (∀ m, e.sentReady = some m → m < n) →
      Completes (.epochReadySend plan n) s (fun t => (t.plan plan).sentReady = some n ∧ t.fab = (s.toPole (barrierBeacon 0x10 plan n)).fab)) ∧
    (e.sentReady = some n → exec (.epochReadySend plan n) s = .next (s.readFlags e)) ∧
    (∀ b : Packet, fieldAt b.data 2 2 = plan → fieldAt b.data 8 8 = n → s.isPole = true → bit e.nodes b.src = true → e.ready.contains (b.src, n) = false →
      (e.covers n = true → e.undecided ≤ n → Completes (.epochReady b) s (fun t => (t.plan plan).ready = e.ready ++ [(b.src, n)])) ∧
      (n < e.undecided → Completes (.epochReady b) s (fun t => t.plans = s.plans))) ∧
    (s.isPole = true → e.undecided = n → e.covers n = true →
      (e.allReady n = true → s.ctNs < s.boundary (n + 2) → e.failed = [] →
        Completes (.epochCommitSend plan) s (fun t => (t.plan plan).decided = some n ∧ t.fab = (s.broadcast (barrierBeacon 0x11 plan n)).fab)) ∧
      (s.boundary (n + 2) ≤ s.ctNs → Completes (.epochCommitSend plan) s (fun t => t = s)) ∧
      (∀ b : Packet, fieldAt b.data 2 2 = plan → fieldAt b.data 8 8 = n → e.failed = [] →
        Completes (.epochFail b) s (fun t => (t.plan plan).decided = some n))) ∧
    (∀ b : Packet, fieldAt b.data 2 2 = plan → fieldAt b.data 8 8 = n → (∀ v ∈ s.con.services, v.plan ≠ plan) → e.nodes ≠ 0 →
      e.applied = none → e.first = n → e.held = [] → s.mem.ecc = [] → ∀ a : Nat, e.words = [a] → 0x1000000 ≤ a → a + 8 ≤ 0x1400000 →
      (a + 8 ≤ 0x1380000 ∨ (s.reg 0x24001010).getLsbD 0 = false) →
      Completes (.epochCommit b) s (fun t => (t.plan plan).applied = some n ∧ t.localWord a = some (n % 4294967296) ∧
        t.localWord (a + 4) = some (2 * (n % 2))) ∧
      Completes (.epochAbandon b) s (fun t => (t.plan plan).applied = some n ∧ t.localWord a = some (n % 4294967296) ∧
        t.localWord (a + 4) = some (1 + 2 * (n % 2))))

/-- R462 to R465, R469, R472: the L2 directory: a GetS adds a holder, a granted GetM leaves one owner, the requests that lose to a grant
in their cycle replay, requests wait for an owner whose granted store is not done, PutM and PutC remove a holder, an instruction cache's copy is no holder and
outlives a grant, a snoop hands the line on; an uncorrected word of the L2 is corrected or recorded when it is read; a lockstep mismatch stops the pair. -/
def Obligations.Coherence : Prop :=
  ∀ s : State, s.running → s.firmwareUp = true → ∀ (u v : Fin 3) (line : Fin 49152), s.l2Has line = true → s.ctl.lastOwner.length = 4 →
    s.mem.ecc = [] →
    let k := s.l2Line line
    let bank := line.val % 4
    let data (u : Fin 3) : Fin 6 := u.castLE (by decide)
    let code (u : Fin 3) : Fin 6 := u.natAdd 3
    let counted (n : Nat) (t : State) : Prop := (t.reg 0x2400100C).toNat = min 0xFFFFFFFF ((s.reg 0x2400100C).toNat + n)
    ((∀ q ∈ s.ctl.reqs, q.line ≠ line ∨ q.at_ ≠ s.now) → k.waitM = [] → k.waitS = [] →
      (k.storing = false → k.holders.contains u.val = false →
        Completes (.gets (data u) line) s (fun t => t.l2Line line =
          { k with holders := k.holders ++ [u.val], owner := if k.holders = [] then some u.val else none, dirty := false })) ∧
      (k.storing = false → Completes (.getm u line) s (fun t =>
        t.l2Line line = { code := k.code, holders := [u.val], owner := some u.val, dirty := true, storing := true } ∧ t.ctl.lastOwner.getD bank 2 = u.val ∧ counted 0 t)) ∧
      (k.storing = true → k.owner = some v.val → u ≠ v →
        Completes (.gets (data u) line) s (fun t => t.l2Line line = { k with waitS := [u.val] }) ∧
        Completes (.getm u line) s (fun t => t.l2Line line = { k with waitM := [u.val] } ∧ counted 0 t)) ∧
      (k.storing = false → k.owner = some u.val → Completes (.putm u line) s (fun t => t.l2Line line =
        { k with holders := k.holders.filter (fun h => h ≠ u.val), owner := none, dirty := false })) ∧
      (k.storing = false → k.dirty = false →
        Completes (.putc (data u) line) s (fun t => (t.l2Line line).holders.contains u.val = false)) ∧
      (k.storing = false →
        Completes (.gets (code u) line) s (fun t => t.l2Line line =
          { k with code := k.code.filter (fun h => h + 3 ≠ 3 + u.val) ++ [u.val], owner := none, dirty := false }) ∧
        Completes (.putc (code u) line) s (fun t => t.l2Line line = { k with code := k.code.filter (fun h => h + 3 ≠ 3 + u.val) }))) ∧
    (∀ q : LineReqs, s.ctl.reqs = [q] → q.line = line → q.at_ = s.now → q.lost = 0 → q.was.storing = false → q.was.waitM = [] → q.was.waitS = [] →
      u ≠ v → q.reqs = [(2, v.val)] →
      let winner := if firstAfter q.last [v.val, u.val] = some u.val then u else v
      let loser := if winner = u then v else u
      Completes (.getm u line) s (fun t => t.l2Line line =
        { code := q.was.code, holders := [winner.val], owner := some winner.val, dirty := true, storing := true, waitM := [loser.val] } ∧ counted 1 t) ∧
      Completes (.gets (data u) line) s (fun t => t.l2Line line =
        { code := q.was.code, holders := [v.val], owner := some v.val, dirty := true, storing := true, waitS := [u.val] } ∧ counted 1 t)) ∧
    (u ≠ v → k.storing = true → k.owner = some u.val → k.waitM = [v.val] → k.waitS = [] →
      Completes (.snoop u line) s (fun t => t.l2Line line = { code := k.code, holders := [v.val], owner := some v.val, dirty := true, storing := true } ∧
        t.ctl.lastOwner.getD bank 2 = v.val)) ∧
    (k.waitM = [] → k.waitS = [] → Completes (.snoop u line) s (fun t => t = s)) ∧
    (∀ w, 8 * line.val ≤ w → w < 8 * line.val + 8 →
      let hurt (two : Bool) : State := { s with mem := { s.mem with ecc := [(1, w, two)] } }
      Completes (.gets (data u) line) (hurt false) (fun t => t.mem.ecc = [] ∧
        (t.reg 0x24001000).toNat = min 0xFFFFFFFF ((s.reg 0x24001000).toNat + 1) ∧ t.saf.events = s.saf.events) ∧
      Completes (.gets (data u) line) (hurt true) (fun t => (t.reg 0x24001004).toNat = w + 4194304 + 2147483648 ∧ (0x03, w) ∈ t.saf.events)) ∧
    (s.ctl.stopped = false →
      Completes .lockstepMismatch s (fun t => t.ctl.stopped = true ∧ (t.reg 0x24001008).getLsbD 0 = true ∧
        (∃ e, t.saf.log.getLast? = some e ∧ e.code = 0x01) ∧ (s.get fLatch = 0 → t.get fLatch = 1 ∧ t.get fLatchOrigin = 0x01)))

/-- R474 to R482: the ROM's stages, link boot, and host push. -/
def Obligations.Boot : Prop :=
  ∀ s : State, s.running →
    (s.get fStage = 0 → s.clearBusy = false → ∀ ok, Completes (.bootStageEnd ok) s (fun t => t.get fStage = 1 ∧ t.get ⟨0x26000400, 3, 2⟩ = s.bootSrc)) ∧
    (s.get fStage = 0 → s.clearBusy = true → ∀ ok, Completes (.bootStageEnd ok) s (fun t => t = s)) ∧
    (s.get fStage = 1 → ∀ ok, Completes (.bootStageEnd ok) s (fun t => t.get fStage = 2 ∧
      t.get fSource = (if s.bootSrc = 1 then 1 else if s.bootSrc = 2 then 2 else 0))) ∧
    (s.get fStage = 2 → s.get fSource = 0 →
      (s.stageSlot.2 = true → Completes (.bootStageEnd true) s (fun t => t.get fStage = 3)) ∧
      (s.ctl.tried = 1 → s.bootSrc = 3 → Completes (.bootStageEnd false) s (fun t => t.get fStage = 2 ∧ t.get fSource = 1)) ∧
      (s.ctl.tried = 1 → s.bootSrc ≠ 3 → Completes (.bootStageEnd false) s (fun t => t.get fStage = 2 ∧ t.get fSource = 2))) ∧
    (s.get fStage = 3 → ∀ ok, Completes (.bootStageEnd ok) s (fun t =>
      t.get fStage = (if s.sec.setOk s.stagedHeader s.stagedImages then 4 else 2) ∧
      (s.sec.setOk s.stagedHeader s.stagedImages = true → t.reg 0x24001010 = 1#32))) ∧
    (s.get fStage = 2 → s.get fSource = 1 → ∀ p : Fin 6, s.ctl.progressAt + 10 * ms ≤ s.now → (∀ q : Fin 6, s.active q = true ↔ q = p) →
      Completes .linkBootTimeout s (fun t => t.ctl.askPort = some p.val ∧ t.ctl.progressAt = s.now ∧
        t.reg 0x24001014 = BitVec.ofNat 32 (s.get (fPeerNode p) + 256) ∧ (∀ o < 0x37FF00, tblGet byteZero t.mem.sram o = 0#8))) ∧
    (∀ r u, s.takeReq r = some u →
      (s.firmwareUp = true → r.path = 3 → Completes (.linkBootReq r) s (fun t => t.ctl.pushTo.contains r.entry = true ∧ t.regs = s.regs)) ∧
      (s.get fStage = 2 → s.get fSource = 2 →
        (∀ o bs, r.path = 0 → r.data = leBytes 4 o ++ leBytes 4 0 ++ bs → o + bs.length ≤ 0x300000 →
          Completes (.bootChunk r) s (fun t => t.mem.sram = tblSets byteZero s.mem.sram o bs)) ∧
        (r.path ≠ 0 → Completes (.bootChunk r) s (fun t => t = u.answer r 0x0B03 [])) ∧
        (r.path ≠ 0 → r.path ≠ 3 → Completes (.bootGo r) s (fun t => t = u.answer r 0x0B03 [])) ∧
        (r.path = 0 → r.data.length = 4 → fieldAt r.data 0 4 ≤ 4096 + 3145728 → fwLen s.stagedHeader + safeLen s.stagedHeader ≤ 3145728 →
          Completes (.bootGo r) s (fun t => t.get fStage = 3 ∧ t.ctl.bootGo = some r)))) ∧
    (∀ node : Fin 64, s.firmwareUp = true → s.ctl.pushTo.contains node.val = true →
      Completes (.linkBootPush node) s (fun t => t.ctl.pushTo = s.ctl.pushTo.filter (fun n => n ≠ node.val) ∧ t.mem = s.mem))

/-- R489 to R496, R488: doorbells and slots of the SPI target, the status byte, an opcode that Table 17-2 does not have, the consumption of
a posted message in its turn, where it is taken or relayed to the pole, datagrams, and the relay of messages. -/
def Obligations.Mailboxes : Prop :=
  ∀ s : State, s.running →
    (∀ (p : Fin 4) (v : Word), Completes (.mbxPost p v) s (fun t => t.kmp.slots = s.kmp.slots ∧ t.kmp.accepted = s.kmp.accepted ∧
      ∀ i < 8, (t.reg (mbxReg p 4)).getLsbD i = ((s.reg (mbxReg p 4)).getLsbD i ||
        (v.getLsbD i && decide (i < mbSlots p 0) && (p.val = 0 || !(s.slot p 0 i).isEmpty))))) ∧
    (∀ (p : Fin 4) (v : Word), s.kmp.outWait = [] → Completes (.mbxOutClear p v) s (fun t =>
      let w := v &&& ~~~ s.justRaised (mbxReg p 8)
      t.reg (mbxReg p 8) = s.reg (mbxReg p 8) &&& ~~~ w ∧
      ∀ i < 8, t.slot p 1 i = if (s.reg (mbxReg p 8) &&& w).getLsbD i then [] else s.slot p 1 i)) ∧
    (∀ (m : List Byte) (v : Word), s.kmp.outWait = [(0, 0, m)] → s.justRaised (mbxReg 0 8) = 0#32 → (s.reg (mbxReg 0 8)).getLsbD 0 = true → v = 1#32 →
      Completes (.mbxOutClear 0 v) s (fun t => t.slot 0 1 0 = m ∧ (t.reg (mbxReg 0 8)).getLsbD 0 = true ∧ t.kmp.outWait = [])) ∧
    (∀ (mb : Fin 4) (sl : Fin 16), s.posted 0 mb sl = true → s.inTurn 0 mb sl = true → sl.val < mbSlots 0 mb → s.spiReady = true →
      kmpCrcOk (s.slotMessage 0 mb sl) = false →
      Completes (.mbxConsume 0 mb sl) s (fun t => t.slot 0 mb sl = [] ∧ t.posted 0 mb sl = false ∧ t.kmp.accepted = s.kmp.accepted ∧
        (t.reg 0x26000010).toNat = min 0xFFFFFFFF ((s.reg 0x26000010).toNat + 1))) ∧
    (∀ (p mb : Fin 4) (sl : Fin 16), s.posted p mb sl = false ∨ s.inTurn p mb sl = false → Completes (.mbxConsume p mb sl) s (fun t => t = s)) ∧
    (∀ (p mb : Fin 4) (sl : Fin 16) (m : List Byte), s.posted p mb sl = true → s.inTurn p mb sl = true → sl.val < mbSlots p mb → s.spiReady = true →
      s.slotMessage p mb sl = m → messageOk mb m = true → s.firmwareUp = true → mb = 0 → s.loss.kmpHeld = false →
      let peer := tblGet (fun _ => 0) s.kmp.peers (slotKey p mb sl)
      let r : Req := { path := p, entry := if p = 3 then peer else s.node, peer := if p = 3 then 0 else peer, code := fieldAt m 2 2, sid := 0,
                       role := bits (fieldAt m 4 2) 12 3, seq := fieldAt m 6 2, data := slice m 16 (kmpLen m) }
      (s.executes = true → byteAt m 0 = 1 → byteAt m 1 = 0 → fieldAt m 2 2 = 0x0101 → fieldAt m 4 2 % 4096 = 0 → bit (fieldAt m 4 2) 15 = false →
        Completes (.mbxConsume p mb sl) s (fun t => t.slot p mb sl = [] ∧ t.posted p mb sl = false ∧ r ∈ t.kmp.accepted ∧
          t.kmp.sessions = s.kmp.sessions)) ∧
      (∀ q, p ≠ 3 → s.executes = false → s.loss.pole = some q → s.kmp.relays = [] →
        fieldAt m 2 2 ≠ 0x0100 → fieldAt m 2 2 ≠ 0x0107 →
        Completes (.mbxConsume p mb sl) s (fun t => t.slot p mb sl = [] ∧ t.posted p mb sl = false ∧ t.kmp.accepted = s.kmp.accepted ∧
          ∃ x, t.kmp.relays = [x] ∧ x.dst = q ∧ x.mb = 0 ∧ x.rest = fragments m ∧ x.isCmd = true))) ∧
    (∀ (sl off : Nat) (v : Byte), sl < 2 → off < 4096 →
      (s.posted 0 0 sl = false → Completes (.spiWrite (0x1000 + 4096 * sl + off) [v]) s (fun t => (t.slot 0 0 sl).getD off 0#8 = v ∧ t.regs = s.regs)) ∧
      (s.posted 0 0 sl = true → Completes (.spiWrite (0x1000 + 4096 * sl + off) [v]) s (fun t => t = s))) ∧
    (∀ addr n : Nat, addr < 65536 → Completes (.spiRead addr n) s (fun t => t.out = .spi ((List.range n).map (fun i => s.spiByte ((addr + i) % 65536))) :: s.out ∧ t.regs = s.regs ∧ t.kmp = s.kmp)) ∧
    (∀ (op addr n : Nat) (data : List Byte), op < 256 → op ∉ ([0, 2, 5, 0x0B] : List Nat) → addr < 65536 →
      Completes (.spiWrite (65536 * op + addr) data) s (fun t => t = s.emit (.spiRepeat 0#8)) ∧
      Completes (.spiRead (65536 * op + addr) n) s (fun t => t = s.emit (.spiRepeat 0#8))) ∧
    Completes .spiStatus s (fun t => ∃ b : Byte, t.out = .spiRepeat b :: s.out ∧ (b.getLsbD 0 = true ↔ (s.reg 0x26000008).toNat % 256 ≠ 0) ∧
      (b.getLsbD 7 = true ↔ s.spiReady = true) ∧ b.toNat / 16 % 8 = s.get fStage) ∧
    (∀ (e : Fin 2) (src : Nat) (data : List Byte),
      (s.kmpPort (e.val + 1) = true → kmpLenFits data = true → data.length = kmpTotal data → bit (byteAt data 1) 2 = false →
        (∀ i, s.freeSlot (e.val + 1) 0 = some i → Completes (.udpDatagram e src data) s (fun t => t.slot (e.val + 1) 0 i = data)) ∧
        (s.freeSlot (e.val + 1) 0 = none → Completes (.udpDatagram e src data) s (fun t =>
          (t.reg (mbxReg (e.val + 1) 0x24)).toNat = min 0xFFFFFFFF ((s.reg (mbxReg (e.val + 1) 0x24)).toNat + 1)))) ∧
      (s.kmpPort (e.val + 1) = true → data.length ≠ kmpTotal data → Completes (.udpDatagram e src data) s (fun t => t.kmp = s.kmp ∧
        (t.reg (mbxReg (e.val + 1) 0x10)).toNat = min 0xFFFFFFFF ((s.reg (mbxReg (e.val + 1) 0x10)).toNat + 1)))) ∧
    (∀ (id at_ : Nat) (r : Relay), s.relayOf id = some r → r.refused = some at_ → at_ + ms ≤ s.now →
      Completes (.relayRetry id) s (fun t => ∀ x ∈ t.kmp.relays, x.id = id → x.refused = none)) ∧
    (∀ (id : Nat) (r : Relay), s.relayOf id = some r →
      ((r.sent.getD 0) + 20 * ms ≤ s.now → Completes (.relayTimeout id) s (fun t => ∀ x ∈ t.kmp.relays, x.id ≠ id)) ∧
      (s.now < (r.sent.getD 0) + 20 * ms → Completes (.relayTimeout id) s (fun t => t = s)))

/-- R500 to R504, R526: a session opens in two steps, its key, its end; the event mask. R505, R506: E advances with an accepted
command; a repeat is answered from the store and never accepted; a fifth command waiting is refused; any other SEQ is discarded
and counted. -/
def Obligations.SessionsAndSequence : Prop :=
  (∀ (r : Req) (s u : State),
    (s.served r u →
      (r.role ≤ 4 → r.data.length = 20 → u.kmp.sessions.length < 32 → (u.kmp.sessions.filter (fun x => x.role = r.role)).length < 4 →
        Completes (.sessionOpen r) s (fun t => ∃ x, t.kmp.sessions.getLast? = some x ∧ x.role = r.role ∧ x.opened = false ∧ x.since = s.now ∧
          x.hostNonce = slice r.data 4 16 ∧ x.mask = fieldAt r.data 0 4 ∧ 1 ≤ x.sid ∧ x.sid ≤ 4095 ∧ ∀ y ∈ u.kmp.sessions, y.sid ≠ x.sid)) ∧
      (r.role ≤ 4 → r.data.length = 20 → 32 ≤ u.kmp.sessions.length → Answers (.sessionOpen r) s r 0x010C [] (fun v => v = u)) ∧
      (∀ (x : Session) (kr : List Byte), u.kmp.sessions = [x] → x.sid = r.sid → x.role = r.role → x.opened = false → u.roleKey x.role = some kr → r.data.length = 32 →
        let sr := leBytes 2 x.sid ++ leBytes 1 x.role
        (r.data = hmac kr (labelHost ++ x.devNonce ++ x.hostNonce ++ sr) →
          Answers (.sessionAuth r) s r 0 (hmac kr (labelDev ++ x.hostNonce ++ x.devNonce ++ sr)) (fun v =>
            ∃ y, v.kmp.sessions = [y] ∧ y.opened = true ∧ y.key = hmac kr (labelSess ++ x.devNonce ++ x.hostNonce ++ leBytes 2 x.sid) ∧
              y.expSeq = 1 ∧ y.seen = s.now)) ∧
        (r.data ≠ hmac kr (labelHost ++ x.devNonce ++ x.hostNonce ++ sr) →
          Answers (.sessionAuth r) s r 0x0106 [] (fun v => v.kmp.sessions = []))) ∧
      (r.data = [] → Completes (.sessionClose r) s (fun t => t = (u.respond r 0 []).closeSession r.sid)) ∧
      (r.data = [] → Answers (.keepalive r) s r 0 [] (fun v => v = u)) ∧
      (r.data.length = 4 → Answers (.eventSubscribe r) s r 0 [] (fun v => ∀ y ∈ v.kmp.sessions, y.sid = r.sid → y.mask = fieldAt r.data 0 4)) ∧
      (u.con.opKey = none → r.sid = 0 → r.path = 0 → r.data.length = 32 → Answers (.setOperatorKey r) s r 0 [] (fun v => v.con.opKey = some r.data))) ∧
    (s.running → ∀ x : Session, s.kmp.sessions = [x] →
      (x.opened = false → x.since + 2 * kmpSec ≤ s.now → Completes (.sessionPendingTimeout x.sid) s (fun t => t.kmp.sessions = [])) ∧
      (x.opened = true → x.seen + 10 * kmpSec ≤ s.now → (∀ a ∈ x.recent, a.resp ≠ none) →
        Completes (.sessionIdleTimeout x.sid) s (fun t => t.kmp.sessions = [])) ∧
      (x.opened = true → s.now < x.seen + 10 * kmpSec → Completes (.sessionIdleTimeout x.sid) s (fun t => t = s))) ∧
    (s.running → ∀ (h : Nat) (x : Transfer), s.con.transfers = [x] → x.handle = h →
      Completes (.handleLapse h) s (fun t => (t.con.transfers = [] ↔ x.at_ + 60 * kmpSec ≤ s.now)))) ∧
  (∀ (s : State) (x : Session) (r : Req) (id : Nat), s.kmp.sessions = [x] → r.seq < 65536 → x.expSeq < 65536 → r.path < 4 →
    (r.seq = x.expSeq → (x.recent.filter (fun a => a.resp.isNone)).length < 4 →
      r ∈ (s.sequence x r id).kmp.accepted ∧ (s.kmp.acceptedAt ≠ s.now → (s.sequence x r id).kmp.accepted = s.kmp.accepted ++ [r]) ∧
        ∃ y, (s.sequence x r id).kmp.sessions = [y] ∧ y.expSeq = (x.expSeq + 1) % 65536 ∧ y.recent.head? = some { seq := r.seq, crc := id }) ∧
    (r.seq = x.expSeq → 4 ≤ (x.recent.filter (fun a => a.resp.isNone)).length → s.sequence x r id = s.answer r 0x0108 []) ∧
    (r.seq ≠ x.expSeq → (s.sequence x r id).kmp.accepted = s.kmp.accepted ∧ (s.sequence x r id).kmp.sessions = s.kmp.sessions) ∧
    (16 < (x.expSeq + 65536 - r.seq) % 65536 → (s.sequence x r id).reg (mbxReg r.path 0x18) =
      (s.bump (mbxReg r.path 0x18)).reg (mbxReg r.path 0x18)))

/-- R505, R508, R511: every command of the mailbox protocol waits for its turn, and a shared check that refuses it answers with
that status and changes nothing else. R488, R510, R517, R520, R522, R524, Tables 17-8, 17-9 and 17-11: what the commands that read
state answer, on this chip. -/
def Obligations.StatusCommands : Prop :=
  (∀ c ∈ ([.getInfo, .sessionOpen, .sessionAuth, .sessionClose, .keepalive, .eventSubscribe, .chipReset, .setOperatorKey, .getTime, .opStatus,
      .constStatus, .nodeStatus, .setConfigRecord, .setFrameRate, .linkStatus, .ptpConfig, .tenantCreate, .tenantRelease, .tenantStatus,
      .modelBegin, .modelChunk, .modelAdmit, .modelCommit, .modelUnload, .modelList, .camConfigure, .camEnable, .camSettings, .camStatus,
      .camGroundSet, .camObscurationCfg, .camAssign, .streamConfigure, .streamEnable, .feedSet, .layerConfigure, .streamStatus,
      .csitxConfigure, .serviceList, .serviceStart, .serviceStop, .serviceSubscribe, .serviceStatus, .countRead, .safetyStatus,
      .safetyConfig, .safetyLock, .safetyFaultLog, .safetyTest, .attestQuote, .attestCert, .lifecycleStatus, .debugUnlockChallenge,
      .debugUnlockToken, .lifecycleSet, .calStatus, .calRun, .calConfig, .regRead, .regWrite, .counters, .telemetry, .ping] : List (Req → Instr)),
    ∀ (r : Req) (s : State), s.running →
      (s.takeReq r = none → Completes (c r) s (fun t => t = s)) ∧
      (∀ u st, s.takeReq r = some u → u.gate r = some st → Answers (c r) s r st [] (fun v => v = u)) ∧
      (∀ u, s.takeReq r = some u → roleOk r = false → u.loss.lone = false → Answers (c r) s r 0x0105 [] (fun v => v = u))) ∧
  (∀ (r : Req) (s u : State), s.served r u →
    (∃ d, Answers (.getInfo r) s r 0 d (fun v => v = u) ∧ d.length = 24 ∧ fieldAt d 0 2 = 0x7240 ∧ byteAt d 2 = 0xA1 ∧ byteAt d 3 = s.lifecycle ∧
      byteAt d 4 = s.node ∧ fieldAt d 12 4 = (s.reg 0x26000400).toNat) ∧
    (∃ d, Answers (.getTime r) s r 0 d (fun v => v = u) ∧ d.length = 25 ∧ fieldAt d 0 8 = s.ctNs % 18446744073709551616 ∧
      fieldAt d 8 8 = s.tim.epoch % 18446744073709551616 ∧ byteAt d 24 = b2n s.tim.vtValid) ∧
    (∃ d, Answers (.constStatus r) s r 0 d (fun v => v = u) ∧ d.length = 44 ∧ fieldAt d 0 8 = s.tim.epoch % 18446744073709551616 ∧
      byteAt d 19 = b2n s.tim.rate25 ∧ fieldAt d 20 8 = s.loss.members % 18446744073709551616) ∧
    (∀ o : Operation, r.data.length = 4 → u.kmp.ops = [o] → o.id = fieldAt r.data 0 4 →
      Answers (.opStatus r) s r 0 (leBytes 4 o.id ++ leBytes 2 o.cmd ++ leBytes 2 (o.status.getD 1) ++ o.result) (fun v => v = u)) ∧
    (r.data.length = 4 → u.kmp.ops = [] → Answers (.opStatus r) s r 0x0109 [] (fun v => v = u)) ∧
    (4 ≤ r.data.length →
      (byteAt r.data 0 = s.node → Answers (.ping r) s r 0 (r.data.drop 4) (fun v => v = u)) ∧
      (u.nodeStatus (byteAt r.data 0) ≠ 0 → Answers (.ping r) s r (u.nodeStatus (byteAt r.data 0)) [] (fun v => v = u))) ∧
    (r.data.length = 1 → byteAt r.data 0 = s.node →
      ∃ d, Answers (.nodeStatus r) s r 0 d (fun v => v.regs = s.regs ∧ v.loss = s.loss) ∧ d.length = 44 ∧ byteAt d 0 = s.node ∧
        byteAt d 1 = s.nodeState s.node ∧ byteAt d 2 = s.lifecycle) ∧
    (r.data.length = 2 → byteAt r.data 0 = s.node → byteAt r.data 1 ≤ 5 →
      ∃ d, Answers (.linkStatus r) s r 0 d (fun v => v.ports = s.ports) ∧ d.length = 84) ∧
    (r.data.length = 2 → byteAt r.data 0 = s.node →
      ∃ d, Answers (.counters r) s r 0 d (fun v => v = u) ∧ d.length ≤ 4000 ∧ d.length % 4 = 0) ∧
    (r.data.length = 2 → byteAt r.data 0 = s.node → byteAt r.data 1 ≤ 3 → u.gated (camReg (byteAt r.data 1) 0) = false →
      (r.role = 4 → ∃ d, Answers (.camStatus r) s r 0 d (fun v => v.vid = s.vid) ∧ d.length = 104 ∧ byteAt d 100 = (s.cam (byteAt r.data 1)).obs.st % 256) ∧
      (r.role ≠ 4 → s.get (fCamTenant (byteAt r.data 1)) ≠ r.role → Answers (.camStatus r) s r 0x0105 [] (fun v => v = u))) ∧
    (r.data.length = 2 → byteAt r.data 0 = s.node → byteAt r.data 1 ≤ 7 → u.gated (feedReg (byteAt r.data 1) 0) = false →
      ∃ d, Answers (.streamStatus r) s r 0 d (fun v => v.vid = s.vid) ∧ d.length = 64) ∧
    (∀ n a v x, diagOk r.data = true → byteAt r.data 0 = s.node → n = fieldAt r.data 2 2 → a = fieldAt r.data 4 8 → s.lifecycle ≠ 2 →
      (r.data.length = 12 → u.spanRead (.fabric u.firmware) a (4 * n) = (v, .inr x) → Answers (.regRead r) s r 0 x.1 (fun w => w = v)) ∧
      (r.data.length = 12 + 4 * n → u.spanWrite (.fabric u.firmware) a (r.data.drop 12) = (v, 0) → Answers (.regWrite r) s r 0 [] (fun w => w = v))) ∧
    (diagOk r.data = true → r.data.length = 12 + 4 * fieldAt r.data 2 2 → s.lifecycle = 2 → Answers (.regWrite r) s r 0x010B [] (fun v => v = u)))

/-- R134, R515, R516, R519, R521 to R524: what the commands that set cameras, streams and the record do, on this chip. -/
def Obligations.ConfigCommands : Prop :=
  ∀ (r : Req) (s u : State), s.served r u →
    let d := r.data
    let p := byteAt d 1
    (d.length = 1 → byteAt d 0 ≤ 1 → b2n s.tim.rate25 ≠ byteAt d 0 → s.loss.formed = true → (∀ k < 4, s.tenantOn k = false) →
      u.opBusy r.code [(4, 0)] = false →
      Completes (.setFrameRate r) s (fun t => t.con.rateOp = some (s.kmp.nextOp, s.tim.epoch + 3) ∧
        ∃ o ∈ t.kmp.ops, o.id = s.kmp.nextOp ∧ o.status = none)) ∧
    (d.length = 1 → byteAt d 0 ≤ 1 → s.loss.formed = true → s.tenantOn 0 = true → Answers (.setFrameRate r) s r 0x0203 [] (fun v => v = u)) ∧
    (d = leBytes 4 0x81 → Answers (.setConfigRecord r) s r 0 (s.cfgResult ++ s.cfgBytes 176 16) (fun v => v = u)) ∧
    (∀ b, d = leBytes 4 2 ++ b → b.length = 420 → signersOk b = true → s.cfgBytes 192 420 ≠ b →
      ∃ v : State, exec (.setConfigRecord r) s = .next (v.respond r 0 v.cfgResult) ∧ v.cfgBytes 192 420 = b ∧
        v.cfgField 8 4 = (s.cfgField 8 4 + 1) % 4294967296) ∧
    (d.length = 8 → byteAt d 0 ≤ 1 → byteAt d 1 ≤ 1 → byteAt d 2 ≤ 127 → byteAt d 3 ≤ 1 → zeros d 4 8 = true → s.cfgBytes 3240 8 ≠ d →
      (netEntries (s.cfgBytes 612 2048)).any (fun o => byteAt (s.cfgBytes 612 2048) o = s.node && byteAt (s.cfgBytes 612 2048) (o + 1) = byteAt d 1 &&
        bit (byteAt (s.cfgBytes 612 2048) (o + 2)) 0 && fieldAt (s.cfgBytes 612 2048) (o + 8) 6 ≠ 0) = true →
      Answers (.ptpConfig r) s r 0 [] (fun v => v.cfgBytes 3240 8 = d ∧ v.tim.ptp.domain = byteAt d 2)) ∧
    (byteAt d 0 = s.node → p ≤ 3 → u.gated (camReg p 0) = false →
      (d.length = 68 → zeros d 2 4 = true →
        (s.get (fCamEn p) = 0 → Answers (.camConfigure r) s r 0 [] (fun v => v.get (fCamEn p) = 0 ∧ v.camW p = fieldAt d 16 2 % 8192 ∧
          v.camH p = fieldAt d 18 2 % 8192)) ∧
        (s.get (fCamEn p) = 1 → Answers (.camConfigure r) s r 0x0403 [] (fun v => v = u))) ∧
      (d.length = 3 →
        (byteAt d 2 = 1 → s.get (fCamEn p) = 0 → u.shapeExceeded p = false → u.camChecks p = true → u.grdCause p = 0 →
          Answers (.camEnable r) s r 0 [] (fun v => v.get (fCamEn p) = 1)) ∧
        (byteAt d 2 = 1 → s.get (fCamEn p) = 0 → u.shapeExceeded p = false → u.grdCause p ≠ 0 →
          Answers (.camEnable r) s r 0x0402 (leBytes 1 (u.grdCause p)) (fun v => v.get (fCamEn p) = 0)) ∧
        (byteAt d 2 = 0 → Answers (.camEnable r) s r 0 [] (fun v => v.get (fCamEn p) = 0)) ∧
        (byteAt d 2 ≤ 3 → u.tenantOn (byteAt d 2) = true → s.get (fCamTenant p) = 7 → s.get (fCamEn p) = 0 → s.wrote (camReg p 0x18) = 0#32 →
          Answers (.camAssign r) s r 0 [] (fun v => v.get (fCamTenant p) = byteAt d 2))) ∧
      (∀ f n, byteAt d 12 = n → 0 < n → d.length = 16 + 8 * n → zeros d 13 16 = true → r.role = 4 → u.freeSetram p n = some f →
        fieldAt d 2 2 ≠ 0 → (s.cam p).queue.length < 4 →
        Answers (.camSettings r) s r 0 [] (fun v => (v.cam p).queue = (s.cam p).queue ++
          [{ first := f, count := n - 1, id := fieldAt d 2 2, tgt := fieldAt d 4 8 }])) ∧
      (d.length = 20 → byteAt d 2 = 0 → byteAt d 3 = 1 → zeros d 6 8 = true → fieldAt d 16 4 = 0 → fieldAt d 4 2 ≠ 0 →
        (s.get (fSetState p) ≠ 1 → Answers (.camGroundSet r) s r 0 [] (fun v => v.get (fSetState p) = 1 ∧ (v.pset p).id = fieldAt d 4 2 ∧
          (v.pset p).tgt = fieldAt d 8 8)) ∧
        (s.get (fSetState p) = 1 → Answers (.camGroundSet r) s r 0x0504 [] (fun v => v = u))) ∧
      (obscureOk d = true → Answers (.camObscurationCfg r) s r 0 [] (fun v => (v.cam p).obs.divDull = byteAt d 4 ∧ (v.cam p).obs.zonesOn = byteAt d 6 ∧
        (v.cam p).obs.frames30 = byteAt d 8))) ∧
    (byteAt d 0 = s.node → p ≤ 7 → u.gated (feedReg p 0) = false →
      (d.length = 140 → zeros d 2 4 = true → s.get (fFeedEn p) = 0 →
        Answers (.streamConfigure r) s r 0 [] (fun v => v.get (fFeedEn p) = 0 ∧ v.feedWord p 0x10 = fieldAt d 16 4)) ∧
      (d.length = 4 →
        (byteAt d 2 = 0 → byteAt d 3 = 1 → s.get (fFeedEn p) = 0 → u.feedCause p ≠ 0 →
          Answers (.streamEnable r) s r 0x0502 (leBytes 1 (u.feedCause p)) (fun v => v.get (fFeedEn p) = 0)) ∧
        (∀ k, byteAt d 2 = k → 1 ≤ k → k ≤ 3 → byteAt d 3 = 1 → s.get (fFeedEn p) = 1 →
          Answers (.streamEnable r) s r 0 [] (fun v => v.get (fOutputEn p k) = 1)) ∧
        (byteAt d 2 = 0 → byteAt d 3 = 0 → Answers (.streamEnable r) s r 0 [] (fun v => v.get (fOutputEn p 1) = 0 ∧ v.get (fOutputEn p 2) = 0 ∧
          v.get (fOutputEn p 3) = 0))) ∧
      (d.length = 360 → s.get (fSetState (4 + p)) = 1 → Answers (.feedSet r) s r 0x0504 [] (fun v => v = u)) ∧
      (d.length = 360 → s.get (fSetState (4 + p)) ≠ 1 → Answers (.feedSet r) s r 0 [] (fun v => v.get (fSetState (4 + p)) = 1 ∧
        (v.pset (4 + p)).id = fieldAt d 2 2 ∧ (v.pset (4 + p)).tgt = fieldAt d 4 8)) ∧
      (∀ l, byteAt d 2 = l → l ≤ 3 → d.length = 44 → byteAt d 3 = 0 → s.get (fFeedEn p) = 0 →
        Answers (.layerConfigure r) s r 0 [] (fun v => v.layerWord p l 0xC = fieldAt d 16 4))) ∧
    (byteAt d 0 = s.node → d.length = 16 → zeros d 1 4 = true → bits (fieldAt d 4 4) 1 2 ≠ 3 → bits (fieldAt d 4 4) 3 2 ≠ 3 → u.gated 0x20300000 = false →
      Answers (.csitxConfigure r) s r 0 [] (fun v => (v.reg 0x20300004).toNat % 256 = fieldAt d 8 4 % 256 ∧ (v.reg 0x20300008).toNat = fieldAt d 12 4))

/-- R535 to R540, Table 18-4: one message for each epoch in order: VALID for a committed epoch, with the level of R536 and R537,
STALE for an abandoned one, UNAVAILABLE after boundary(n + 1) while the instance is UNAVAILABLE, and nothing before its time. R542
to R545, R549, Tables 18-6 and 18-7: a door's level is taken after 20 equal samples and runs its cycle; the settle time and
DOOR_MAX close windows; a closed window whose epochs are decided is published and kept for COUNT_READ. -/
def Obligations.ServiceOutputs : Prop :=
  ((∀ (s : State) (v : Service), s.running → s.service v.id = some v → svcKind v.id = 1 → v.started = true → v.composer = s.node →
    let sent (t : State) (st lvl held : Nat) : Prop := (tblGet (fun _ => (3, none)) t.saf.svc v.id).1 = st ∧
      ∃ w, t.service v.id = some w ∧ w.next = v.next + 1 ∧ w.lastSeq = v.next % 4294967296 ∧ w.published = v.published + 1 ∧
        w.level = lvl ∧ w.held = held
    (v.st = 2 →
      (s.boundary (v.next + 1) ≤ s.ctNs → Completes (.warningCompose v.id) s (fun t => sent t 2 v.level v.held)) ∧
      (s.ctNs < s.boundary (v.next + 1) → Completes (.warningCompose v.id) s (fun t => t = s))) ∧
    (v.st < 2 → v.validFrom ≤ v.next → v.next < v.composeFrom → Completes (.warningCompose v.id) s (fun t => sent t 1 v.level v.held)) ∧
    (v.st < 2 → v.validFrom ≤ v.next → v.composeFrom ≤ v.next →
      (s.svcFate v v.next = none → Completes (.warningCompose v.id) s (fun t => t = s)) ∧
      (s.svcFate v v.next = some true → Completes (.warningCompose v.id) s (fun t => sent t 1 v.level v.held)) ∧
      (∀ r q, s.svcFate v v.next = some false → v.bads.contains v.next = false → s.resultBank v v.next 272 = (q, some r) →
        let l := rawLevel v.cfg (critical (tracksOf r (byteAt v.cfg 3)))
        (v.level ≤ l → Completes (.warningCompose v.id) s (fun t => sent t 0 l 0)) ∧
        (l < v.level → v.held + 1 < fieldAt v.cfg 24 2 → Completes (.warningCompose v.id) s (fun t => sent t 0 v.level (v.held + 1))) ∧
        (l < v.level → fieldAt v.cfg 24 2 ≤ v.held + 1 → Completes (.warningCompose v.id) s (fun t => sent t 0 (v.level - 1) 0))))) ∧
  (∀ (cfg : List Byte) (t : Track),
    (rawLevel cfg none = 0) ∧
    (rawLevel cfg (some t) = 3 ↔ (∃ x, t.ttc = some x ∧ x ≤ fieldAt cfg 16 2) ∨ t.range ≤ fieldAt cfg 22 2) ∧
    (2 ≤ rawLevel cfg (some t) ↔ (∃ x, t.ttc = some x ∧ (x ≤ fieldAt cfg 14 2 ∨ x ≤ fieldAt cfg 16 2)) ∨ t.range ≤ fieldAt cfg 20 2 ∨
      t.range ≤ fieldAt cfg 22 2)) ∧
  (∀ (ts : List Track) (t : Track), critical ts = some t → t ∈ ts ∧ ∀ u ∈ ts, u.before t = false) ∧
  (∀ (s : State) (v : Service) (n st cams : Nat) (t : Option Track), st ≤ 2 →
    let m := s.warning v n st cams t
    m.length = 64 ∧ byteAt m 0 = 1 ∧ byteAt m 1 = 1 ∧ fieldAt m 2 2 = v.id % 65536 ∧ byteAt m 6 = s.node % 256 ∧ byteAt m 7 = st ∧
    fieldAt m 8 4 = n % 4294967296 ∧ byteAt m 40 = (if st = 0 then v.level % 256 else 0) ∧
    (st ≠ 0 → fieldAt m 42 2 = 0xFFFF ∧ fieldAt m 44 2 = 0xFFFF) ∧ fieldAt m 60 4 = (crc32c (m.take 60)).toNat)) ∧
  ((∀ (s : State) (v : Service) (d : Fin 8) (level : Bool) (k : Nat), s.running → s.con.services = [v] → svcKind v.id = 2 → v.started = true →
    k < v.doorCount → v.doorByte k 1 = s.node → v.doorByte k 2 = d.val →
    let o := level == bit (v.doorByte k 3) 0
    let x := v.door k
    let after (P : Door → Prop) : Prop := Completes (.doorSample d level) s (fun t => ∃ w, t.service v.id = some w ∧ P (w.door k))
    (o = x.open_ → after (fun y => y = { x with run := 0 })) ∧
    (o ≠ x.open_ → x.run < 19 → after (fun y => y.run = x.run + 1 ∧ y.open_ = x.open_ ∧ y.st = x.st ∧ y.win = x.win ∧ (x.run = 0 → y.runCt = s.ctNs))) ∧
    (o ≠ x.open_ → 19 ≤ x.run →
      after (fun y => y.open_ = o ∧ y.run = 0 ∧
        (x.open_ = false → x.st = 0 → y.st = 1 ∧ y.win.cycle = (x.win.cycle + 1) % 4294967296 ∧ y.win.openCt = x.runCt) ∧
        (x.open_ = true → x.st = 1 → y.st = 2 ∧ y.win.closeCt = x.runCt) ∧
        (x.open_ = false → x.st = 2 → s.ctNs < x.win.closeCt + 2000000000 → y.st = 1 ∧ y.win = x.win) ∧
        (x.open_ = false → x.st = 2 → x.win.closeCt + 2000000000 ≤ s.ctNs → y.st = 1 ∧ y.due.length = x.due.length + 1 ∧
          y.win.cycle = (x.win.cycle + 1) % 4294967296)))) ∧
  (∀ (s : State) (v : Service) (d k : Nat), s.running → s.doorAt d = some (v, k) →
    let x := v.door k
    (x.st = 2 → x.win.closeCt + 2000000000 ≤ s.ctNs →
      Completes (.settleExpiry d) s (fun t => ∃ w, t.service v.id = some w ∧ (w.door k).st = 0 ∧
        ∃ z : Window, (w.door k).due = x.due ++ [z] ∧ z.openCt = x.win.openCt ∧ z.closeCt = x.win.closeCt ∧ z.fault = false)) ∧
    (x.st = 2 → s.ctNs < x.win.closeCt + 2000000000 → Completes (.settleExpiry d) s (fun t => t = s)) ∧
    (x.st = 1 → x.win.openCt + fieldAt v.cfg 34 2 * 1000000000 ≤ s.ctNs →
      Completes (.doorMaxExpiry d) s (fun t => ∃ w, t.service v.id = some w ∧ (w.door k).st = 1 ∧
        (w.door k).win.cycle = (x.win.cycle + 1) % 4294967296 ∧ (w.door k).win.openCt = s.ctNs ∧
        ∃ z : Window, (w.door k).due = x.due ++ [z] ∧ z.closeCt = s.ctNs ∧ z.fault = true)) ∧
    (∀ z zs, x.due = z :: zs → v.composer = s.node →
      (s.windowDecided v k z = true →
        Completes (.countPublish d) s (fun t => ∃ w, t.service v.id = some w ∧ (w.door k).due = zs ∧ w.seq = v.seq + 1 ∧
          w.published = v.published + 1 ∧ (w.door k).last = s.countMessage { v with seq := v.seq + 1 } k z)) ∧
      (s.windowDecided v k z = false → Completes (.countPublish d) s (fun t => t = s)))) ∧
  (∀ (s : State) (v : Service) (k : Nat) (w : Window),
    let m := s.countMessage v k w
    m.length = 56 ∧ byteAt m 0 = 2 ∧ byteAt m 7 = v.doorByte k 0 % 256 ∧ fieldAt m 8 4 = v.seq % 4294967296 ∧ fieldAt m 12 4 = w.cycle % 4294967296 ∧
    fieldAt m 32 2 = min w.ins 65535 ∧ fieldAt m 34 2 = min w.outs 65535 ∧ fieldAt m 36 2 = min w.missing 65535 ∧
    (bit (byteAt m 38) 2 = true ↔ w.fault = true) ∧ fieldAt m 52 4 = (crc32c (m.take 52)).toNat) ∧
  (∀ (w : Window) (edge i o : Nat),
    (w.holds edge = true → (w.count edge (some (i, o))).ins = w.ins + i ∧ (w.count edge (some (i, o))).outs = w.outs + o ∧
      (w.count edge (some (i, o))).missing = w.missing ∧ (w.count edge none).missing = w.missing + 1 ∧ (w.count edge none).ins = w.ins) ∧
    (w.holds edge = false → ∀ e, w.count edge e = w)))

/-- R531, R548, Table 18-8, R433: the service commands, and an aligned group's state at the pole. -/
def Obligations.ServiceCommands : Prop :=
  (∀ (r : Req) (s u : State), s.served r u →
    (r.role = 4 → Answers (.serviceList r) s r 0 (leBytes 1 u.con.services.length ++ u.con.services.flatMap (fun v =>
      leBytes 2 v.id ++ leBytes 1 v.st ++ leBytes 1 v.cause ++ leBytes 1 v.tenant ++ leBytes 1 v.composer ++ leBytes 2 0)) (fun v => v = u)) ∧
    (12 ≤ r.data.length → svcIdOk (fieldAt r.data 0 2) = false → Answers (.serviceStart r) s r 0x0601 [] (fun v => v = u)) ∧
    (12 ≤ r.data.length → u.noTenants = false → u.get fMode ≠ 2 → r.role = 4 → byteAt r.data 2 ≤ 1 → byteAt r.data 3 = 0 →
      ∀ id, fieldAt r.data 0 2 = id → svcIdOk id = true →
      (∀ v, u.con.services.find? (fun x => x.id = id && x.started) = some v →
        (v.cfg = r.data.drop 12 ∧ v.pkg = fieldAt r.data 4 8 ∧ v.auto = bit (byteAt r.data 2) 0 → Answers (.serviceStart r) s r 0 [] (fun w => w = u)) ∧
        (v.cfg ≠ r.data.drop 12 → Answers (.serviceStart r) s r 0x0108 [] (fun w => w = u))) ∧
      (u.con.services.find? (fun x => x.id = id && x.started) = none →
        (id = 0x3000 → videoCfgOk (r.data.drop 12) = true →
          Answers (.serviceStart r) s r 0 [] (fun w => ∃ v, w.service id = some v ∧ v.started = true ∧ v.cfg = r.data.drop 12 ∧
            v.auto = bit (byteAt r.data 2) 0)) ∧
        (id ≠ 0x3000 → u.con.models.find? (fun m => m.pkg = fieldAt r.data 4 8 && (m.st = 2 || m.st = 3)) = none →
          Answers (.serviceStart r) s r 0x0317 [] (fun w => w = u)))) ∧
    (r.data.length = 2 → svcIdOk (fieldAt r.data 0 2) = true →
      (∀ v, u.service (fieldAt r.data 0 2) = some v →
        (v.started = true → mayService r v = true → Answers (.serviceStop r) s r 0 [] (fun w => ∃ x, w.service v.id = some x ∧ x.started = false ∧ x.st = 2)) ∧
        (mayService r v = false → Answers (.serviceStop r) s r 0x0105 [] (fun w => w = u)) ∧
        (r.role = 4 ∨ v.tenant = r.role → u.composedAway v = false →
          Completes (.serviceStatus r) s (fun t => ∃ d, t = u.respond r 0 d ∧ d.length = 24 ∧ byteAt d 0 = v.st % 256 ∧ byteAt d 1 = v.cause % 256 ∧
            byteAt d 8 = v.stale % 256 ∧ fieldAt d 12 4 = v.published % 4294967296 ∧ fieldAt d 16 4 = v.discards % 4294967296 ∧
            fieldAt d 20 4 = v.invalid % 4294967296)))) ∧
    (r.data.length = 3 → svcIdOk (fieldAt r.data 0 2) = true → byteAt r.data 2 ≤ 1 → ∀ v, u.service (fieldAt r.data 0 2) = some v →
      (r.role = 4 ∨ v.tenant = r.role →
        Answers (.serviceSubscribe r) s r 0 [] (fun w => ∃ x, w.service v.id = some x ∧ (r.sid ∈ x.subs ↔ byteAt r.data 2 = 1))) ∧
      (r.role ≠ 4 → v.tenant ≠ r.role → Answers (.serviceSubscribe r) s r 0x0105 [] (fun w => w = u))) ∧
    (r.data.length = 3 → svcIdOk (fieldAt r.data 0 2) = true → svcKind (fieldAt r.data 0 2) = 2 → r.role = 4 → ∀ v, u.service (fieldAt r.data 0 2) = some v → u.composedAway v = false →
      (∀ k, (List.range v.doorCount).find? (fun k => v.doorByte k 0 = byteAt r.data 2) = some k →
        (v.door k).last ≠ [] → Answers (.countRead r) s r 0 (v.door k).last (fun w => w = u)) ∧
      ((List.range v.doorCount).find? (fun k => v.doorByte k 0 = byteAt r.data 2) = none → Answers (.countRead r) s r 0x0602 [] (fun w => w = u)))) ∧
  (∀ (g : Fin 16) (node : Fin 64) (p : Fin 4) (m : GroupMember) (s : State), s.running → s.executes = true → g ≠ 0 →
    s.vid.members = [m] → m.group = g.val → m.node = node.val → m.pipe = p.val → s.vid.degraded = [] →
    (m.voids < 7 → Completes (.groupStateUpdate g node p true) s (fun t => t.vid.degraded = [] ∧
      ∃ x, t.vid.members = [x] ∧ x.voids = m.voids + 1 ∧ x.goods = 0)) ∧
    (7 ≤ m.voids → Completes (.groupStateUpdate g node p true) s (fun t => t.vid.degraded = [g.val])) ∧
    Completes (.groupStateUpdate g node p false) s (fun t => t.vid.degraded = [] ∧ ∃ x, t.vid.members = [x] ∧ x.voids = 0 ∧ x.goods = m.goods + 1)) ∧
  (∀ (g : Fin 16) (node : Fin 64) (p : Fin 4) (m : GroupMember) (s : State), s.running → s.executes = true → g ≠ 0 →
    s.vid.members = [m] → m.group = g.val → m.node = node.val → m.pipe = p.val → s.vid.degraded = [g.val] →
    (s.groupCams g = [(node.val, p.val)] → Completes (.groupStateUpdate g node p false) s (fun t => (t.vid.degraded = [] ↔ 15 ≤ m.goods))) ∧
    (∀ c ∈ s.groupCams g, c ≠ (node.val, p.val) → Completes (.groupStateUpdate g node p false) s (fun t => t.vid.degraded = [g.val])))

/-- R564, R567, R568, Table 19-6: the phases of a commit at the pole and on a chip, its abort, and the lapse of a reservation. -/
def Obligations.TwoPhaseCommit : Prop :=
  (∀ (b : Packet) (s : State) (m : Model), s.running → s.isPole = true → s.planModel (beaconPlan b) = some m → b.src < 64 →
    (m.phase = 1 →
      let x := { m with prepared := m.prepared ||| 2 ^ b.src }
      (m.nodes &&& x.prepared = m.nodes → Completes (.prepared b) s (fun t => t.planModel (beaconPlan b) = some { x with phase := 2 } ∧
        t.fab = ((s.took b).broadcast (commitBeacon 0x21 (beaconPlan b) 0)).fab)) ∧
      (m.nodes &&& x.prepared ≠ m.nodes → Completes (.prepared b) s (fun t => t.planModel (beaconPlan b) = some x ∧ t.fab = (s.took b).fab))) ∧
    (m.phase ≠ 1 → Completes (.prepared b) s (fun t => t = s.took b)) ∧
    (m.phase = 2 →
      let x := { m with ordered := m.ordered ||| 2 ^ b.src }
      (m.nodes &&& x.ordered = m.nodes →
        Completes (.ordered b) s (fun t => t.planModel (beaconPlan b) = some { x with phase := 3, goAt := s.tim.epoch + 3 } ∧
          t.fab = ((s.took b).broadcast (commitBeacon 0x23 (beaconPlan b) (s.tim.epoch + 3))).fab)) ∧
      (m.nodes &&& x.ordered ≠ m.nodes → Completes (.ordered b) s (fun t => t.planModel (beaconPlan b) = some x ∧ t.fab = (s.took b).fab))) ∧
    (m.phase ≠ 2 → Completes (.ordered b) s (fun t => t = s.took b))) ∧
  (∀ (b : Packet) (s : State), s.running →
    let plan := beaconPlan b
    let c := s.commitOf plan
    (c.st = 1 → Completes (.order b) s (fun t => t.commitOf plan = { c with st := 2 } ∧ t.fab = ((s.took b).toPole (commitBeacon 0x22 plan 0)).fab)) ∧
    (c.st ≠ 1 → Completes (.order b) s (fun t => t = s.took b)) ∧
    ((c.st = 1 ∨ c.st = 2) → (s.share plan 0).present = true →
      Completes (.go b) s (fun t => t.commitOf plan = { c with st := 3, s_ := fieldAt b.data 8 8 } ∧ (t.plan plan).first = fieldAt b.data 8 8 ∧
        (t.plan plan).nodes = (s.share plan 0).nodes ∧ (t.plan plan).flags = (s.share plan 0).flags)) ∧
    ((c.st = 0 ∨ c.st = 3) → Completes (.go b) s (fun t => t = s.took b)) ∧
    ((s.share plan 0).present = true → (c.st = 3 → s.tim.epoch < c.s_) →
      Completes (.commitAbort b) s (fun t => t.commitOf plan = {} ∧ t.plan plan = {} ∧ ∀ x ∈ t.con.shares, x.1 / 128 ≠ plan)) ∧
    (c.st = 3 → c.s_ ≤ s.tim.epoch → Completes (.commitAbort b) s (fun t => t = s.took b))) ∧
  (∀ (plan : Nat) (s : State), s.running → (s.share plan 0).present = true →
    let h := s.share plan 0
    let c := s.commitOf plan
    (c.st = 0 → s.bodiesOk h = true → ((s.readBodies h).loadTables h).2 = none →
      Completes (.commitVerifyDone plan true) s (fun t => t.commitOf plan = { c with st := 1 })) ∧
    (c.st = 0 → s.isPole = false →
      Completes (.commitVerifyDone plan false) s (fun t => t.commitOf plan = { c with retried := true } ∧
        t.mem = (s.readBodies h).mem ∧ t.regs = (s.readBodies h).regs)) ∧
    (∀ m, c.st = 0 → c.retried = true → s.isPole = true → s.planModel plan = some m → m.phase = 1 →
      Completes (.commitVerifyDone plan false) s (fun t => t = (s.readBodies h).abortCommit m 0x0311 [])) ∧
    (c.st ≠ 0 → ∀ ok, Completes (.commitVerifyDone plan ok) s (fun t => t = s))) ∧
  (∀ (h : Nat) (s : State) (m : Model), s.running → s.con.models.find? (fun m => m.handle = h && m.st = 1 && m.phase = 0) = some m →
    (m.reservedAt + 60 * kmpSec ≤ s.now → Completes (.reservationLapse h) s (fun t => t.model m.pkg = some { m with st := 0, placed := [] })) ∧
    (s.now < m.reservedAt + 60 * kmpSec → Completes (.reservationLapse h) s (fun t => t = s)))

/-- R551, R556, R558 to R561, R563, R564, R572: transfers, the order of admission's checks, what it reserves, and unloading. R512,
R648, R654, R31: tenants are created in the record, answered for, and released at an epoch to come. -/
def Obligations.ModelsAndTenants : Prop :=
  ((∀ (r : Req) (s u : State), s.served r u →
    (∀ pkg total crc ten, fieldAt r.data 0 8 = pkg → fieldAt r.data 8 4 = total → fieldAt r.data 12 4 = crc → r.data.length = 16 → pkg ≠ 0 → total ≠ 0 →
      (if r.role = 4 then 7 else r.role) = ten → u.opBusy r.code ((1, pkg) :: (if r.role = 4 then [] else [(0, r.role)])) = false →
      (∀ x, u.con.transfers.find? (fun t => t.pkg = pkg && t.total = total && t.crc = crc && t.tenant = ten) = some x →
        Answers (.modelBegin r) s r 0 (leBytes 2 x.handle) (fun v => v = u)) ∧
      (u.con.transfers.find? (fun t => t.pkg = pkg && t.total = total && t.crc = crc && t.tenant = ten) = none →
        (u.storeFree < total → Answers (.modelBegin r) s r 0x0B02 [] (fun v => v = u)) ∧
        (total ≤ u.storeFree → Answers (.modelBegin r) s r 0 (leBytes 2 u.con.nextHandle) (fun v => v.con.transfers = u.con.transfers ++
          [{ handle := u.con.nextHandle, pkg := pkg, tenant := ten, total := total, crc := crc, at_ := s.now }])))) ∧
    (∀ x, u.con.transfers = [x] → x.handle = fieldAt r.data 0 2 → x.pkg ≠ 0 → (r.role = 4 ∨ r.role = x.tenant) → 8 ≤ r.data.length → r.data.length ≤ 4064 →
      fieldAt r.data 2 2 = 0 → fieldAt r.data 4 4 + (r.data.length - 8) ≤ x.total →
      u.opBusy r.code ((1, x.pkg) :: (if x.tenant = 7 then [] else [(0, x.tenant)])) = false →
      Answers (.modelChunk r) s r 0 [] (fun v => v.con.transfers = [{ x with chunks := x.chunks ++ [(fieldAt r.data 4 4, r.data.drop 8)], at_ := s.now }])) ∧
    (∀ x ten, r.data.length = 2 → u.con.models = [] → u.transfer (fieldAt r.data 0 2) = some x → x.pkg ≠ 0 → (r.role = 4 ∨ x.tenant = r.role) →
      u.modelTenant x = some ten → u.noTenants = false → u.opBusy r.code [(0, ten), (1, x.pkg)] = false →
      let o := u.opStart r [(0, ten), (1, x.pkg)]
      (x.whole = false → Completes (.modelAdmit r) s (fun t => t = o.1.opDone o.2 0x0318 [])) ∧
      (x.whole = true → (crc32c x.bytes).toNat ≠ x.crc → Completes (.modelAdmit r) s (fun t => t = o.1.opDone o.2 0x0310 [])) ∧
      (x.whole = true → (crc32c x.bytes).toNat = x.crc → pkgSigned x.bytes u.signers ten = true → pkgLayoutOk x.bytes = false →
        Completes (.modelAdmit r) s (fun t => t = o.1.opDone o.2 0x0311 [])) ∧
      (∀ q data v f, u.packageStatus x ten = 0 → o.1.packageStatus x ten = 0 → o.1.admitCheck x.bytes ten x.pkg = (q, 0, data, some (v, f)) →
        Completes (.modelAdmit r) s (fun t => ∃ m, t.con.models = [m] ∧ m.pkg = x.pkg ∧ m.tenant = ten ∧ m.st = 1 ∧ m.variant = v ∧ m.placed = f.placed ∧
          m.handle = fieldAt r.data 0 2 ∧ m.plan = u.con.nextPlan ∧ m.reservedAt = s.now))) ∧
    (∀ m, r.data.length = 2 → u.con.models = [m] → m.handle = fieldAt r.data 0 2 → (r.role = 4 ∨ r.role = m.tenant) →
      u.opBusy r.code [(0, m.tenant), (1, m.pkg)] = false →
      (m.st = 0 → Answers (.modelCommit r) s r 0x0317 [] (fun v => v = u)) ∧
      (m.st = 2 → u.get fMode ≠ 2 → Answers (.modelCommit r) s r 0 (leBytes 1 m.variant ++ leBytes 1 0 ++ leBytes 2 m.plan) (fun v => v = u)) ∧
      (∀ q data v f, m.st = 1 → u.get fMode ≠ 2 → u.admitCheck m.bytes m.tenant m.pkg = (q, 0, data, some (v, f)) →
        Completes (.modelCommit r) s (fun t => ∃ x, t.model m.pkg = some x ∧ x.phase = 1 ∧ x.variant = v ∧ x.placed = f.placed ∧ x.prepared = 0 ∧ x.ordered = 0))) ∧
    (∀ m, r.data.length = 8 → u.con.models = [m] → m.pkg = fieldAt r.data 0 8 → (r.role = 4 ∨ r.role = m.tenant) → u.opBusy r.code [(0, m.tenant), (1, m.pkg)] = false →
      (m.st = 0 → Answers (.modelUnload r) s r 0 [] (fun v => v = u)) ∧ (m.st ≠ 0 → Completes (.modelUnload r) s (fun t => ∃ x, t.model m.pkg = some x ∧ x.unloadAt = some (s.tim.epoch + 2) ∧ x.drop = false ∧ x.st = m.st))) ∧
    (r.data.length = 8 → u.model (fieldAt r.data 0 8) = none → Answers (.modelUnload r) s r 0 [] (fun v => v = u)) ∧
    (r.data = [] → r.role = 4 → let n := u.con.models.length + (u.con.transfers.filter (fun x => x.pkg ≠ 0 && (u.model x.pkg).isNone)).length
      Completes (.modelList r) s (fun t => ∃ d, t = u.respond r 0 d ∧ byteAt d 0 = n % 256 ∧ d.length = 4 + 24 * n))) ∧
  (∀ (s : State) (node excl c p : Nat), p ∈ s.freePairs node excl c → ∀ x ∈ s.heldCores node excl, x.core = c → x.holds p = false) ∧
  (∀ (free : List Nat) (lo n i : Nat), firstRun free lo n = some i → i + n ≤ 8 ∧ ∀ j < n, lo + i + j ∈ free) ∧
  (∀ (s : State) (node excl : Nat) (ds : List Demand) (x : Placed), x ∈ (s.placeNode node excl ds).1 →
    x.core < 8 ∧ ∃ d ∈ ds, x.lcore = d.lcore ∧ x.wlen = d.wenv ∧ x.nlen = d.nenv ∧ (∀ j < d.wenv, x.wide + j ∈ s.freePairs node excl x.core) ∧
      (∀ j < d.nenv, 8 + x.narrow + j ∈ s.freePairs node excl x.core)) ∧
  (∀ p : List Byte, pkgLayoutOk p = true → fieldAt p 0 4 = 0x5244554E ∧ byteAt p 4 = 1 ∧ byteAt p 5 ≤ 1 ∧ 1 ≤ byteAt p 6 ∧ byteAt p 6 ≤ 8 ∧
    fieldAt p 24 4 = p.length ∧ fieldAt p 32 4 % 32 = 0)) ∧
  (∀ (r : Req) (s u : State), s.served r u → ∀ t, byteAt r.data 0 = t →
    (r.data.length = 44 → t ≤ 3 → byteAt r.data 1 ≤ 1 → fieldAt r.data 2 2 = 0 → fieldAt r.data 4 8 ≠ 0 → u.opBusy r.code [(0, t)] = false →
      (u.noTenants = false → u.loss.formed = true → u.ratePending = true → Answers (.tenantCreate r) s r 0x0108 [] (fun v => v = u)) ∧
      (u.noTenants = true ∨ u.loss.formed = false → Answers (.tenantCreate r) s r 0x010B [] (fun v => v = u)) ∧
      (u.noTenants = false → u.loss.formed = true → u.ratePending = false → u.tenantOn t = true → u.tenantTier t ≠ byteAt r.data 1 → Answers (.tenantCreate r) s r 0x0301 [] (fun v => v = u)) ∧
      (u.noTenants = false → u.loss.formed = true → u.ratePending = false → u.tenantOn t = false → (∀ n ∈ nodesOf (fieldAt r.data 4 8), u.nodeStatus n = 0) →
        (byteAt r.data 1 = 1 → popCount u.loss.members 64 < 3 → Answers (.tenantCreate r) s r 0x0312 [] (fun v => v = u)) ∧
        (byteAt r.data 1 = 0 → (∀ n ∈ nodesOf (fieldAt r.data 4 8), ((List.range 4).filter (fun x => u.tenantOn x && bit (u.tenantMask x) n)).length < 4) →
          Answers (.tenantCreate r) s r 0 [] (fun v => v.tenantOn t = true ∧ v.tenantTier t = 0 ∧ v.tenantMask t = fieldAt r.data 4 8 ∧
            tblGet (fun _ => []) v.con.tenKeys t = slice r.data 12 32 ∧ v.cfgField 8 4 = (u.cfgField 8 4 + 1) % 4294967296)))) ∧
    (r.data.length = 1 → t ≤ 3 → (r.role = 4 ∨ r.role = t) →
      Completes (.tenantStatus r) s (fun w => ∃ d, w = u.respond r 0 d ∧ byteAt d 0 = t ∧ byteAt d 1 = u.tenantTier t ∧ fieldAt d 4 8 = u.tenantMask t ∧
        (byteAt d 2 = 2 ↔ ∃ x ∈ u.con.releasing, x.1 = t))) ∧
    (r.data.length = 1 → t ≤ 3 → u.tenantOn t = false → Answers (.tenantRelease r) s r 0 [] (fun v => v = u)) ∧
    (r.data.length = 1 → u.tenantOn t = true → (∀ o ∈ u.kmp.ops, o.status ≠ none) →
      (∀ m ∈ u.con.models, m.tenant = t → m.phase = 0) →
      Completes (.tenantRelease r) s (fun w => w.con.releasing = u.con.releasing ++ [(t, u.kmp.nextOp, s.tim.epoch + 2, false)] ∧
        ∀ m ∈ w.con.models, m.tenant = t → 1 ≤ m.st → m.unloadAt = some (s.tim.epoch + 2))))

/-- R579 to R582, R584: heartbeats and SILENT ports, link reports, self-report and the declaration of a loss. -/
def Obligations.LossDetection : Prop :=
  (∀ (v : Word) (s : State), s.pairRuns → Completes (.safHbTx3Write v) s (fun t => t.reg (aHbTx 3) = v ∧ t.loss = { s.loss with hbAt := some s.now } ∧
    ∀ a, a ≠ aHbTx 3 → t.reg a = s.reg a)) ∧
  (∀ (v : Word) (s : State), s.running → s.pairOn = false → Completes (.safHbTx3Write v) s (fun t => t = s)) ∧
  (∀ (p : Fin 6) (data : List Byte) (s : State), s.running →
    (∀ at_, s.get fHbEn = 1 → s.active p = true → s.loss.hbAt = some at_ → s.saf.test = none → s.atInstant 500000 = true →
      s.hopClear p = true → (s.port p).hbMs ≠ some s.ctMs →
      (s.now ≤ at_ + 2 * ms → Completes (.heartbeatSend p) s (fun t => t = (s.onPort p (fun q => { q with hbMs := some s.ctMs })).hopSend p
        (leBytes 4 (s.reg 0x24002004).toNat ++ leBytes 4 (s.reg 0x24002008).toNat ++ leBytes 4 (s.reg 0x2400200C).toNat ++ leBytes 4 (s.reg 0x24002010).toNat))) ∧
      (at_ + 2 * ms < s.now → Completes (.heartbeatSend p) s (fun t => t = s))) ∧
    Completes (.heartbeat p data) s (fun t => t.get (fMiss p) = 0 ∧ t.get (fSilent p) = 0 ∧ t.get (fHbSeq p) = byteAt data 2 ∧
      t.get (fHbState p) = byteAt data 1 % 4 ∧ (∀ i < 4, t.reg (aHbPort p + 4 + 4 * i) = BitVec.ofNat 32 (fieldAt data (4 * i) 4)) ∧
      (t.port p).missMs = s.ctMs ∧ (t.port p).hbIn = true) ∧
    (s.get fHbEn = 1 → s.active p = true → s.get (fSilent p) = 0 →
      ((s.port p).missMs + 4 ≤ s.ctMs → Completes (.silent p) s (fun t => t.get (fSilent p) = 1 ∧ t.get (fMiss p) = 3 ∧ t.get (fLnkEn p) = 0 ∧
        (t.reg 0x24002014).getLsbD p = true ∧ (0x10, p.val) ∈ t.saf.events ∧ (t.port p).silentAt = some s.now)) ∧
      (s.ctMs < (s.port p).missMs + 4 → Completes (.silent p) s (fun t => t = s))) ∧
    (∀ at_, (s.port p).silentAt = some at_ →
      (at_ + 1000 * ms ≤ s.now → Completes (.silentPortReenable p) s (fun t => t.get (fLnkEn p) = 1 ∧ (t.port p).silentAt = none ∧ t.loss = s.loss)) ∧
      (s.now < at_ + 1000 * ms → Completes (.silentPortReenable p) s (fun t => t = s)))) ∧
  (∀ (b : Packet) (s : State), s.running →
    (s.isPole = false → Completes (.linkReport b) s (fun t => t = s.took b)) ∧
    (s.isPole = true → byteAt b.data 3 ≠ 3 → s.loss.reports.any (fun r => r.node = b.src && r.port = byteAt b.data 2) = false →
      let q := s.onLoss (fun l => { l with
        reports := l.reports ++ [{ node := b.src, port := byteAt b.data 2, partner := byteAt b.data 4, at_ := s.now }] })
      Completes (.linkReport b) s (fun t => t.loss.reports = q.loss.reports ∧
        (q.allReported b.src = true → b.src ≠ s.node → bit t.loss.members b.src = false))) ∧
    (s.isPole = true → byteAt b.data 3 = 3 → Completes (.linkReport b) s (fun t =>
      t.loss.reports = s.loss.reports.filter (fun r => !(r.node = b.src && r.port = byteAt b.data 2)) ∧ t.loss.members = s.loss.members)) ∧
    (s.isPole = true → bit s.loss.members b.src = true → b.src ≠ s.node → Completes (.selfLost b) s (fun t =>
      t.loss.members = without s.loss.members b.src ∧ t.loss.version = s.loss.version + 1 ∧ t.loss.losses = (b.src, s.ctNs) :: s.loss.losses)) ∧
    (∀ x : Nat × Bool × Nat × Nat, s.isPole = true → b.src ≠ s.node → bit s.loss.members b.src = false →
      s.loss.changes.find? (fun c => c.2.1 && c.1 = b.src) = some x →
      Completes (.selfLost b) s (fun t => t.loss.version = s.loss.version + 1 ∧ t.loss.changes =
        s.loss.changes.filter (fun c => !(c.1 = b.src && c.2.1)) ++ [(b.src, false, s.loss.version + 1, x.2.2.2)])) ∧
    ((s.isPole = false ∨ b.src = s.node ∨ (bit s.loss.members b.src = false ∧ ∀ c ∈ s.loss.changes, c.2.1 = true → c.1 ≠ b.src)) →
      Completes (.selfLost b) s (fun t => t = s.took b))) ∧
  (∀ s : State, s.running →
    (∀ node : Fin 64, s.isPole = true → s.allReported node.val = false → s.loss.partial_.contains node.val = false →
      (∃ r ∈ s.loss.reports, r.node = node.val ∧ r.at_ + 10 * ms ≤ s.now) →
      Completes (.partialReportTimeout node) s (fun t => t.loss = { s.loss with partial_ := s.loss.partial_ ++ [node.val] } ∧ t.regs = s.regs)) ∧
    (∀ reason at_, s.loss.selfLost = some (reason, at_) →
      (at_ + 10 * ms ≤ s.now → Completes .selfLossReset s (fun t => t.pwr.inReset.isSome = true)) ∧
      (s.now < at_ + 10 * ms → Completes .selfLossReset s (fun t => t = s))))

/-- R585, R587 to R589, R600: the pole beat, its loss, claims and acknowledgements by rank, and a part without a pole. -/
def Obligations.PoleElection : Prop :=
  (∀ (b : Packet) (s : State), s.running →
    Completes (.poleBeat b) s (fun t => t.loss.pole = some b.src ∧ t.loss.beatAt = s.now ∧ t.loss.kmpHeld = false ∧ t.loss.detected = none ∧
      (s.loss.pole = some b.src → t.kmp = s.kmp) ∧ (s.loss.pole ≠ some b.src → t.kmp.sessions = [])) ∧
    (s.loss.detected.isSome = true → b.src ≠ s.node → bit s.loss.members s.node = true →
      ((∀ f, s.loss.follows = some f → b.src < f) → Completes (.poleClaim b) s (fun t => t.loss = { s.loss with follows := some b.src } ∧
        t.fab = ((s.took b).beacon (some b.src) (beaconBytes 0x37 ([0#8] ++ leBytes 1 s.node) 0)).fab)) ∧
      (∀ f, s.loss.follows = some f → f ≤ b.src → Completes (.poleClaim b) s (fun t => t = s.took b))) ∧
    (∀ at_, s.loss.claimAt = some at_ →
      (s.now ≤ at_ + ms → Completes (.claimAck b) s (fun t => t.loss = { s.loss with acks := s.loss.acks ||| 2 ^ (byteAt b.data 2 % 64) })) ∧
      (at_ + ms < s.now → Completes (.claimAck b) s (fun t => t = s.took b)))) ∧
  (∀ s : State, s.running →
    (s.isPole = true → s.loss.formed = true → s.loss.beatSent ≠ some s.ctMs →
      Completes .poleBeatSend s (fun t => t.loss = { s.loss with beatSent := some s.ctMs } ∧
        t.fab = (s.broadcast (beaconBytes 0x35 ([0#8, 0#8, 0#8] ++ leBytes 4 s.loss.version) s.tim.epoch)).fab)) ∧
    (s.isPole = false → Completes .poleBeatSend s (fun t => t = s)) ∧
    (s.loss.formed = true → s.isPole = false → s.loss.pole.isSome = true → s.loss.detected = none →
      (s.loss.beatAt + 7 * ms / 2 ≤ s.now → Completes .poleLossDetect s (fun t => t.loss.detected = some s.now ∧ t.loss.kmpHeld = true ∧
        (s.get fArm = 0 → t.get fArm = 1 ∧ t.reg64 0x21008008 = 0))) ∧
      (s.now < s.loss.beatAt + 7 * ms / 2 → Completes .poleLossDetect s (fun t => t = s))) ∧
    (∀ at_ r, s.loss.detected = some at_ → s.candidates.findIdx? (fun n => n = s.node) = some r → s.poleElig = true → s.loss.claimAt = none →
      (s.loss.follows = none → at_ + ms + 3 * ms * r ≤ s.now → Completes .poleClaimSend s (fun t =>
        t.loss = { s.loss with claimAt := some s.now, acks := 2 ^ s.node, follows := some s.node } ∧
        t.fab = (s.broadcast (beaconBytes 0x36 ([0#8] ++ leBytes 1 s.node ++ leBytes 1 0 ++ leBytes 4 s.loss.version) 0)).fab)) ∧
      (s.now < at_ + ms + 3 * ms * r → Completes .poleClaimSend s (fun t => t = s)) ∧
      (∀ f, s.loss.follows = some f → f < s.node → Completes .poleClaimSend s (fun t => t = s))) ∧
    (∀ at_, s.loss.claimAt = some at_ →
      (∀ old, at_ + ms ≤ s.now → s.loss.follows = some s.node → s.keeps s.loss.acks = true → s.loss.pole = some old → old ≠ s.node →
        bit s.loss.members old = true → s.keeps (without s.loss.members old) = true →
        Completes .claimWindowEnd s (fun t => t.loss.pole = some s.node ∧ bit t.loss.members old = false ∧ t.kmp.sessions = [] ∧ t.loss.detected = none)) ∧
      (at_ + ms ≤ s.now → s.keeps s.loss.acks = false → Completes .claimWindowEnd s (fun t => t.loss = { s.loss with claimAt := none } ∧ t.fab = s.fab)) ∧
      (s.now < at_ + ms → Completes .claimWindowEnd s (fun t => t = s))) ∧
    (∀ at_, s.loss.detected = some at_ →
      (at_ + 30 * ms ≤ s.now → Completes .noPoleTimeout s (fun t => t.loss.stopAt = some (s.tim.epoch + 1) ∧ t.loss.pole = none ∧ t.loss.formed = false ∧
        t.loss.kmpHeld = true)) ∧
      (s.now < at_ + 30 * ms → Completes .noPoleTimeout s (fun t => t = s))))

/-- R577, R578, R592 to R594, R602 to R604, R3: MEMBERSHIP and the arming of fallback plans, the switch after a reload, joins and
the reasons to refuse them, automatic re-admission, and the lone chip. -/
def Obligations.MembershipChanges : Prop :=
  (∀ (b : Packet) (s : State) (x m : Nat), s.running → byteAt b.data 2 = x → fieldAt b.data 8 8 = m →
    let kept := s.loss.changes.filter (fun c => !(c.1 = x && c.2.1))
    (s.isPole = true → b.src = s.node → Completes (.membership b) s (fun t => t = s.took b)) ∧
    (s.isPole = false ∨ b.src ≠ s.node →
      (byteAt b.data 3 = 1 → Completes (.membership b) s (fun t => t.loss.members = s.loss.members ∧ t.loss.version = fieldAt b.data 4 4 ∧
        t.loss.changes = kept ++ [(x, true, fieldAt b.data 4 4, m)] ∧ t.regs = s.regs)) ∧
      (byteAt b.data 3 = 0 → x = s.node → Completes (.membership b) s (fun t => t.loss.stopAt = some m ∧ t.loss.formed = false)) ∧
      (byteAt b.data 3 = 0 → x ≠ s.node → Completes (.membership b) s (fun t => t.loss.members = without s.loss.members x ∧
        t.loss.version = fieldAt b.data 4 4 ∧ t.loss.changes = kept ++ [(x, false, fieldAt b.data 4 4, m)])) ∧
      (∀ p e, byteAt b.data 3 = 0 → x ≠ s.node → s.plans = [(p, e)] →
        ((s.took b).lossAction p x = 1 → Completes (.membership b) s (fun t => (t.plan p).pend = e.pend ++ [(m, x, true)])) ∧
        ((s.took b).lossAction p x = 2 → Completes (.membership b) s (fun t => (t.plan p).pend = e.pend ++ [(m, x, false)])) ∧
        ((s.took b).lossAction p x = 0 → Completes (.membership b) s (fun t => t.plans = s.plans))))) ∧
  (∀ (s : State) (plan x : Nat), (s.plan plan).nodes ≠ 0 → (s.plan plan).end_ = none →
    (bit (s.plan plan).nodes x = false → (s.plan plan).safetyTier = false → s.lossAction plan x = 0) ∧
    (bit (s.plan plan).nodes x = true → (s.plan plan).fallback.isSome = true → s.lossAction plan x = 2)) ∧
  (∀ (plan : Nat) (s : State) (md : Model) (x c : Nat), s.running → s.isPole = true →
    s.con.models.find? (fun m => m.running.1 = plan && m.reloading) = some md → s.loss.losses.find? (fun l => bit (s.plan plan).nodes l.1) = some (x, c) →
    Completes (.sectionReloadDone plan) s (fun t => t.model md.pkg = some { md with reloading := false } ∧
      (t.plan plan).pend = (s.plan plan).pend ++ [(s.leadEpoch 5000000, x, true)] ∧ (t.plan plan).abandonTo = s.leadEpoch 5000000)) ∧
  (∀ (b : Packet) (quote : List Byte) (s : State), s.running →
    let node := byteAt b.data 2 % 64
    let why := s.joinRefusal node (fieldAt b.data 4 4) quote (s.random 32).2
    let pending := s.loss.changes.any (fun c => c.2.1 && c.1 = node)
    (s.isPole = false ∨ pending = true → Completes (.joinSeen b quote) s (fun t => t = s.took b)) ∧
    (s.isPole = true → pending = false → why = 0 → Completes (.joinSeen b quote) s (fun t => t.loss.version = s.loss.version + 1 ∧ t.loss.members = s.loss.members)) ∧
    (s.isPole = true → pending = false → why ≠ 0 → Completes (.joinSeen b quote) s (fun t => t.loss.members = s.loss.members ∧ t.loss.version = s.loss.version ∧
      t.loss.refused.head? = some (node, why)))) ∧
  (∀ (s : State) (node fw : Nat) (quote nonce : List Byte), s.joinRefusal node fw quote nonce = 0 ↔
    bit (s.cfgField 20 8) node = true ∧ bit s.loss.members node = false ∧ fw = s.sec.running ∧ s.attested quote nonce = true ∧ s.lifecycle ≠ 3 ∧
      (s.recentLosses node < 3 ∨ s.loss.pardoned.contains node = true)) ∧
  (∀ (pkg : Nat) (s q : State) (m : Model) (d : List Byte) (v : Nat) (f : Fit), s.running → s.isPole = true → s.model pkg = some m → m.st = 3 →
    m.phase = 0 → m.reloading = false → m.unloadAt = none → (∀ x ∈ s.con.models, x.tenant = m.tenant → x.phase = 0) →
    (m.tier = 1 → ∀ x, m.fallback = some x → bit s.loss.members x = true) →
    (s.setModel m).admitCheck m.bytes m.tenant 0 = (q, 0, d, some (v, f)) →
    Completes (.autoReadmit pkg) s (fun t => ∃ y, t.model pkg = some y ∧ y.phase = 1 ∧ y.variant = v ∧ y.placed = f.placed ∧ y.plan = s.con.nextPlan ∧
      y.prev = some (m.plan, m.variant, m.placed, m.fallback))) ∧
  (∀ s : State, s.running → s.firmwareUp = true → s.loss.lone = false → s.loss.formed = false → s.activePorts = [] →
    (s.pwr.resetAt + 100 * ms ≤ s.now → Completes .loneChipFinding s (fun t => t.loss = { s.loss with
      lone := true, pole := if s.poleElig && s.strapsFit then some s.node else none })) ∧
    (s.now < s.pwr.resetAt + 100 * ms → Completes .loneChipFinding s (fun t => t = s)))

/-- R612 to R616, R629: the permit and its keys, STOP, the generator's start, the readback of the pads, and what the safety pair
writes every millisecond. R617 to R621: the safety pair logs and reports every event and applies the highest class: class A
latches the safe state, class B is a self-loss; the windowed watchdog; the limits of the rails and of the junction temperature. -/
def Obligations.DynamicOutputs : Prop :=
  ((∀ s : State, s.pairRuns →
    (∀ key : BitVec 16,
      (key.toNat = s.saf.permitNext → Completes (.owPermitWrite key) s (fun t => t.saf.permitAt = some s.now ∧ t.saf.permitNext = 0xFFFF - key.toNat ∧
        t.get fOwPermit = 1 ∧ t.saf.running = s.saf.running ∧ (key = 0x5A5A#16 → t.saf.stop = (s.saf.stop && decide (s.saf.stopAt = s.now))) ∧ (key ≠ 0x5A5A#16 → t.saf.stop = s.saf.stop) ∧
        t.out = s.out)) ∧
      (key.toNat ≠ s.saf.permitNext → Completes (.owPermitWrite key) s (fun t => t.saf.permitAt = none ∧ t.saf.permitNext = 0x5A5A ∧ t.get fOwPermit = 0 ∧
        t.saf.running = false ∧ (0x16, key.toNat) ∈ t.saf.events ∧ (t.reg 0x24000000).getLsbD 21 = true))) ∧
    Completes .owStop s (fun t => t.saf.stop = true ∧ t.saf.running = false ∧ t.get fOwRunning = (if s.saf.running then 0 else s.get fOwRunning) ∧
      (s.saf.running = true → t.out = .pin "OW_VALID_B" false :: .pin "OW_VALID_A" false :: s.out)) ∧
    (∀ st valid, tblGet (fun _ => (3, none)) s.saf.svc (s.get fOwService) = (st, valid) →
      (∀ at_, s.publishes (s.get fOwService) = true → st ≤ 1 → valid = some at_ → s.ctNs ≤ at_ + 100000000 →
        Completes .permitCheck s (fun t => t.saf.permitAt = some s.now)) ∧
      (st = 2 → s.saf.permitAt.isSome = true → Completes .permitCheck s (fun t => t.saf.stop = true)) ∧
      (st ≠ 2 → (s.publishes (s.get fOwService) = false ∨ ∀ at_, valid = some at_ → at_ + 100000000 < s.ctNs) → Completes .permitCheck s (fun t => t = s)))) ∧
  (∀ s : State, s.running →
    (∀ at_, s.saf.permitAt = some at_ →
      (at_ + 2 * ms < s.now → Completes .permitLapse s (fun t => t.saf.permitAt = none ∧ t.get fOwPermit = 0 ∧ t.saf.running = false)) ∧
      (s.now ≤ at_ + 2 * ms → Completes .permitLapse s (fun t => t = s)) ∧
      (s.now ≤ at_ + 2 * ms → s.saf.running = false → s.get fOwEn = 1 → s.get fMember = 1 → s.isMember = true → s.get fLocked = 1 → s.saf.stop = false →
        s.get fLatch = 0 → s.clockBad = false → s.atInstant 0 = true → Completes .owGeneratorStart s (fun t => t.saf.running = true ∧ t.get fOwRunning = 1 ∧
          t.out = .pin "OW_VALID_B" false :: .pin "OW_VALID_A" true :: s.out))) ∧
    (s.saf.running = false → (s.get fOwEn = 0 ∨ s.get fMember = 0 ∨ s.isMember = false ∨ s.get fLocked = 0 ∨ s.saf.permitAt = none ∨
      s.saf.stop = true ∨ s.get fLatch = 1 ∨ s.clockBad = true ∨ s.atInstant 0 = false) →
      Completes .owGeneratorStart s (fun t => t = s)) ∧
    (∀ a b : Bool, Completes (.owReadbackMismatch a b) s (fun t => t.get fOwPads = b2n a + 2 * b2n b ∧
      (s.saf.running = true → s.monOn 8 = true →
        (a = s.owPins.1 → b ≠ a → t.saf.mismatch = false ∧ t.saf.events = s.saf.events) ∧
        ((a ≠ s.owPins.1 ∨ b = a) → s.saf.mismatch = false → t.saf.mismatch = true ∧ t.saf.events = s.saf.events) ∧
        ((a ≠ s.owPins.1 ∨ b = a) → s.saf.mismatch = true → (0x15, b2n a + 2 * b2n b) ∈ t.saf.events)))) ∧
    (s.owPins = if s.saf.running then (decide (s.ctNs % 1000000 < 500000), decide (500000 ≤ s.ctNs % 1000000)) else (false, false)))) ∧
  ((∀ s : State, s.pairRuns →
    (∀ e, s.saf.events = [e] →
      Completes .safetyEventTake s (fun t => t.saf.events = [] ∧ (∃ f, t.saf.log.getLast? = some f ∧ f.ct = s.ctNs ∧ f.code = e.1 ∧ f.cls = eventClass e.1 e.2) ∧
        (eventClass e.1 e.2 = 0 → s.get fLatch = 0 → t.get fLatch = 1 ∧ t.get fLatchOrigin = e.1 % 256 ∧ t.saf.running = false ∧ t.tim.resetDue.isSome = true) ∧
        (eventClass e.1 e.2 = 1 → s.loss.selfLost = none → t.loss.selfLost = some (lossReason e.1 e.2, s.now) ∧ t.loss.hbState = 3) ∧
        (eventClass e.1 e.2 = 5 → t.loss = s.loss ∧ t.get fLatch = s.get fLatch))) ∧
    (∀ key : BitVec 16, s.saf.wdtOn = true →
      let late : Prop := ∃ at_, s.saf.wdtAt = some at_ ∧ (s.now < at_ + 5 * ms ∨ at_ + 10 * ms < s.now)
      (∀ at_, key.toNat = s.saf.wdtNext → s.saf.wdtAt = some at_ → at_ + 5 * ms ≤ s.now → s.now ≤ at_ + 10 * ms →
        Completes (.wdtService key) s (fun t => t.saf = { s.saf with wdtAt := some s.now, wdtNext := 0xFFFF - key.toNat } ∧ t.regs = s.regs)) ∧
      ((key.toNat ≠ s.saf.wdtNext ∨ late) → Completes (.wdtService key) s (fun t => t.get fLatch = 1 ∧ (0x04, 0) ∈ t.saf.events ∧ t.saf.wdtOn = false)))) ∧
  (∀ s : State, s.running →
    (s.saf.wdtOn = true → s.saf.wdtAt.getD s.saf.wdtFrom + 10 * ms < s.now → s.get fLatch = 0 →
      Completes .watchdogTimeout s (fun t => t.get fLatch = 1 ∧ t.get fLatchOrigin = 4 ∧ (0x04, 0) ∈ t.saf.events)) ∧
    (s.now ≤ s.saf.wdtAt.getD s.saf.wdtFrom + 10 * ms → Completes .watchdogTimeout s (fun t => t = s)) ∧
    (∀ (r : Fin 7) (mv : Nat), mv < 65536 → s.monOn r = true →
      ((mv < (railLimits r).1 ∨ (railLimits r).2 < mv) → Completes (.voltageFault r mv) s (fun t => t.get ⟨0x24000040 + 4 * r.val, 0, 16⟩ = mv ∧
        t.get ⟨0x24000040 + 4 * r.val, 31, 1⟩ = 1 ∧ (if r.val ≤ 2 then 0x08 else 0x09, r.val) ∈ t.saf.events)) ∧
      ((railLimits r).1 ≤ mv → mv ≤ (railLimits r).2 → Completes (.voltageFault r mv) s (fun t => t.get ⟨0x24000040 + 4 * r.val, 0, 16⟩ = mv ∧ t.saf = s.saf))) ∧
    (∀ (n : Fin 8) (c : Int), s.monOn 7 = true →
      ((c < -400 ∨ 1250 < c) → Completes (.temperatureFault n c) s (fun t => (0x0A, n.val) ∈ t.saf.events ∧ t.get ⟨0x24000060 + 4 * n.val, 31, 1⟩ = 1)) ∧
      (-400 ≤ c → c ≤ 1250 → Completes (.temperatureFault n c) s (fun t => t.saf = s.saf ∧ t.get ⟨0x24000060 + 4 * n.val, 0, 16⟩ = unsigned 16 c)))) ∧
  (railLimits 0 = (700, 830) ∧ railLimits 1 = (760, 850) ∧ railLimits 2 = (760, 850) ∧ railLimits 3 = (855, 945) ∧ railLimits 4 = (1140, 1260) ∧
    railLimits 5 = (1140, 1260) ∧ railLimits 6 = (1710, 1890)) ∧
  (∀ detail : Nat, detail < 256 → (List.range 24).map (fun c => eventClass c detail) =
    [5, 0, 0, 1, 0, 0, 1, 1, 0, 1, 1, 2, 2, 1, 1, 2, 4, 1, 2, 3, 3, 0, 5, 5]))

/-- R624 to R626, Table 21-4: the safety commands on this chip. -/
def Obligations.SafetyCommands : Prop :=
  ∀ (r : Req) (s u : State), s.served r u →
    (r.data = leBytes 1 s.node → s.node < 64 → Completes (.safetyStatus r) s (fun t => ∃ d, t = u.respond r 0 d ∧ d.length = 20 ∧
      (byteAt d 0 = if u.recordLocked then 1 else if u.get fSafLocked = 1 then 2 else 0) ∧ byteAt d 1 = u.get fLatch ∧ byteAt d 2 = u.owState ∧
      fieldAt d 4 2 = u.get fOwService ∧ fieldAt d 8 4 = (u.reg 0x24000000).toNat)) ∧
    (∀ i, r.data = leBytes 1 s.node ++ leBytes 1 i → s.node < 64 → i < 64 → Answers (.safetyFaultLog r) s r 0
      (leBytes 1 (u.saf.log.drop i).length ++ leBytes 3 0 ++ (u.saf.log.drop i).flatMap FaultEntry.bytes) (fun v => v = u)) ∧
    (∀ node en id, r.data = leBytes 1 1 ++ leBytes 3 0 ++ leBytes 1 node ++ leBytes 1 en ++ leBytes 2 id ++ leBytes 4 0 → node < 256 → en < 2 → id < 65536 →
      (u.recordLocked = true → Answers (.safetyConfig r) s r 0x0701 [] (fun v => v = u)) ∧
      (u.recordLocked = false → (63 < node ∨ bit (u.cfgField 20 8) node = false ∨ svcKind id ≠ 1) → Answers (.safetyConfig r) s r 0x0702 [] (fun v => v = u)) ∧
      (u.recordLocked = false → node ≤ 63 → bit (u.cfgField 20 8) node = true → svcKind id = 1 →
        Answers (.safetyConfig r) s r 0 [] (fun v => v.owBinding node = (decide (en = 1), id) ∧ v.cfgField 8 4 = (u.cfgField 8 4 + 1) % 4294967296))) ∧
    (r.data = [1#8] → Answers (.safetyLock r) s r 0 (leBytes 4 u.safetyCrc) (fun v => v.recordLocked = true ∧
      (u.recordLocked = false → v.cfgField 12 4 = u.safetyCrc ∧ ((u.wrote 0x240000A0).getLsbD 0 = false → v.get fSafLocked = 1)))) ∧
    (r.data = [0#8] →
      (r.path ≠ 0 → Answers (.safetyLock r) s r 0x0105 [] (fun v => v = u)) ∧
      (r.path = 0 → u.warningOn = true → Answers (.safetyLock r) s r 0x010B [] (fun v => v = u)) ∧
      (r.path = 0 → u.warningOn = false → Answers (.safetyLock r) s r 0 (leBytes 4 u.safetyCrc) (fun v => v.recordLocked = false ∧
        v.get fSafLocked = u.get fSafLocked))) ∧
    (∀ test, r.data = leBytes 1 s.node ++ leBytes 1 test → s.node < 64 → 1 ≤ test → test ≤ 8 →
      (u.warningOn = true → Answers (.safetyTest r) s r 0x010B [] (fun v => v = u)) ∧
      (u.warningOn = false → test = 1 ∨ test = 2 ∨ test = 8 → u.saf.events = [] → u.pairOn = true → u.get fLatch = 0 →
        Completes (.safetyTest r) s (fun t => t.get fLatch = 1 ∧ t.get fLatchOrigin = testCode test ∧
          ∃ e, t.saf.log.getLast? = some e ∧ e.code = testCode test ∧ bit e.detail 31 = true)) ∧
      (u.warningOn = false → test = 7 → Completes (.safetyTest r) s (fun t => t.saf.test = some (7, s.now) ∧ t.saf.log = s.saf.log)))

/-- R642 to R644, R659, Tables 22-7 and 22-8: measurement registers change only by extension, one at a time, not under ROMLOCK;
the quote of a chip and its certificate. R631, R632, R646, R647, Table 22-1: challenges and their nonce, tokens, debug unlock, and
the transitions of the lifecycle. -/
def Obligations.MeasurementAndLifecycle : Prop :=
  ((∀ (v : Word) (s : State), s.running →
    let kept (t : State) : Prop := t.sec.ext = s.sec.ext ∧ (t.reg aSecEvt).getLsbD 0 = true
    (s.get fExtBusy = 0 → (s.get fRomlock = 0 ∨ (3 ≤ v.toNat % 8 ∧ v.toNat % 8 ≠ 4)) →
      Completes (.measExtend v) s (fun t => t.sec.ext = some (v.toNat % 8, s.extData (v.toNat % 8), s.now) ∧ t.get fExtBusy = 1)) ∧
    (s.get fExtBusy = 1 → Completes (.measExtend v) s kept) ∧
    (s.get fRomlock = 1 → v.toNat % 8 ≤ 2 → Completes (.measExtend v) s kept) ∧
    (s.get fRomlock = 1 → v.toNat % 8 = 4 → byteAt (s.extData 4) 1 = 0 → Completes (.measExtend v) s kept) ∧
    (v.getLsbD 8 = false → (s.wrote aExtCtl).getLsbD 9 = false → Completes (.romlock v) s (fun t => t.get fRomlock = 1 ∧ t.sec = s.sec)) ∧
    (v.getLsbD 8 = false → (s.wrote aExtCtl).getLsbD 9 = true → Completes (.romlock v) s (fun t => t.get fRomlock = s.get fRomlock ∧
      (t.reg 0x25000020).toNat = min 0xFFFFFFFF ((s.reg 0x25000020).toNat + 1)))) ∧
  (∀ (s : State) (m : Nat) (d : List Byte) (at_ : Nat), s.running → s.sec.ext = some (m, d, at_) → m < 8 →
    Completes .measExtendDone s (fun t => t.sec.ext = none ∧ t.get fExtBusy = 0 ∧
      t.meas m = sha384 (s.meas m ++ if m = 4 then sha384 (d.take 16) else fit 48 d) ∧ ∀ k < 8, k ≠ m → t.meas k = s.meas k)) ∧
  (∀ s : State, s.running → s.sec.ext = none → Completes .measExtendDone s (fun t => t = s)) ∧
  (∀ (r : Req) (s u : State), s.served r u → byteAt r.data 0 = s.node → s.node < 64 →
    (r.data.length = 36 → Answers (.attestQuote r) s r 0 (u.extendDone.quote (slice r.data 4 32)) (fun v => v = u.extendDone)) ∧
    (r.data.length = 1 → u.lifecycle ≠ 0 → Answers (.attestCert r) s r 0 (Config.certChain.take 4000) (fun v => v = u)) ∧
    (r.data.length = 1 → u.lifecycle = 0 → Answers (.attestCert r) s r 0 [] (fun v => v = u))) ∧
  (∀ (s : State) (nonce : List Byte),
    let q := s.quote nonce
    q.length = 608 ∧ fieldAt q 0 4 = 0x5451424B ∧ byteAt q 4 = 1 ∧ byteAt q 5 = s.node % 256 ∧ byteAt q 6 = s.lifecycle ∧
    byteAt q 7 = (s.reg aDbg).toNat % 256 ∧ fieldAt q 8 2 = 0x7240 ∧ slice q 32 32 = fit 32 nonce ∧
    (∀ m < 8, slice q (64 + 48 * m) 48 = s.meas m) ∧ (∀ t < 4, slice q (448 + 16 * t) 16 = s.fenceRecord t) ∧
    slice q 512 96 = s.sign (q.take 512))) ∧
  ((∀ (r : Req) (s u : State), s.served r u → byteAt r.data 0 = s.node → s.node < 64 →
    (r.data.length = 1 → Answers (.lifecycleStatus r) s r 0 u.challenge.2 (fun v => v = u.challenge.1)) ∧
    (r.data.length = 2 → byteAt r.data 1 = 0 → Answers (.debugUnlockChallenge r) s r 0 u.challenge.2 (fun v => v = u.challenge.1)) ∧
    (∃ n, u.challenge.1.sec.nonce = some (n, s.now) ∧ n.length = 32 ∧ slice u.challenge.2 20 32 = n ∧ byteAt u.challenge.2 16 = u.lifecycle) ∧
    (∀ scope, byteAt r.data 2 = scope → r.data.length = 197 → byteAt r.data 1 = 1 → byteAt r.data 3 = 0 →
      ((scope = 0 ∨ 7 < scope) → Answers (.debugUnlockToken r) s r 0x0109 [] (fun v => v = u)) ∧
      (1 ≤ scope → scope ≤ 7 → r.role ≠ 4 → Answers (.debugUnlockToken r) s r 0x0105 [] (fun v => v = u)) ∧
      (1 ≤ scope → scope ≤ 7 → r.role = 4 →
        (u.lifecycle = 2 → u.warns s.node = true → Answers (.debugUnlockToken r) s r 0x010B [] (fun v => v = u)) ∧
        (u.lifecycle ≠ 2 ∨ u.warns s.node = false →
          ((u.token labelDebug scope r.data).2 = false → Answers (.debugUnlockToken r) s r 0x0802 [] (fun v => v.sec.nonce = none ∧
            (v.reg aSecEvt).getLsbD 1 = true ∧ v.reg aDbg = s.reg aDbg)) ∧
          ((u.token labelDebug scope r.data).2 = true → Completes (.debugUnlockToken r) s (fun t =>
            t.reg aDbg = s.reg aDbg ||| BitVec.ofNat 32 scope ∧ t.get fHbEn = 0 ∧ t.sec.nonce = none ∧ t.sec.jtagOpenAt = some (s.now + ms)))))) ∧
    (r.data.length = 4 → byteAt r.data 3 = 0 → u.sec.burn.isSome = true → Completes (.lifecycleSet r) s (fun t =>
      t.sec = { u.sec with burnWait := u.sec.burnWait ++ [r] } ∧ t.kmp = u.kmp)) ∧
    (∀ new, byteAt r.data 2 = new → byteAt r.data 3 = 0 → r.data.length = 4 → u.sec.burn = none →
      (lifecycleStep u.lifecycle new = none → Answers (.lifecycleSet r) s r 0x0801 [] (fun v => v = u)) ∧
      (u.lifecycle = 1 → new = 2 → r.path ≠ 0 → Answers (.lifecycleSet r) s r 0x0105 [] (fun v => v = u)) ∧
      (u.lifecycle = 1 → new = 2 → r.path = 0 → Completes (.lifecycleSet r) s (fun t => t.sec = { u.sec with burn := some (2, r, s.now) } ∧ t.kmp = u.kmp)) ∧
      (lifecycleStep u.lifecycle new = some true → Answers (.lifecycleSet r) s r 0x0802 [] (fun v => v = u)))) ∧
  (∀ (s : State) (label data : List Byte) (scope : Nat), (s.token label scope data).2 = true →
    ∃ n at_, s.sec.nonce = some (n, at_) ∧ s.now < at_ + 60 * kmpSec ∧ sha384 (slice data 4 97) = beBytes 48 s.sec.authHash ∧
      Config.ecdsaOk (slice data 4 97) (sha384 (label ++ s.deviceId ++ n ++ leBytes 1 scope)) (slice data 101 96) = true) ∧
  (∀ old new : Nat, lifecycleStep old new =
    if old = 0 ∧ new = 1 then some true else if old = 1 ∧ new = 2 then some false else if (old = 1 ∨ old = 2) ∧ new = 3 then some true else none) ∧
  (∀ (s : State) (new at_ : Nat) (r : Req), s.running → s.sec.burn = some (new, r, at_) → s.sec.burnWait = [] → s.lifecycle < new → new ≤ 3 →
    Completes .fuseBurnDone s (fun t => t.lifecycle = new ∧ t.reg 0x25000000 = BitVec.ofNat 32 new ∧ t.sec.burn = none ∧
      (new < 3 → t.meas 7 = sha384 (s.meas 7 ++ sha384 (eventRecord 2 (s.lifecycle + 256 * new) 0)) ∧ t.mem = s.mem))) ∧
  (∀ (s : State) (n : List Byte) (at_ : Nat), s.running → s.sec.nonce = some (n, at_) →
    (at_ + 60 * kmpSec ≤ s.now → Completes .nonceLapse s (fun t => t.sec = { s.sec with nonce := none })) ∧
    (s.now < at_ + 60 * kmpSec → Completes .nonceLapse s (fun t => t = s))))

/-- R638, R640, R655 to R657, R3: the boot header in force, firmware update, its confirmation, and the return of an unconfirmed trial.
-/
def Obligations.FirmwareUpdate : Prop :=
  (∀ (r : Req) (s u : State), s.served r u →
    (u.warningOn = true ∨ (u.loneGuest = true ∧ u.hasFlash = false) → ∀ c ∈ ([.fwBegin, .fwChunk, .fwVerify, .fwActivate, .fwStatus] : List (Req → Instr)), Answers (c r) s r 0x010B [] (fun v => v = u)) ∧
    (u.warningOn = false → (u.loneGuest = true → u.hasFlash = true) →
      (r.data.length = 56 → u.sec.xfer = none →
        (4194304 < fieldAt r.data 4 4 → Answers (.fwBegin r) s r 0x0B02 [] (fun v => v = u)) ∧
        (fieldAt r.data 4 4 ≤ 4194304 → Answers (.fwBegin r) s r 0 (leBytes 2 u.con.nextHandle) (fun v =>
          v.sec.xfer = some (u.con.nextHandle, slice r.data 8 48, false) ∧ v.sec.slot (1 - u.sec.header.active) = {} ∧
          v.sec.header = u.sec.header))) ∧
      (∀ h x ok, u.sec.xfer = some (fieldAt r.data 0 2, h, ok) → u.con.transfers = [x] → x.handle = fieldAt r.data 0 2 →
        (r.data.length = 56 → Answers (.fwBegin r) s r 0x0B04 [] (fun v => v = u)) ∧
        (8 ≤ r.data.length → r.data.length ≤ 4064 → fieldAt r.data 2 2 = 0 → fieldAt r.data 4 4 + (r.data.length - 8) ≤ x.total →
          Answers (.fwChunk r) s r 0 [] (fun v => v.con.transfers = [{ x with chunks := x.chunks ++ [(fieldAt r.data 4 4, r.data.drop 8)], at_ := s.now }])) ∧
        (x.whole = true → sha384 x.bytes = h → u.sec.setOk (x.bytes.take 4096) (x.bytes.drop 4096) = true →
          Answers (.fwVerify r) s r 0 [] (fun v => v.sec.xfer = some (x.handle, h, true) ∧
            v.sec.slot (1 - u.sec.header.active) = imageSet (x.bytes.take 4096) (x.bytes.drop 4096))) ∧
        (x.whole = true → u.sec.setOk (x.bytes.take 4096) (x.bytes.drop 4096) = false → Answers (.fwVerify r) s r 0x0B01 [] (fun v => v = u)) ∧
        (ok = false → Answers (.fwActivate r) s r 0x0B01 [] (fun v => v = u)) ∧
        (ok = true → u.opBusy r.code [(2, 0)] = false → Completes (.fwActivate r) s (fun t => t.sec.resetEpoch = some (s.tim.epoch + 2) ∧
          t.sec.header.active = 1 - u.sec.header.active ∧ t.sec.header.st = 1 ∧ t.sec.header.seq = u.sec.header.seq + 1))) ∧
      (r.data.length = 1 → byteAt r.data 0 = s.node → s.node < 64 → Answers (.fwStatus r) s r 0 (leBytes 1 u.sec.header.active ++ leBytes 1 u.sec.header.st ++
        leBytes 2 0 ++ leBytes 4 u.sec.header.seq ++ leBytes 4 u.sec.slotA.version ++ leBytes 4 u.sec.slotB.version) (fun v => v = u)))) ∧
  (∀ (x : SecurityState) (a st : Nat), (x.writeHeader a st).header = { valid := true, seq := x.header.seq + 1, active := a, st := st } ∧
    (x.hdr0.valid = true → x.hdr1.valid = true → x.hdr1.seq ≤ x.hdr0.seq → x.header = x.hdr0 ∧ (x.writeHeader a st).hdr0 = x.hdr0) ∧
    (x.hdr0.valid = true → x.hdr1.valid = true → x.hdr0.seq < x.hdr1.seq → x.header = x.hdr1 ∧ (x.writeHeader a st).hdr1 = x.hdr1)) ∧
  (∀ (x : SecurityState) (h data : List Byte), x.setOk h data = true → fieldAt h 0 4 = 0x5453424B ∧ byteAt h 5 ≤ 1 ∧ fieldAt h 12 4 ≤ 64 ∧
    x.svn ≤ fieldAt h 12 4 ∧ bit x.revoke (byteAt h 5) = false ∧ Config.ecdsaOk (slice h 128 97) (sha384 (h.take 3968)) (slice h 3968 96) = true ∧
    sha384 (data.take (fwLen h)) = slice h 24 48 ∧ sha384 ((data.drop (fwLen h)).take (safeLen h)) = slice h 72 48) ∧
  (∀ s : State, s.running →
    (s.isPole = true → s.loss.formed = true → s.sec.header.st = 2 →
      Completes .fwConfirm s (fun t => t.sec.header.st = 0 ∧ t.sec.header.active = s.sec.header.active ∧
        t.sec.svn = max s.sec.svn (s.sec.slot s.sec.header.active).svn ∧ t.sec.trialFrom = none)) ∧
    ((s.isPole = false ∨ s.sec.header.st ≠ 2) → Completes .fwConfirm s (fun t => t = s)) ∧
    (∀ at_, s.sec.trialFrom = some at_ →
      (at_ + 120 * kmpSec ≤ s.now → Completes .trialTimeout s (fun t => t.pwr.inReset = some 3 ∧ t.reg 0x23002000 = 0x8103#32)) ∧
      (s.now < at_ + 120 * kmpSec → Completes .trialTimeout s (fun t => t = s))))

/-- R663 to R677, Tables 23-3 to 23-5: triggers, the start and the spacing of runs, steps in and out of windows, the trim record's
two slots, and the calibration commands. -/
def Obligations.Calibration : Prop :=
  (∀ s : State, s.running →
    let started (t : State) : Prop := t.get fCalBusy = 1 ∧ t.cal.tasks = [{ task := 1, since := s.now }] ∧ t.cal.runAt = some s.now ∧ t.cal.held = false ∧
      ∀ i < 8, t.get ⟨aTRef i, 0, 16⟩ = s.get ⟨0x24000060 + 4 * i, 0, 16⟩
    (s.get fCalBusy = 0 → (∀ x, s.cal.runAt = some x → x + kmpSec ≤ s.now) →
      Completes .calRunWrite s started ∧ (s.get fCalAuto = 1 → s.calDrift = true → Completes .calTempTrigger s started) ∧
      (s.cal.held = true → Completes .calHoldEnd s started)) ∧
    ((s.get fCalBusy = 1 ∨ ∃ x, s.cal.runAt = some x ∧ s.now < x + kmpSec) →
      Completes .calRunWrite s (fun t => t.cal = { s.cal with held := true } ∧ t.regs = s.regs) ∧ Completes .calHoldEnd s (fun t => t = s)) ∧
    ((s.get fCalAuto = 0 ∨ s.calDrift = false) → Completes .calTempTrigger s (fun t => t = s)) ∧
    (∀ i < 8, 10 * (s.get fCalDt : Int) ≤ s.temp i - signed 16 (s.get ⟨aTRef i, 0, 16⟩) → s.calDrift = true)) ∧
  (∀ (s : State) (t : CalTask) (port : Fin 6) (lane : Fin 5) (n : Int) (window : Bool), s.running → s.cal.tasks = [t] → t.port = port.val →
    (∀ what : Fin 3, t.task = 4 → t.todo = [(lane.val, what.val)] → s.calSteps 4 port lane what n = 0 →
      Completes (.calTaskStep 3 port lane what n window) s (fun q => q.get fCalBusy = 0 ∧ q.cal.tasks = [] ∧ (q.reg 0x23001008).getLsbD 0 = true ∧
        q.get fCalResult = (if s.cal.wasRailed then 2 else if s.cal.wasForced then 1 else 0))) ∧
    (∀ what : Fin 3, (t.task = 4 ∨ t.task = 5) → t.todo.contains (lane.val, what.val) = true → s.calSteps t.task port lane what n ≠ 0 → s.calMay t lane window = 0 →
      ∀ k : Fin 5, k.val + 1 = t.task → Completes (.calTaskStep k port lane what n window) s (fun q => q = s)) ∧
    (∀ m : Nat, t.task = 4 → t.todo.contains (lane.val, 0) = true → s.calWindow 4 port window = true →
      let f := trimFld 4 port lane 0
      let k := s.calSteps 4 port lane 0 n
      0 < k → k.toNat = m → m ≤ s.calMay t lane window → s.get f + m ≤ 63 → Completes (.calTaskStep 3 port lane 0 n window) s (fun q => q.get f = s.get f + m ∧
        (q.reg 0x23001010) = s.reg 0x23001010)) ∧
    (t.task = 4 → s.get (fCamEn port) = 0 → s.calMay t lane window = 4) ∧
    (∀ at_ close, t.task = 4 → s.get (fCamEn port) = 1 → s.get (fCamRx port) = 1 → (s.cam port).blank = some (at_, close) → t.winAt ≠ some close →
      s.ctNs + 2000 ≤ close → s.calMay t lane window = min 4 ((close - s.ctNs) / 1000 - 1)) ∧
    (∀ k : Fin 5, k.val + 1 = t.task → 4 ≤ t.task → t.todo ≠ [] → t.forced = false →
      (t.since + 250 * ms ≤ s.now → Completes (.calForce k port) s (fun q => q.cal.tasks = [{ t with forced := true }] ∧ (q.reg 0x23001008).getLsbD 1 = true)) ∧
      (s.now < t.since + 250 * ms → Completes (.calForce k port) s (fun q => q = s)))) ∧
  (∀ s : State, s.running →
    (s.cal.recordDue = true → s.hasFlash = true → s.loneGuest = false → (∀ x, s.cal.recordAt = some x → x + 14400 * kmpSec ≤ s.now) →
      Completes .trimRecordWrite s (fun t => t.cal.trim.seq = s.cal.trim.seq + 1 ∧ t.cal.trim.image = s.trimImage ∧ t.cal.trim.device = s.deviceId ∧
        t.cal.recordDue = false ∧ t.cal.recordAt = some s.now ∧ (s.cal.trimForce = some false → t.cal.trim0 = s.cal.trim0) ∧
        (s.cal.trimForce = some true → t.cal.trim1 = s.cal.trim1))) ∧
    ((s.cal.recordDue = false ∨ s.hasFlash = false ∨ s.loneGuest = true ∨ ∃ x, s.cal.recordAt = some x ∧ s.now < x + 14400 * kmpSec) →
      Completes .trimRecordWrite s (fun t => t = s))) ∧
  (∀ (r : Req) (s u : State), s.served r u → byteAt r.data 0 = s.node → s.node < 64 →
    (r.data.length = 1 → Completes (.calStatus r) s (fun t => ∃ d, t = u.respond r 0 d ∧ d.length = 28 ∧ byteAt d 0 = u.get fCalBusy ∧
      byteAt d 1 = u.get fCalResult ∧ byteAt d 2 = u.get fCalMargin ∧ fieldAt d 4 4 = (u.reg 0x2300100C).toNat ∧ fieldAt d 8 4 = (u.reg 0x23001010).toNat)) ∧
    (r.data.length = 1 → u.get fCalBusy = 1 → Answers (.calRun r) s r 0x0901 [] (fun v => v = u)) ∧
    (r.data.length = 1 → u.get fCalBusy = 0 → u.cal.runAt = none → Answers (.calRun r) s r 0 [] (fun v => v.get fCalBusy = 1)) ∧
    (r.data.length = 12 → (byteAt r.data 2 < 4 ∨ 16 < byteAt r.data 2) → Answers (.calConfig r) s r 0x0109 [] (fun v => v = u)) ∧
    (r.data.length = 12 → 4 ≤ byteAt r.data 2 → byteAt r.data 2 ≤ 16 → Answers (.calConfig r) s r 0 [] (fun v =>
      v.get fCalDt = byteAt r.data 2 ∧ v.get fCalAuto = byteAt r.data 1 % 2 ∧
      v.reg 0x23001280 &&& 0x0FFF0FFF#32 = BitVec.ofNat 32 (fieldAt r.data 4 4) &&& 0x0FFF0FFF#32 ∧
      v.reg 0x23001284 &&& 0x0FFF0FFF#32 = BitVec.ofNat 32 (fieldAt r.data 8 4) &&& 0x0FFF0FFF#32))) ∧
  (∀ (s : State) (port lane : Nat) (n : Int), 0 < Config.termCount port lane → s.calSteps 4 port lane 0 n =
    (if 100 * (n - Config.termCount port lane) ≤ Config.termCount port lane ∧ -(Config.termCount port lane : Int) ≤ 100 * (n - Config.termCount port lane) then 0
      else roundDiv ((n - Config.termCount port lane) * 1000) (6 * Config.termCount port lane)))

/-- R682, R686 to R689, R692 to R695, R711: what each chip reset leaves in the registers and the memories, what the always-on
domain keeps, the release, and the retry of a clock restart. R690, R252, R325, R181: a core-local reset, which clears a core's
scratch memories and leaves the palettes and the other cores. -/
def Obligations.Resets : Prop :=
  ((∀ s : State,
    let gone (kind : Nat) (t : State) : Prop := t.pwr.inReset = some kind ∧
      t.mem = { badPar := s.mem.stuck, stuck := s.mem.stuck } ∧ t.kmp = {} ∧ t.loss = {} ∧ t.ports = [] ∧ t.cores = [] ∧
      t.saf.running = false ∧ t.pending = s.pending ∧ t.sec.svn = s.sec.svn ∧ (s.sec.burn = none → t.sec.lc0 = s.sec.lc0 ∧ t.sec.lc1 = s.sec.lc1 ∧ t.sec.lc2 = s.sec.lc2) ∧
      s.lifecycle ≤ t.lifecycle ∧
      ∀ a, a ∉ [0x23002000, 0x23002004, 0x23002008, 0x2300200C, 0x25000004, 0x23001100, 0x23001104, 0x23001108] → t.reg a = regReset a
    let kept (t : State) : Prop := t.reg 0x23002008 = s.reg 0x23002008 ∧ t.reg 0x2300200C = s.reg 0x2300200C ∧ t.saf.kept.length ≤ 4 ∧
      (s.saf.events = [] → s.saf.kept.length ≤ 4 → t.saf.kept = s.saf.kept) ∧
      (∀ e, s.saf.events = [e] → eventClass e.1 e.2 ≤ 1 → ∃ f, t.saf.kept.getLast? = some f ∧ f.code = e.1 ∧ f.ct = s.ctNs)
    Completes .powerOnReset s (fun t => gone 0 t ∧ t.saf.kept = [] ∧ t.reg aDbg = 0#32 ∧ t.reg 0x2300200C = 0#32 ∧ (s.running → t.reg 0x23002000 = 0#32)) ∧
    Completes .brownoutReset s (fun t => gone 1 t ∧ kept t ∧ t.reg aDbg = 0#32 ∧ (s.running → t.reg 0x23002000 = 1#32 ∧ t.reg 0x23002004 = s.reg 0x23002000)) ∧
    Completes .resetN s (fun t => gone 2 t ∧ kept t ∧ t.reg aDbg = 0#32 ∧ (s.running → t.reg 0x23002000 = 2#32 ∧ t.reg 0x23002004 = s.reg 0x23002000)) ∧
    (∀ origin reason : Fin 256, Completes (.watchdogReset origin reason) s (fun t => gone 3 t ∧ kept t ∧ t.reg aDbg = s.reg aDbg ∧
      (origin.val ≠ 5 → t.reg 0x23001100 = s.reg 0x23001100 ∧ t.pwr.restart = none) ∧
      (origin.val = 5 → t.reg 0x23001100 = regReset 0x23001100 ∧ t.pwr.restart = some 0) ∧
      (s.running → t.reg 0x23002000 = BitVec.ofNat 32 (3 + 256 * origin.val + 65536 * reason.val) ∧ t.reg 0x23002004 = s.reg 0x23002000))) ∧
    (∀ k, s.pwr.inReset = some k → s.get fKind ≤ 2 → Completes .resetN s (fun t => t.reg 0x23002000 = s.reg 0x23002000 ∧ t.reg 0x23002004 = s.reg 0x23002004)) ∧
    (∀ at_, s.pwr.chipReset = some at_ → s.running →
      (at_ + 10 * ms ≤ s.now → Completes .chipResetDelay s (fun t => gone 4 t ∧ kept t ∧ t.reg 0x23002000 = 4#32)) ∧
      (s.now < at_ + 10 * ms → Completes .chipResetDelay s (fun t => t = s))) ∧
    (∀ straps : BitVec 9,
      (s.pwr.inReset.isSome = true → s.reg 0x2300200C = 0#32 → Completes (.resetRelease straps) s (fun t => t.running ∧ t.straps = straps.toNat ∧ t.now = 0 ∧
        t.reg 0x23000000 = 7#32 ∧ (s.mem.parityOk = true → s.mem.rfBad = [] → s.mem.nearBad = [] → t.mem = s.mem) ∧ (s.get fKind = 0 → t.reg 0x23002008 = 1#32) ∧
        (s.get fKind ≠ 0 → t.reg 0x23002008 = s.reg 0x23002008 + 1#32))) ∧
      (s.running → Completes (.resetRelease straps) s (fun t => t = s))) ∧
    (∀ k x, s.pwr.inReset = some k → s.pwr.restart = some x → x + 100 * ms ≤ s.now →
      Completes .crystalRestartRetry s (fun t => t.pwr = { s.pwr with restart := some s.now } ∧ t.regs = s.regs))) ∧
  (∀ (r : Req) (s u : State), s.served r u → r.data = leBytes 1 s.node → s.node < 64 →
    Completes (.chipReset r) s (fun t => t.pwr.chipReset = some s.now ∧ t.mem = s.mem ∧ t.kmp = (u.respond r 0 []).kmp)) ∧
  (∀ (i : Instr) (s : State), s.pwr.inReset.isSome = true → actsInReset i = false → exec i s = .next s)) ∧
  (∀ (c : Fin 8) (s : State), s.running →
    (s.get (fCoreRst c) = 0 → tblGet (fun _ => none) s.mem.clear c.val = none → Completes (.pwrCoreRst (BitVec.ofNat 32 (2 ^ c.val))) s (fun t =>
      t.get (fCoreRst c) = 1 ∧ t.get (fSeqState c) = 0 ∧ t.mem.pal = s.mem.pal ∧ (∀ r < 8, t.rgn c r = s.rgn c r) ∧
      (∀ w < 16, t.winOpen c w = false) ∧ t.loss = s.loss)) ∧
    (s.get (fCoreRst c) = 1 → Completes (.pwrCoreRst (BitVec.ofNat 32 (2 ^ c.val))) s (fun t => t = s)) ∧
    (s.get (fCoreRst c) = 1 → Completes (.coreResetDone c) s (fun t => t.get (fCoreRst c) = 0 ∧ (t.reg aPwrEvt).getLsbD 3 = true ∧ t.scratchZero c ∧
      t.mem.pal = s.mem.pal ∧ t.mem.sram = s.mem.sram ∧
      ∀ k, ¬ (65536 * c.val ≤ k ∧ k < 65536 * (c.val + 1)) → tblGet wordZero t.mem.acc k = tblGet wordZero s.mem.acc k)) ∧
    (s.get (fCoreRst c) = 0 → Completes (.coreResetDone c) s (fun t => t = s)))

/-- R699, R700, R702 to R704, R707, R708: the PARK request and the preparation of its exit, the governor's estimate, its level and
its limit, and telemetry. -/
def Obligations.PowerControl : Prop :=
  (∀ s : State, s.running →
    (∀ mw : Nat,
      (s.pwr.estAt + 100 * us ≤ s.now → Completes (.governorEstimate mw) s (fun t => t.pwr.ests = (mw :: s.pwr.ests).take 10 ∧ t.pwr.estAt = s.now ∧
        (t.reg aPower).toNat = min 65535 (roundDiv (t.pwr.ests.foldl (· + ·) 0 : Nat) t.pwr.ests.length).toNat)) ∧
      (s.now < s.pwr.estAt + 100 * us → Completes (.governorEstimate mw) s (fun t => t = s))) ∧
    (s.now < s.pwr.stepAt + ms → Completes .governorStep s (fun t => t = s)) ∧
    (s.pwr.stepAt + ms ≤ s.now →
      let mw := (s.reg aPower).toNat
      let hot : Prop := (10 * s.get fThr : Int) ≤ s.hottest
      let calm : Prop := mw + 300 < s.get fPmax ∧ s.hottest < (10 * s.get fThr : Int) - 50
      ((s.get fPmax < mw ∨ hot) → s.get fLevel < 7 → Completes .governorStep s (fun t => t.get fLevel = s.get fLevel + 1 ∧ (t.get fThermal = 1 ↔ hot) ∧
        (t.reg aPwrEvt).getLsbD 0 = true)) ∧
      (mw ≤ s.get fPmax → ¬ hot → ¬ calm → Completes .governorStep s (fun t => t.get fLevel = s.get fLevel ∧ t.pwr.calm = 0)) ∧
      (mw ≤ s.get fPmax → ¬ hot → calm → s.pwr.calm + 1 < 10 → Completes .governorStep s (fun t => t.get fLevel = s.get fLevel ∧ t.pwr.calm = s.pwr.calm + 1)) ∧
      (mw ≤ s.get fPmax → ¬ hot → calm → 10 ≤ s.pwr.calm + 1 → 0 < s.get fLevel → Completes .governorStep s (fun t => t.get fLevel = s.get fLevel - 1 ∧
        (t.reg 0x23002030).toNat = min 0xFFFFFFFF ((s.reg 0x23002030).toNat + 1)))) ∧
    (∀ x, s.pwr.limitFrom = some x → s.get fLevel = 7 → s.get fPmax < (s.reg aPower).toNat →
      (x + 100 * ms ≤ s.now → Completes .governorLimit s (fun t => t.get fLimit = 1 ∧ (t.reg aPwrEvt).getLsbD 1 = true ∧ t.saf = s.saf)) ∧
      (s.now < x + 100 * ms → Completes .governorLimit s (fun t => t = s))) ∧
    (∀ (level : Bool) (since : Nat), s.isPole = true → bit (s.cfgField 183 1) 0 = true → s.pwr.parkSince = some since → s.pwr.parkLevel = level →
      (s.now < since + 1000 * ms → Completes (.parkReqDebounce level) s (fun t => t = s)) ∧ (since + 1000 * ms ≤ s.now →
      (level = bit (s.cfgField 183 1) 1 → s.pwr.parkReq = false → Completes (.parkReqDebounce level) s (fun t => t.pwr.parkReq = true ∧
        ∃ p, t.pwr.parkEpoch = some p ∧ s.tim.epoch + 2 ≤ p ∧ (∀ m ∈ s.con.models, m.phase = 3 → m.goAt < p))) ∧
      (level ≠ bit (s.cfgField 183 1) 1 → s.pwr.parkReq = true → Completes (.parkReqDebounce level) s (fun t => t.pwr.parkReq = false ∧
        ∃ x, t.pwr.exitEpoch = some x ∧ s.tim.epoch + 2 ≤ x ∧ ∀ p, s.pwr.parkEpoch = some p → p < x)))) ∧
    (bit (s.cfgField 183 1) 0 = false → ∀ level, Completes (.parkReqDebounce level) s (fun t => t = s)) ∧
    (∀ x, s.pwr.exitEpoch = some x → s.get fMode = 2 → s.pwr.exitReady = false →
      (s.ctNs + 5000000 ≤ s.boundary x → s.plans = [] → Completes .parkExitPrepare s (fun t => t.pwr.exitReady = true ∧ t.get fMode = 2 ∧
        (∀ c < 8, t.scratchZero c ∧ (t.reg (palReg c 8)).toNat = s.pwr.parkedPairs.getD c 0 % 65536) ∧
        ((∀ c < 8, (s.reg (palReg c 8)).toNat = s.pwr.parkedPairs.getD c 0) → t.mem.pal = s.mem.pal))) ∧
      (s.boundary x < s.ctNs + 5000000 → Completes .parkExitPrepare s (fun t => t = s)))) ∧
  (∀ (r : Req) (s u : State), s.served r u → r.data = leBytes 1 s.node → s.node < 64 →
    Completes (.telemetry r) s (fun t => ∃ d, t = u.respond r 0 d ∧ d.length = 52 ∧ (∀ i < 8, fieldAt d (2 * i) 2 = u.get ⟨0x24000060 + 4 * i, 0, 16⟩) ∧
      (∀ i < 7, fieldAt d (16 + 2 * i) 2 = u.get ⟨0x24000040 + 4 * i, 0, 16⟩) ∧ fieldAt d 32 4 = (u.reg aPower).toNat ∧ byteAt d 36 = u.get fLevel ∧
      byteAt d 37 = u.get fMode ∧ fieldAt d 40 4 = (u.reg 0x23002030).toNat ∧ fieldAt d 44 4 = (u.reg 0x23002000).toNat ∧
      fieldAt d 48 4 = (u.reg 0x23002008).toNat))

/-- R10, R11, R14, R712, R714 to R718, R720: what a register write does that has no row of its own, where it is refused, and the
latch of a 64-bit pair. The agents of Table 25-4 are numbered by the model. -/
def Obligations.RegisterAccess : Prop :=
  (∀ (ag : Fin 4) (a : Nat) (v : Word) (s : State), s.running → (a < 0x10000000 ∨ 0x18000000 ≤ a) →
    (a % 4 ≠ 0 ∨ s.windowOf a ≠ .reg ∨ s.gated a = true ∨ beyondReach ag a) → Completes (.registerWrite ag a v) s (fun t => t = s)) ∧
  (∀ (a : Nat) (v : Word) (s : State), s.running → a % 4 = 0 → plainRegister a = true → regFind a = none →
    Completes (.registerWrite 1 a v) s (fun t => t = s)) ∧
  (∀ (a : Nat) (v : Word) (s : State) (d : RegDesc), s.running → a % 4 = 0 → plainRegister a = true → regFind a = some d →
    d.wo1 = 0 → d.rwl = 0 → Completes (.registerWrite 1 a v) s (fun t => t = { s with regs := t.regs, written := t.written, sec := t.sec } ∧
      t.sec = { s.sec with fenceOld := t.sec.fenceOld, fenceAt := t.sec.fenceAt } ∧
      (within a 0x25000400 0x250004FF = false → t.sec = s.sec) ∧
      (∀ b, b ≠ a → t.reg b = s.reg b) ∧
      ∀ k < 32, (t.reg a).getLsbD k =
        if bit d.rw k then v.getLsbD k
          else if bit d.w1c k then (s.reg a).getLsbD k && (!v.getLsbD k || (s.justRaised a).getLsbD k) else (s.reg a).getLsbD k)) ∧
  (∀ (c : Fin 8) (o : Nat) (s : State),
    (within o 0x440000 0x4FFFFF = true ∨ within o 0x520000 0xEFFFFF = true ∨ within o 0xF10000 0xFFFFFF = true →
      s.windowOf (0x10000000 + 0x1000000 * c.val + o) = .none) ∧
    (o ≤ 0x3FFFFF → s.windowOf (0x10000000 + 0x1000000 * c.val + o) = .pal c.val)) ∧
  (∀ (a : Nat) (s : State), s.running →
    (latchingLo a = true → Completes (.pairLoRead a) s (fun t => ({ t with latch := s.latch } : State) = s ∧ (s.regRead a).2 = s.reg a ∧
      ∀ u : State, u.latch = t.latch → (u.regRead (a + 4)).2 = s.reg (a + 4))) ∧
    (latchingLo a = false → Completes (.pairLoRead a) s (fun t => t = s)))

/-- R721, R763, R765: the settings of an Ethernet port and its enable, its link, its frames, and its answers to ARP, ICMP and
IGMP. -/
def Obligations.EthernetPorts : Prop :=
  ∀ (e : Fin 2) (s : State), s.gateOpen (14 + e) →
    let ctl := ethReg e 0
    let counts (t : State) (off : Nat) : Prop := (t.reg (ethReg e off)).toNat = min 0xFFFFFFFF ((s.reg (ethReg e off)).toNat + 1)
    (∀ v : Word,
      (s.get (fEthEn e) = 1 → Completes (.ethEn e v) s (fun t => (∀ k, (1 ≤ k ∧ k ≤ 3) ∨ (16 ≤ k ∧ k ≤ 29) →
          (t.reg ctl).getLsbD k = (s.reg ctl).getLsbD k ∧ (v.getLsbD k ≠ (s.reg ctl).getLsbD k → (t.reg ctl).getLsbD 31 = true)) ∧
        t.get (fEthEn e) = b2n (v.getLsbD 0))) ∧
      (s.get (fEthEn e) = 0 → Completes (.ethEn e v) s (fun t => ∀ k, (1 ≤ k ∧ k ≤ 3) ∨ (16 ≤ k ∧ k ≤ 29) →
          (t.reg ctl).getLsbD k = v.getLsbD k)) ∧
      (s.get (fEthEn e) = 0 → v.getLsbD 0 = true →
        ((s.mac e = 0 ∨ bit (s.mac e) 40 = true ∨ s.ip e = 0 ∨ bits v.toNat 16 14 < 576 ∨ 9000 < bits v.toNat 16 14) →
          Completes (.ethEn e v) s (fun t => t.get (fEthEn e) = 0 ∧ (t.reg ctl).getLsbD 31 = true)) ∧
        ((s.mac e ≠ 0 ∧ bit (s.mac e) 40 = false ∧ s.ip e ≠ 0 ∧ 576 ≤ bits v.toNat 16 14 ∧ bits v.toNat 16 14 ≤ 9000) →
          Completes (.ethEn e v) s (fun t => t.get (fEthEn e) = 1 ∧ ∃ f ∈ (t.eth e).txq,
            f.2 = ethFrame macAll (s.mac e) (t.portTag e) 0x0806 (arpPacket 1 (s.mac e) (s.ip e) 0 (s.ip e))))) ∧
      (∀ off : Nat, off % 4 = 0 → 8 ≤ off → off < 0x20 → s.get (fEthEn e) = 1 →
        Completes (.registerWrite 1 (ethReg e off) v) s (fun t => (∀ a, a ≠ ctl → t.reg a = s.reg a) ∧ (t.reg ctl).getLsbD 31 = true))) ∧
    (∀ up : Bool, Completes (.ethLinkChange e up) s (fun t => t.get (fEthLink e) = b2n up ∧
      (s.get (fEthLink e) ≠ b2n up → (t.reg (ethReg e 0x20)).getLsbD 0 = true) ∧
      (up = true → s.get (fEthLink e) = 0 → s.get (fEthEn e) = 1 → ∃ f ∈ (t.eth e).txq,
        f.2 = ethFrame macAll (s.mac e) (s.portTag e) 0x0806 (arpPacket 1 (s.mac e) (s.ip e) 0 (s.ip e))))) ∧
    (∀ data : List Byte,
      (s.get (fEthEn e) = 0 → ∀ ok, Completes (.ethFrameReceive e data ok) s (fun t => t = s)) ∧
      (s.get (fEthEn e) = 1 → Completes (.ethFrameReceive e data false) s (fun t => counts t 0x48 ∧ t.reg (ethReg e 0x44) = s.reg (ethReg e 0x44) ∧
        (t.reg (ethReg e 0x20)).getLsbD 1 = true ∧ t.eth e = s.eth e)) ∧
      (s.get (fEthEn e) = 1 → beAt data 0 6 ≠ s.mac e → beAt data 0 6 ≠ macAll → s.get (fPtpEn e) = 0 →
        Completes (.ethFrameReceive e data true) s (fun t => counts t 0x44 ∧ counts t 0x50 ∧ t.eth e = s.eth e)) ∧
      (s.get (fEthEn e) = 1 → beAt data 0 6 = macAll → beAt data 12 2 = 0x0806 → data.length + 4 ≤ s.get (fMtu e) + 18 →
        Completes (.ethFrameReceive e data true) s (fun t => counts t 0x44 ∧ (t.eth e).inbox = (s.eth e).inbox ++ [(1, 0, data.drop 14, s.ctNs)]))) ∧
    (∀ key f rest, (s.eth e).txq = (key, f) :: rest → s.kmp.outWait = [] →
      ((s.reg 0x24000004).getLsbD 0 = false → Completes (.ethFrameTransmitted e) s (fun t => (t.eth e).txq = rest ∧ counts t 0x40 ∧ t.out = .eth e f :: s.out)) ∧
      ((s.reg 0x24000004).getLsbD 0 = true → Completes (.ethFrameTransmitted e) s (fun t => t = s))) ∧
    (∀ data : List Byte, s.get (fEthEn e) = 1 → beAt data 14 4 ≠ s.ip e → beAt data 6 2 = 1 → beAt data 24 4 = s.ip e →
      Completes (.arpRequest e data) s (fun t => ∃ f ∈ (t.eth e).txq,
        f.2 = ethFrame (beAt data 8 6) (s.mac e) (s.portTag e) 0x0806 (arpPacket 2 (s.mac e) (s.ip e) (beAt data 8 6) (beAt data 14 4)))) ∧
    (∀ ip w, (s.eth e).waits.find? (fun w => w.ip = ip && decide (w.at_ + sec ≤ s.now)) = some w →
      (w.tries < 3 → s.get (fEthEn e) = 1 → Completes (.arpRetry e ip) s (fun t => ∃ f ∈ (t.eth e).txq,
        f.2 = ethFrame macAll (s.mac e) (s.portTag e) 0x0806 (arpPacket 1 (s.mac e) (s.ip e) 0 ip))) ∧
      (3 ≤ w.tries → s.kmp.outWait = [] → Completes (.arpRetry e ip) s (fun t => (∀ x ∈ (t.eth e).waits, x.ip ≠ ip) ∧ counts t 0x54))) ∧
    (∀ ip, Completes (.arpEntryExpiry e ip) s (fun t => (t.eth e).arp =
      (s.eth e).arp.filter (fun a => !(a.1 = ip && decide (a.2.2 + 300 * sec ≤ s.now))))) ∧
    (∀ data : List Byte, (1500 < data.length ∨ 10 ≤ ((s.eth e).echoes.filter (fun t => decide (s.now < t + sec))).length) →
      Completes (.icmpEcho e data) s (fun t => (t.eth e).txq = (s.eth e).txq ∧ t.regs = s.regs)) ∧
    (∀ data : List Byte, s.get (fEthEn e) = 1 → data.length ≤ 1500 → ((s.eth e).echoes.filter (fun t => decide (s.now < t + sec))).length < 10 →
      s.inSubnet e (beAt data 12 4) = true → isMulticast (beAt data 12 4) = false → beAt data 12 4 ≠ 0 →
      (∃ a ∈ (s.eth e).arp, a.1 = beAt data 12 4 ∧ s.now < a.2.2 + 300 * sec) →
      Completes (.icmpEcho e data) s (fun t => (t.eth e).txq.length = (s.eth e).txq.length + 1 ∧
        ((t.eth e).echoes.filter (fun t => decide (s.now < t + sec))).length = ((s.eth e).echoes.filter (fun t => decide (s.now < t + sec))).length + 1)) ∧
    (s.get (fEthEn e) = 1 → s.get (fPtpEn e) = 1 → Completes (.igmpQuery e) s (fun t => (t.eth e).txq.length = (s.eth e).txq.length + 1)) ∧
    (s.get (fPtpEn e) = 0 → Completes (.igmpQuery e) s (fun t => t.regs = s.regs ∧ (t.eth e).txq = (s.eth e).txq)) ∧
    (∀ id, Completes (.reassemblyTimeout e id) s (fun t => (t.eth e).reasm =
      (s.eth e).reasm.filter (fun r => !(r.id = id && decide (r.at_ + 100 * ms ≤ s.now)))))

/-- R722, R724 to R726: the MDIO, QSPI, I²C and UART controllers, with GO while busy, NACK, a silent PHY and full FIFOs. R723,
R758 to R762, R765: edges of the GPIO lines and door inputs, and the test access port; a debug instruction under an unlock is the
one command that stops the model, since the spec gives it no effect. -/
def Obligations.PinsAndControllers : Prop :=
  (∀ s : State, s.running →
    (∀ v : Word,
      (v.getLsbD 31 = true → s.per.mdio = none → Completes (.mdioGo v) s (fun t => t.per.mdio = some (v.toNat % 8192) ∧
        (t.reg 0x22002004).getLsbD 16 = true ∧ t.out = .mdio (v.toNat % 8192) ((s.reg 0x22002004).toNat % 65536) :: s.out)) ∧
      (s.per.mdio.isSome = true → Completes (.mdioGo v) s (fun t => t.per = s.per ∧ t.out = s.out)) ∧
      (v.getLsbD 31 = true → s.per.qspi = none → Completes (.qspiGo v) s (fun t => t.per.qspi = some (v.toNat % 524288) ∧
        (t.reg 0x2700000C).getLsbD 0 = true ∧ ∃ addr wide quad dummy data,
        t.out = .qspi (v.toNat % 524288) addr wide quad dummy data :: s.out ∧ (v.getLsbD 9 = false → data = []) ∧
        (v.getLsbD 8 = true → (s.reg 0x27000000).getLsbD 2 = true → addr = (s.reg 0x27000008).toNat ∧ wide = 4) ∧
        (v.getLsbD 8 = true → (s.reg 0x27000000).getLsbD 2 = false → addr = (s.reg 0x27000008).toNat % 16777216 ∧ wide = 3) ∧
        (v.toNat % 256 ≠ (s.reg 0x27000000).toNat / 256 % 256 → quad = false ∧ dummy = 0))) ∧
      (s.per.qspi.isSome = true → Completes (.qspiGo v) s (fun t => t.per = s.per ∧ t.out = s.out)) ∧
      (v.getLsbD 31 = true → s.per.i2c = none → bits v.toNat 8 6 ≠ 0 → (s.reg 0x27001000).getLsbD 2 = true →
        Completes (.i2c4Go v) s (fun t => t.per.i2c = some (v.toNat % 32768) ∧ (t.reg 0x27001008).getLsbD 0 = true)) ∧
      ((s.per.i2c.isSome = true ∨ bits v.toNat 8 6 = 0 ∨ (s.reg 0x27001000).getLsbD 2 = false) →
        Completes (.i2c4Go v) s (fun t => t.per = s.per ∧ t.out = s.out))) ∧
    (∀ (cmd : Nat) (driven : Bool) (rd : BitVec 16), s.per.mdio = some cmd → Completes (.mdioDone driven rd) s (fun t => t.per.mdio = none ∧
      (t.reg 0x22002004).getLsbD 16 = false ∧
      (mdioReads cmd = true → (t.reg 0x22002004).toNat % 65536 = if driven then rd.toNat else 0xFFFF) ∧
      (mdioReads cmd = false → (t.reg 0x22002004).toNat % 65536 = (s.reg 0x22002004).toNat % 65536))) ∧
    (∀ (cmd : Nat) (data : List Byte), s.per.qspi = some cmd → Completes (.qspiDone data) s (fun t => t.per.qspi = none ∧
      (t.reg 0x2700000C).getLsbD 0 = false ∧ (t.reg 0x2700000C).getLsbD 1 = true ∧
      (bit cmd 9 = true → ∀ i < 64, t.reg (0x27000100 + 4 * i) = s.reg (0x27000100 + 4 * i)))) ∧
    (∀ (cmd : Nat) (nack stuck : Bool) (data : List Byte), s.per.i2c = some cmd → Completes (.i2c4Done nack stuck data) s (fun t => t.per.i2c = none ∧
      (t.reg 0x27001008).getLsbD 0 = false ∧ (stuck = true → (t.reg 0x27001008).getLsbD 3 = true) ∧
      (stuck = false → nack = true → (t.reg 0x27001008).getLsbD 2 = true) ∧
      (stuck = false → nack = false → (t.reg 0x27001008).getLsbD 1 = true))) ∧
    (∀ (u : Fin 2) (b : Byte),
      ((s.uartTx u).length < 64 → Completes (.uartTxWrite u b) s (fun t => t.uartTx u = s.uartTx u ++ [b] ∧
        (t.reg (uartReg u 0xC)).toNat % 128 = (s.uartTx u).length + 1)) ∧
      (64 ≤ (s.uartTx u).length → Completes (.uartTxWrite u b) s (fun t => t.per = s.per ∧ (t.reg (uartReg u 0xC)).getLsbD 19 = true)) ∧
      (∀ frameErr parErr, (s.reg (uartReg u 0)).getLsbD 0 = true →
        ((s.uartRx u).length < 64 → Completes (.uartByteReceived u b frameErr parErr) s (fun t => t.uartRx u = s.uartRx u ++ [b] ∧
          (frameErr = true → (t.reg (uartReg u 0xC)).getLsbD 17 = true) ∧
          (parErr = true → (s.reg (uartReg u 0)).getLsbD 1 = true → (t.reg (uartReg u 0xC)).getLsbD 18 = true))) ∧
        (64 ≤ (s.uartRx u).length → Completes (.uartByteReceived u b frameErr parErr) s (fun t => t.per = s.per ∧
          (t.reg (uartReg u 0xC)).getLsbD 16 = true))) ∧
      (∀ rest, s.uartRx u = b :: rest → (s.regRead (uartReg u 8)).2.toNat = b.toNat + 256 ∧
        Completes (.uartRxRead u) s (fun t => t.uartRx u = rest)) ∧
      (s.uartRx u = [] → (s.regRead (uartReg u 8)).2 = 0#32 ∧ Completes (.uartRxRead u) s (fun t => t = s)) ∧
      (∀ rest, s.uartTx u = b :: rest → (s.reg (uartReg u 0)).getLsbD 0 = true →
        Completes (.uartByteSent u) s (fun t => t.uartTx u = rest ∧ t.out = .uart u b (uartFrame (s.reg (uartReg u 0)).toNat b) :: s.out)))) ∧
  ((∀ s : State,
    (∀ (i : Fin 16) (rise : Bool), Completes (.gpioEdge i rise) s (fun t => (bit t.per.gpioIn i.val = rise) ∧ (∀ k, k ≠ i.val → bit t.per.gpioIn k = bit s.per.gpioIn k) ∧
      (s.running → ∀ k < 32, (t.reg 0x27003010).getLsbD k =
        ((s.reg 0x27003010).getLsbD k || (k = i.val + (if rise then 0 else 16) && (s.reg 0x2700300C).getLsbD k))) ∧
      ∀ a, a ≠ 0x27003010 → t.reg a = s.reg a)) ∧
    (∀ (i : Fin 8) (rise : Bool), Completes (.doorEdge i rise) s (fun t => (bit t.per.doorIn i.val = rise) ∧
      (s.running → (t.reg 0x27004004).getLsbD (i.val + if rise then 0 else 8) = true) ∧ ∀ a, a ≠ 0x27004004 → t.reg a = s.reg a))) ∧
  (∀ s : State,
    let loads (i : Instr) (code : Nat) : Prop := Completes i s (fun t => t.per.tapIr = code ∧ t.regs = s.regs ∧ t.mem = s.mem)
    let closed : Prop := s.lifecycle = 2 ∧ (s.reg aDbg).getLsbD 0 = false
    loads .tapReset 1 ∧ loads .bypass 0xFF ∧ loads .idcode 1 ∧
    Completes .idcode s (fun t => ∃ l : List Bool, t.out = .tdo l :: s.out ∧ l.length = 32 ∧ ∀ k < 32, l.getD k false = bit 0x1724096B k) ∧
    (∀ cells : List Bool, closed → loads .extest 0xFF ∧ loads (.samplePreload cells) 0xFF ∧ loads .clamp 0xFF ∧ loads .highz 0xFF) ∧
    (∀ cells : List Bool, cells.length = 204 → s.lifecycle ≠ 2 → loads .extest 0 ∧ loads .clamp 4 ∧ loads .highz 5 ∧
      Completes (.samplePreload cells) s (fun t => t.per.tapIr = 2 ∧ t.per.cells = cells ∧ ∃ l, t.out = .tdo l :: s.out ∧ l.length = 204)) ∧
    (∀ code : Fin 256, (code.val < 0x80 ∨ code.val = 0xFF ∨ bits (s.reg aDbg).toNat 1 2 = 0) → loads (.debugInstruction code) 0xFF) ∧
    (∀ code : Fin 256, 0x80 ≤ code.val → code.val ≤ 0xFE → bits (s.reg aDbg).toNat 1 2 ≠ 0 → s.sec.jtagOpenAt = none →
      exec (.debugInstruction code) s = .fault .debugInstruction)))
end

