-- ==== Sys2Proof/Laws/Table.lean ====
section
/-! SUPPORT. Table: what reading, writing and clearing sparse tables does, and that each keeps the canonical form. -/

namespace Sys2Proof.Machine

variable {α : Type}

@[simp] theorem tblGet_nil (d : Nat → α) (i : Nat) : tblGet d [] i = d i := rfl

theorem tblGet_tblDrop_self (d : Nat → α) (m : Table α) (i : Nat) : tblGet d (tblDrop m i) i = d i := by
  induction m with
  | nil => rfl
  | cons e m ih =>
    obtain ⟨k, w⟩ := e
    by_cases h : k = i
    · simpa [tblDrop, h] using ih
    · have : ¬ i = k := fun e => h e.symm
      simpa [tblDrop, h, tblGet, this] using ih

theorem tblGet_tblDrop_ne (d : Nat → α) (m : Table α) {i j : Nat} (h : i ≠ j) : tblGet d (tblDrop m i) j = tblGet d m j := by
  induction m with
  | nil => rfl
  | cons e m ih =>
    obtain ⟨k, w⟩ := e
    by_cases hk : k = i
    · subst hk
      have : ¬ j = k := fun e => h e.symm
      simpa [tblDrop, tblGet, this] using ih
    · by_cases hj : j = k
      · simp [tblDrop, hk, tblGet, hj]
      · simpa [tblDrop, hk, tblGet, hj] using ih

/-- Every index of a table's list is another one than `i`. -/
theorem tblGet_of_absent (d : Nat → α) (m : Table α) (i : Nat) (h : ∀ e ∈ m, e.1 ≠ i) : tblGet d m i = d i := by
  induction m with
  | nil => rfl
  | cons e m ih =>
    obtain ⟨k, w⟩ := e
    have hk : ¬ i = k := fun e => h (k, w) (by simp) e.symm
    simpa [tblGet, hk] using ih (fun e he => h e (by simp [he]))

theorem tblDrop_absent (m : Table α) (i : Nat) : ∀ e ∈ tblDrop m i, e.1 ≠ i := by
  intro e he
  simpa [tblDrop] using (List.mem_filter.mp he).2

theorem tblGet_tblPlace_self (d : Nat → α) (m : Table α) (i : Nat) (v : α) (h : ∀ e ∈ m, e.1 ≠ i) :
    tblGet d (tblPlace i v m) i = v := by
  induction m with
  | nil => simp [tblPlace, tblGet]
  | cons e m ih =>
    obtain ⟨k, w⟩ := e
    have hk : ¬ i = k := fun e => h (k, w) (by simp) e.symm
    by_cases hl : i < k
    · simp [tblPlace, hl, tblGet]
    · simpa [tblPlace, hl, tblGet, hk] using ih (fun e he => h e (by simp [he]))

theorem tblGet_tblPlace_ne (d : Nat → α) (m : Table α) {i j : Nat} (v : α) (h : i ≠ j) :
    tblGet d (tblPlace i v m) j = tblGet d m j := by
  have hj : ¬ j = i := fun e => h e.symm
  induction m with
  | nil => simp [tblPlace, tblGet, hj]
  | cons e m ih =>
    obtain ⟨k, w⟩ := e
    by_cases hl : i < k
    · simp [tblPlace, hl, tblGet, hj]
    · by_cases hk : j = k
      · simp [tblPlace, hl, tblGet, hk]
      · simpa [tblPlace, hl, tblGet, hk] using ih

/-- A read after a write to the same index gives the value written. -/
@[simp] theorem tblGet_tblSet_self [DecidableEq α] (d : Nat → α) (m : Table α) (i : Nat) (v : α) :
    tblGet d (tblSet d m i v) i = v := by
  unfold tblSet
  split
  · next h => rw [tblGet_tblDrop_self, h]
  · exact tblGet_tblPlace_self d _ i v (tblDrop_absent m i)

/-- A write leaves every other index alone. -/
theorem tblGet_tblSet_ne [DecidableEq α] (d : Nat → α) (m : Table α) {i j : Nat} (v : α) (h : i ≠ j) :
    tblGet d (tblSet d m i v) j = tblGet d m j := by
  unfold tblSet
  split
  · exact tblGet_tblDrop_ne d m h
  · rw [tblGet_tblPlace_ne d _ v h, tblGet_tblDrop_ne d m h]

theorem tblGet_tblSet [DecidableEq α] (d : Nat → α) (m : Table α) (i j : Nat) (v : α) :
    tblGet d (tblSet d m i v) j = if i = j then v else tblGet d m j := by
  by_cases h : i = j
  · subst h; simp
  · simp [h, tblGet_tblSet_ne d m v h]

/-- The canonical form as a proposition: indices strictly rising and no default listed. -/
theorem tblWf_cons [DecidableEq α] (d : Nat → α) (k : Nat) (v : α) (m : Table α) :
    tblWf d ((k, v) :: m) = true ↔ v ≠ d k ∧ (∀ e ∈ m, k < e.1) ∧ tblWf d m = true := by
  simp [tblWf, and_assoc]

theorem tblWf_filter [DecidableEq α] (d : Nat → α) (p : Nat × α → Bool) (m : Table α) (h : tblWf d m = true) :
    tblWf d (m.filter p) = true := by
  induction m with
  | nil => rfl
  | cons e m ih =>
    obtain ⟨k, v⟩ := e
    obtain ⟨h1, h2, h3⟩ := (tblWf_cons d k v m).mp h
    by_cases hp : p (k, v) = true
    · rw [List.filter_cons_of_pos hp]
      exact (tblWf_cons d k v _).mpr ⟨h1, fun e he => h2 e (List.mem_filter.mp he).1, ih h3⟩
    · rw [List.filter_cons_of_neg hp]
      exact ih h3

theorem mem_tblPlace (i : Nat) (v : α) (m : Table α) (e : Nat × α) (h : e ∈ tblPlace i v m) : e = (i, v) ∨ e ∈ m := by
  induction m with
  | nil => simpa [tblPlace] using h
  | cons x m ih =>
    obtain ⟨k, w⟩ := x
    by_cases hl : i < k
    · simpa [tblPlace, hl] using h
    · simp only [tblPlace, hl, if_false, List.mem_cons] at h
      rcases h with h | h
      · exact .inr (by simp [h])
      · exact (ih h).imp id (fun h => by simp [h])

theorem tblWf_tblPlace [DecidableEq α] (d : Nat → α) (m : Table α) (i : Nat) (v : α) (hv : v ≠ d i)
    (ha : ∀ e ∈ m, e.1 ≠ i) (h : tblWf d m = true) : tblWf d (tblPlace i v m) = true := by
  induction m with
  | nil => simp [tblPlace, tblWf, hv]
  | cons e m ih =>
    obtain ⟨k, w⟩ := e
    obtain ⟨h1, h2, h3⟩ := (tblWf_cons d k w m).mp h
    have hk : k ≠ i := ha (k, w) (by simp)
    by_cases hl : i < k
    · simp only [tblPlace, hl, if_true]
      refine (tblWf_cons d i v _).mpr ⟨hv, ?_, h⟩
      intro e he
      rcases List.mem_cons.mp he with rfl | he
      · exact hl
      · exact Nat.lt_trans hl (h2 e he)
    · simp only [tblPlace, hl, if_false]
      refine (tblWf_cons d k w _).mpr ⟨h1, ?_, ih (fun e he => ha e (by simp [he])) h3⟩
      intro e he
      rcases mem_tblPlace i v m e he with rfl | he
      · show k < i; omega
      · exact h2 e he

/-- A write keeps the canonical form. -/
theorem tblWf_tblSet [DecidableEq α] (d : Nat → α) (m : Table α) (i : Nat) (v : α) (h : tblWf d m = true) :
    tblWf d (tblSet d m i v) = true := by
  unfold tblSet
  split
  · exact tblWf_filter d _ m h
  · next hv => exact tblWf_tblPlace d _ i v hv (tblDrop_absent m i) (tblWf_filter d _ m h)

/-- Clearing a range keeps the canonical form. -/
theorem tblWf_tblClear [DecidableEq α] (d : Nat → α) (m : Table α) (lo hi : Nat) (h : tblWf d m = true) :
    tblWf d (tblClear m lo hi) = true := tblWf_filter d _ m h

/-- Writing a list of values keeps the canonical form. -/
theorem tblWf_tblSets [DecidableEq α] (d : Nat → α) (vs : List α) (m : Table α) (i : Nat) (h : tblWf d m = true) :
    tblWf d (tblSets d m i vs) = true := by
  induction vs generalizing m i with
  | nil => exact h
  | cons v vs ih => exact ih _ _ (tblWf_tblSet d m i v h)

/-- A range that was cleared reads as its defaults, every other index as before. -/
theorem tblGet_tblClear (d : Nat → α) (m : Table α) (lo hi i : Nat) :
    tblGet d (tblClear m lo hi) i = if lo ≤ i ∧ i < hi then d i else tblGet d m i := by
  induction m with
  | nil => simp [tblClear]
  | cons e m ih =>
    obtain ⟨k, v⟩ := e
    unfold tblClear at ih ⊢
    by_cases hk : k < lo ∨ hi ≤ k
    · rw [List.filter_cons_of_pos (by simpa using hk)]
      by_cases hi' : i = k
      · have : ¬ (lo ≤ k ∧ k < hi) := by omega
        simp [tblGet, hi', this]
      · simp [tblGet, hi', ih]
    · rw [List.filter_cons_of_neg (by simpa using hk)]
      by_cases hi' : i = k
      · have : lo ≤ k ∧ k < hi := by omega
        subst hi'; simp [ih, this]
      · simp [tblGet, hi', ih]

/-- Reading after a list of values was written from `i`: the value of its place, and every other index as before. -/
theorem tblGet_tblSets [DecidableEq α] (d : Nat → α) (vs : List α) (m : Table α) (i j : Nat) :
    tblGet d (tblSets d m i vs) j = if i ≤ j then (vs[j - i]?).getD (tblGet d m j) else tblGet d m j := by
  induction vs generalizing m i with
  | nil => simp [tblSets]
  | cons v vs ih =>
    rw [tblSets, ih, tblGet_tblSet]
    by_cases h : i = j
    · subst h; simp [show ¬ i + 1 ≤ i by omega]
    · by_cases hl : i ≤ j
      · have h1 : i + 1 ≤ j := by omega
        have h2 : j - i = (j - (i + 1)) + 1 := by omega
        simp [hl, h1, h2, h]
      · have h1 : ¬ i + 1 ≤ j := by omega
        simp [hl, h1, h]

end Sys2Proof.Machine
end

