-- ==== Sys2Proof/Laws/Fields.lean ====
section
/-! SUPPORT. Fields: what reading and writing registers and their fields does. -/

namespace Sys2Proof.Machine

/-! ### Registers -/

@[simp] theorem State.reg_setReg_self (s : State) (a : Nat) (v : Word) : (s.setReg a v).reg a = v := by
  simp [State.reg, State.setReg]

/-- A write to a register leaves every other register alone. -/
theorem State.reg_setReg_ne (s : State) {a b : Nat} (v : Word) (h : a ≠ b) : (s.setReg a v).reg b = s.reg b := by
  simp [State.reg, State.setReg, tblGet_tblSet_ne _ _ v h]

theorem State.reg_setReg (s : State) (a b : Nat) (v : Word) : (s.setReg a v).reg b = if a = b then v else s.reg b := by
  simp [State.reg, State.setReg, tblGet_tblSet]

/-- A register write keeps the registers' canonical form. -/
theorem State.regs_wf_setReg (s : State) (a : Nat) (v : Word) (h : tblWf regReset s.regs = true) :
    tblWf regReset (s.setReg a v).regs = true := tblWf_tblSet _ _ a v h

/-- Setting a field of one register leaves every other register alone. -/
theorem State.reg_set_ne (s : State) {f : Fld} {b : Nat} (v : Nat) (h : f.a ≠ b) : (s.set f v).reg b = s.reg b :=
  s.reg_setReg_ne _ h

/-- Raising an event bit leaves every other register alone. -/
theorem State.reg_event_ne (s : State) {a b : Nat} (n : Nat) (h : a ≠ b) : (s.event a n).reg b = s.reg b :=
  s.reg_setReg_ne _ h

@[simp] theorem State.reg_event_self (s : State) (a n : Nat) : (s.event a n).reg a = s.reg a ||| BitVec.ofNat 32 n :=
  s.reg_setReg_self a _

/-- A counter's step leaves every other register alone. -/
theorem State.reg_bump_ne (s : State) {a b : Nat} (h : a ≠ b) : (s.bump a).reg b = s.reg b := by
  unfold State.bump
  split
  · rfl
  · exact s.reg_setReg_ne _ h

theorem State.reg_bumpBy_ne (s : State) {a b : Nat} (n : Nat) (h : a ≠ b) : (s.bumpBy a n).reg b = s.reg b :=
  s.reg_setReg_ne _ h

/-- A counter steps by one and stops at its greatest value (R10). -/
theorem State.reg_bump_self (s : State) (a : Nat) : ((s.bump a).reg a).toNat = min 0xFFFFFFFF ((s.reg a).toNat + 1) := by
  have h := (s.reg a).isLt
  unfold State.bump
  split
  · next e => simp [e]
  · next e =>
    have : (s.reg a).toNat ≠ 4294967295 := fun x => e (BitVec.eq_of_toNat_eq (by simpa using x))
    rw [State.reg_setReg_self, BitVec.toNat_add]
    simp only [BitVec.toNat_ofNat]
    omega

/-! ### Fields -/

theorem getLsbD_maskOf (f : Fld) (i : Nat) :
    (maskOf f).getLsbD i = (decide (i < 32) && decide (f.lo ≤ i) && decide (i < f.lo + f.w)) := by
  simp only [maskOf, BitVec.getLsbD_shiftLeft, BitVec.getLsbD_setWidth, BitVec.getLsbD_allOnes]
  by_cases h1 : i < 32 <;> by_cases h2 : f.lo ≤ i <;> by_cases h3 : i < f.lo + f.w <;> simp [h1, h2, h3] <;> omega

/-- A field reads as the value it was set to, cut to its width. -/
theorem State.get_set_self (s : State) (f : Fld) (v : Nat) (h : f.lo + f.w ≤ 32) : (s.set f v).get f = v % 2 ^ f.w := by
  have e : ((s.set f v).reg f.a).extractLsb' f.lo f.w = BitVec.ofNat f.w v := by
    rw [State.set, State.reg_setReg_self]
    apply BitVec.eq_of_getLsbD_eq
    intro i hi
    simp only [BitVec.getLsbD_extractLsb', BitVec.getLsbD_or, BitVec.getLsbD_and, BitVec.getLsbD_not, getLsbD_maskOf,
      BitVec.getLsbD_shiftLeft, BitVec.getLsbD_setWidth, BitVec.getLsbD_ofNat]
    have h1 : f.lo + i < 32 := by omega
    have h2 : f.lo + i < f.lo + f.w := by omega
    have h3 : ¬ f.lo + i < f.lo := by omega
    have h4 : f.lo + i - f.lo = i := by omega
    have h5 : i < 32 := by omega
    simp [hi, h1, h2, h4, h5]
  rw [State.get, e, BitVec.toNat_ofNat]

/-- Setting a field leaves a field apart from it alone. -/
theorem State.get_set_apart (s : State) {f g : Fld} (v : Nat) (h : f.apart g = true) : (s.set g v).get f = s.get f := by
  by_cases ha : f.a = g.a
  · have e : ((s.set g v).reg f.a).extractLsb' f.lo f.w = (s.reg f.a).extractLsb' f.lo f.w := by
      rw [State.set, ha, State.reg_setReg_self]
      apply BitVec.eq_of_getLsbD_eq
      intro i hi
      simp only [BitVec.getLsbD_extractLsb', BitVec.getLsbD_or, BitVec.getLsbD_and, BitVec.getLsbD_not, getLsbD_maskOf]
      have hb : ¬ (g.lo ≤ f.lo + i ∧ f.lo + i < g.lo + g.w) := by
        simp [Fld.apart, ha] at h; omega
      by_cases h1 : f.lo + i < 32
      · by_cases h2 : g.lo ≤ f.lo + i
        · have h3 : ¬ f.lo + i < g.lo + g.w := fun x => hb ⟨h2, x⟩
          simp [hi, h1, h2, h3]
        · simp [hi, h1, h2]
      · simp [hi, h1, BitVec.getLsbD_of_ge _ _ (Nat.le_of_not_lt h1)]
    rw [State.get, e, State.get]
  · rw [State.get, State.get, State.set, State.reg_setReg_ne _ _ (fun e => ha e.symm)]

theorem State.get_setReg_ne (s : State) {f : Fld} {a : Nat} (v : Word) (h : a ≠ f.a) : (s.setReg a v).get f = s.get f := by
  rw [State.get, State.get, State.reg_setReg_ne _ v h]

theorem State.get_event_ne (s : State) {f : Fld} {a : Nat} (n : Nat) (h : a ≠ f.a) : (s.event a n).get f = s.get f :=
  s.get_setReg_ne _ h

theorem State.get_bump_ne (s : State) {f : Fld} {a : Nat} (h : a ≠ f.a) : (s.bump a).get f = s.get f := by
  rw [State.get, State.get, State.reg_bump_ne _ h]

/-- A field's value fits its width. -/
theorem State.get_lt (s : State) (f : Fld) : s.get f < 2 ^ f.w := ((s.reg f.a).extractLsb' f.lo f.w).isLt

/-! ### WO1 fields and register ranges (R653) -/

@[simp] theorem State.retake_regs (s : State) (a : Nat) (w : Word) : (s.retake a w).regs = s.regs := rfl
@[simp] theorem State.retake_reg (s : State) (a b : Nat) (w : Word) : (s.retake a w).reg b = s.reg b := rfl
@[simp] theorem State.retake_get (s : State) (a : Nat) (w : Word) (f : Fld) : (s.retake a w).get f = s.get f := rfl
@[simp] theorem State.retake_mem (s : State) (a : Nat) (w : Word) : (s.retake a w).mem = s.mem := rfl
@[simp] theorem State.retake_now (s : State) (a : Nat) (w : Word) : (s.retake a w).now = s.now := rfl

/-- In the cycle that makes WO1 fields writable again they are still refused. -/
@[simp] theorem State.retaken_retake (s : State) (a : Nat) (w : Word) : (s.retake a w).retaken a = s.retaken a ||| w := by
  simp [State.retaken, State.retake]

/-- What `resetRegs` does beside the registers of its range: it takes their WO1 fields back. -/
theorem State.resetRegs_keeps {β : Type} (f : State → β) (hr : ∀ (s : State) a w, f (s.retake a w) = f s)
    (hf : ∀ (s : State) r, f { s with regs := r } = f s) (s : State) (lo hi : Nat) : f (s.resetRegs lo hi) = f s := by
  have h : ∀ (l : List (Nat × Word)) (u : State), f (l.foldl (fun s e => s.retake e.1 e.2) u) = f u := by
    intro l
    induction l with
    | nil => intro u; rfl
    | cons e l ih => intro u; exact (ih _).trans (hr u _ _)
  exact (hf _ _).trans (h _ s)

@[simp] theorem State.resetRegs_mem (s : State) (lo hi : Nat) : (s.resetRegs lo hi).mem = s.mem :=
  s.resetRegs_keeps (fun s => s.mem) (fun _ _ _ => rfl) (fun _ _ => rfl) lo hi

@[simp] theorem State.resetRegs_now (s : State) (lo hi : Nat) : (s.resetRegs lo hi).now = s.now :=
  s.resetRegs_keeps (fun s => s.now) (fun _ _ _ => rfl) (fun _ _ => rfl) lo hi

/-- Inside the range every register reads its reset value, outside it what it read before. -/
theorem State.reg_resetRegs (s : State) (lo hi a : Nat) :
    (s.resetRegs lo hi).reg a = if lo ≤ a ∧ a < hi then regReset a else s.reg a := by
  have h : ∀ (l : List (Nat × Word)) (u : State), (l.foldl (fun s e => s.retake e.1 e.2) u).regs = u.regs := by
    intro l
    induction l with
    | nil => intro u; rfl
    | cons e l ih => intro u; exact ih _
  unfold State.resetRegs State.reg
  simp only [h, tblGet_tblClear]

end Sys2Proof.Machine
end

