-- ==== Sys2Proof/Laws/State.lean ====
section
/-! SUPPORT. State: the fields of the state after each update that the meanings are written in. -/

namespace Sys2Proof.Machine

/-! ### setReg -/

@[simp] theorem State.setReg_pending (s : State) (a : Nat) (v : Word) : (s.setReg a v).pending = s.pending := rfl
@[simp] theorem State.setReg_now (s : State) (a : Nat) (v : Word) : (s.setReg a v).now = s.now := rfl
@[simp] theorem State.setReg_free (s : State) (a : Nat) (v : Word) : (s.setReg a v).free = s.free := rfl
@[simp] theorem State.setReg_out (s : State) (a : Nat) (v : Word) : (s.setReg a v).out = s.out := rfl
@[simp] theorem State.setReg_written (s : State) (a : Nat) (v : Word) : (s.setReg a v).written = s.written := rfl
@[simp] theorem State.setReg_raised (s : State) (a : Nat) (v : Word) : (s.setReg a v).raised = s.raised := rfl
@[simp] theorem State.setReg_raisedAt (s : State) (a : Nat) (v : Word) : (s.setReg a v).raisedAt = s.raisedAt := rfl
@[simp] theorem State.setReg_latch (s : State) (a : Nat) (v : Word) : (s.setReg a v).latch = s.latch := rfl
@[simp] theorem State.setReg_straps (s : State) (a : Nat) (v : Word) : (s.setReg a v).straps = s.straps := rfl
@[simp] theorem State.setReg_ports (s : State) (a : Nat) (v : Word) : (s.setReg a v).ports = s.ports := rfl
@[simp] theorem State.setReg_fab (s : State) (a : Nat) (v : Word) : (s.setReg a v).fab = s.fab := rfl
@[simp] theorem State.setReg_mem (s : State) (a : Nat) (v : Word) : (s.setReg a v).mem = s.mem := rfl
@[simp] theorem State.setReg_cores (s : State) (a : Nat) (v : Word) : (s.setReg a v).cores = s.cores := rfl
@[simp] theorem State.setReg_vid (s : State) (a : Nat) (v : Word) : (s.setReg a v).vid = s.vid := rfl
@[simp] theorem State.setReg_kmp (s : State) (a : Nat) (v : Word) : (s.setReg a v).kmp = s.kmp := rfl
@[simp] theorem State.setReg_tim (s : State) (a : Nat) (v : Word) : (s.setReg a v).tim = s.tim := rfl
@[simp] theorem State.setReg_plans (s : State) (a : Nat) (v : Word) : (s.setReg a v).plans = s.plans := rfl
@[simp] theorem State.setReg_loss (s : State) (a : Nat) (v : Word) : (s.setReg a v).loss = s.loss := rfl
@[simp] theorem State.setReg_saf (s : State) (a : Nat) (v : Word) : (s.setReg a v).saf = s.saf := rfl
@[simp] theorem State.setReg_sec (s : State) (a : Nat) (v : Word) : (s.setReg a v).sec = s.sec := rfl
@[simp] theorem State.setReg_cal (s : State) (a : Nat) (v : Word) : (s.setReg a v).cal = s.cal := rfl
@[simp] theorem State.setReg_pwr (s : State) (a : Nat) (v : Word) : (s.setReg a v).pwr = s.pwr := rfl
@[simp] theorem State.setReg_per (s : State) (a : Nat) (v : Word) : (s.setReg a v).per = s.per := rfl
@[simp] theorem State.setReg_con (s : State) (a : Nat) (v : Word) : (s.setReg a v).con = s.con := rfl
@[simp] theorem State.setReg_ctl (s : State) (a : Nat) (v : Word) : (s.setReg a v).ctl = s.ctl := rfl

/-! ### set -/

@[simp] theorem State.set_pending (s : State) (f : Fld) (v : Nat) : (s.set f v).pending = s.pending := rfl
@[simp] theorem State.set_now (s : State) (f : Fld) (v : Nat) : (s.set f v).now = s.now := rfl
@[simp] theorem State.set_free (s : State) (f : Fld) (v : Nat) : (s.set f v).free = s.free := rfl
@[simp] theorem State.set_out (s : State) (f : Fld) (v : Nat) : (s.set f v).out = s.out := rfl
@[simp] theorem State.set_written (s : State) (f : Fld) (v : Nat) : (s.set f v).written = s.written := rfl
@[simp] theorem State.set_raised (s : State) (f : Fld) (v : Nat) : (s.set f v).raised = s.raised := rfl
@[simp] theorem State.set_raisedAt (s : State) (f : Fld) (v : Nat) : (s.set f v).raisedAt = s.raisedAt := rfl
@[simp] theorem State.set_latch (s : State) (f : Fld) (v : Nat) : (s.set f v).latch = s.latch := rfl
@[simp] theorem State.set_straps (s : State) (f : Fld) (v : Nat) : (s.set f v).straps = s.straps := rfl
@[simp] theorem State.set_ports (s : State) (f : Fld) (v : Nat) : (s.set f v).ports = s.ports := rfl
@[simp] theorem State.set_fab (s : State) (f : Fld) (v : Nat) : (s.set f v).fab = s.fab := rfl
@[simp] theorem State.set_mem (s : State) (f : Fld) (v : Nat) : (s.set f v).mem = s.mem := rfl
@[simp] theorem State.set_cores (s : State) (f : Fld) (v : Nat) : (s.set f v).cores = s.cores := rfl
@[simp] theorem State.set_vid (s : State) (f : Fld) (v : Nat) : (s.set f v).vid = s.vid := rfl
@[simp] theorem State.set_kmp (s : State) (f : Fld) (v : Nat) : (s.set f v).kmp = s.kmp := rfl
@[simp] theorem State.set_tim (s : State) (f : Fld) (v : Nat) : (s.set f v).tim = s.tim := rfl
@[simp] theorem State.set_plans (s : State) (f : Fld) (v : Nat) : (s.set f v).plans = s.plans := rfl
@[simp] theorem State.set_loss (s : State) (f : Fld) (v : Nat) : (s.set f v).loss = s.loss := rfl
@[simp] theorem State.set_saf (s : State) (f : Fld) (v : Nat) : (s.set f v).saf = s.saf := rfl
@[simp] theorem State.set_sec (s : State) (f : Fld) (v : Nat) : (s.set f v).sec = s.sec := rfl
@[simp] theorem State.set_cal (s : State) (f : Fld) (v : Nat) : (s.set f v).cal = s.cal := rfl
@[simp] theorem State.set_pwr (s : State) (f : Fld) (v : Nat) : (s.set f v).pwr = s.pwr := rfl
@[simp] theorem State.set_per (s : State) (f : Fld) (v : Nat) : (s.set f v).per = s.per := rfl
@[simp] theorem State.set_con (s : State) (f : Fld) (v : Nat) : (s.set f v).con = s.con := rfl
@[simp] theorem State.set_ctl (s : State) (f : Fld) (v : Nat) : (s.set f v).ctl = s.ctl := rfl

/-! ### event -/

@[simp] theorem State.event_pending (s : State) (a n : Nat) : (s.event a n).pending = s.pending := rfl
@[simp] theorem State.event_now (s : State) (a n : Nat) : (s.event a n).now = s.now := rfl
@[simp] theorem State.event_free (s : State) (a n : Nat) : (s.event a n).free = s.free := rfl
@[simp] theorem State.event_out (s : State) (a n : Nat) : (s.event a n).out = s.out := rfl
@[simp] theorem State.event_written (s : State) (a n : Nat) : (s.event a n).written = s.written := rfl
@[simp] theorem State.event_raisedAt (s : State) (a n : Nat) : (s.event a n).raisedAt = s.now := rfl
@[simp] theorem State.event_latch (s : State) (a n : Nat) : (s.event a n).latch = s.latch := rfl
@[simp] theorem State.event_straps (s : State) (a n : Nat) : (s.event a n).straps = s.straps := rfl
@[simp] theorem State.event_ports (s : State) (a n : Nat) : (s.event a n).ports = s.ports := rfl
@[simp] theorem State.event_fab (s : State) (a n : Nat) : (s.event a n).fab = s.fab := rfl
@[simp] theorem State.event_mem (s : State) (a n : Nat) : (s.event a n).mem = s.mem := rfl
@[simp] theorem State.event_cores (s : State) (a n : Nat) : (s.event a n).cores = s.cores := rfl
@[simp] theorem State.event_vid (s : State) (a n : Nat) : (s.event a n).vid = s.vid := rfl
@[simp] theorem State.event_kmp (s : State) (a n : Nat) : (s.event a n).kmp = s.kmp := rfl
@[simp] theorem State.event_tim (s : State) (a n : Nat) : (s.event a n).tim = s.tim := rfl
@[simp] theorem State.event_plans (s : State) (a n : Nat) : (s.event a n).plans = s.plans := rfl
@[simp] theorem State.event_loss (s : State) (a n : Nat) : (s.event a n).loss = s.loss := rfl
@[simp] theorem State.event_saf (s : State) (a n : Nat) : (s.event a n).saf = s.saf := rfl
@[simp] theorem State.event_sec (s : State) (a n : Nat) : (s.event a n).sec = s.sec := rfl
@[simp] theorem State.event_cal (s : State) (a n : Nat) : (s.event a n).cal = s.cal := rfl
@[simp] theorem State.event_pwr (s : State) (a n : Nat) : (s.event a n).pwr = s.pwr := rfl
@[simp] theorem State.event_per (s : State) (a n : Nat) : (s.event a n).per = s.per := rfl
@[simp] theorem State.event_con (s : State) (a n : Nat) : (s.event a n).con = s.con := rfl
@[simp] theorem State.event_ctl (s : State) (a n : Nat) : (s.event a n).ctl = s.ctl := rfl

/-! ### emit -/

@[simp] theorem State.emit_pending (s : State) (e : Emit) : (s.emit e).pending = s.pending := rfl
@[simp] theorem State.emit_now (s : State) (e : Emit) : (s.emit e).now = s.now := rfl
@[simp] theorem State.emit_free (s : State) (e : Emit) : (s.emit e).free = s.free := rfl
@[simp] theorem State.emit_regs (s : State) (e : Emit) : (s.emit e).regs = s.regs := rfl
@[simp] theorem State.emit_written (s : State) (e : Emit) : (s.emit e).written = s.written := rfl
@[simp] theorem State.emit_raised (s : State) (e : Emit) : (s.emit e).raised = s.raised := rfl
@[simp] theorem State.emit_raisedAt (s : State) (e : Emit) : (s.emit e).raisedAt = s.raisedAt := rfl
@[simp] theorem State.emit_latch (s : State) (e : Emit) : (s.emit e).latch = s.latch := rfl
@[simp] theorem State.emit_straps (s : State) (e : Emit) : (s.emit e).straps = s.straps := rfl
@[simp] theorem State.emit_ports (s : State) (e : Emit) : (s.emit e).ports = s.ports := rfl
@[simp] theorem State.emit_fab (s : State) (e : Emit) : (s.emit e).fab = s.fab := rfl
@[simp] theorem State.emit_mem (s : State) (e : Emit) : (s.emit e).mem = s.mem := rfl
@[simp] theorem State.emit_cores (s : State) (e : Emit) : (s.emit e).cores = s.cores := rfl
@[simp] theorem State.emit_vid (s : State) (e : Emit) : (s.emit e).vid = s.vid := rfl
@[simp] theorem State.emit_kmp (s : State) (e : Emit) : (s.emit e).kmp = s.kmp := rfl
@[simp] theorem State.emit_tim (s : State) (e : Emit) : (s.emit e).tim = s.tim := rfl
@[simp] theorem State.emit_plans (s : State) (e : Emit) : (s.emit e).plans = s.plans := rfl
@[simp] theorem State.emit_loss (s : State) (e : Emit) : (s.emit e).loss = s.loss := rfl
@[simp] theorem State.emit_saf (s : State) (e : Emit) : (s.emit e).saf = s.saf := rfl
@[simp] theorem State.emit_sec (s : State) (e : Emit) : (s.emit e).sec = s.sec := rfl
@[simp] theorem State.emit_cal (s : State) (e : Emit) : (s.emit e).cal = s.cal := rfl
@[simp] theorem State.emit_pwr (s : State) (e : Emit) : (s.emit e).pwr = s.pwr := rfl
@[simp] theorem State.emit_per (s : State) (e : Emit) : (s.emit e).per = s.per := rfl
@[simp] theorem State.emit_con (s : State) (e : Emit) : (s.emit e).con = s.con := rfl
@[simp] theorem State.emit_ctl (s : State) (e : Emit) : (s.emit e).ctl = s.ctl := rfl

/-! ### setPort -/

@[simp] theorem State.setPort_pending (s : State) (p : Nat) (q : Port) : (s.setPort p q).pending = s.pending := rfl
@[simp] theorem State.setPort_now (s : State) (p : Nat) (q : Port) : (s.setPort p q).now = s.now := rfl
@[simp] theorem State.setPort_free (s : State) (p : Nat) (q : Port) : (s.setPort p q).free = s.free := rfl
@[simp] theorem State.setPort_out (s : State) (p : Nat) (q : Port) : (s.setPort p q).out = s.out := rfl
@[simp] theorem State.setPort_regs (s : State) (p : Nat) (q : Port) : (s.setPort p q).regs = s.regs := rfl
@[simp] theorem State.setPort_written (s : State) (p : Nat) (q : Port) : (s.setPort p q).written = s.written := rfl
@[simp] theorem State.setPort_raised (s : State) (p : Nat) (q : Port) : (s.setPort p q).raised = s.raised := rfl
@[simp] theorem State.setPort_raisedAt (s : State) (p : Nat) (q : Port) : (s.setPort p q).raisedAt = s.raisedAt := rfl
@[simp] theorem State.setPort_latch (s : State) (p : Nat) (q : Port) : (s.setPort p q).latch = s.latch := rfl
@[simp] theorem State.setPort_straps (s : State) (p : Nat) (q : Port) : (s.setPort p q).straps = s.straps := rfl
@[simp] theorem State.setPort_fab (s : State) (p : Nat) (q : Port) : (s.setPort p q).fab = s.fab := rfl
@[simp] theorem State.setPort_mem (s : State) (p : Nat) (q : Port) : (s.setPort p q).mem = s.mem := rfl
@[simp] theorem State.setPort_cores (s : State) (p : Nat) (q : Port) : (s.setPort p q).cores = s.cores := rfl
@[simp] theorem State.setPort_vid (s : State) (p : Nat) (q : Port) : (s.setPort p q).vid = s.vid := rfl
@[simp] theorem State.setPort_kmp (s : State) (p : Nat) (q : Port) : (s.setPort p q).kmp = s.kmp := rfl
@[simp] theorem State.setPort_tim (s : State) (p : Nat) (q : Port) : (s.setPort p q).tim = s.tim := rfl
@[simp] theorem State.setPort_plans (s : State) (p : Nat) (q : Port) : (s.setPort p q).plans = s.plans := rfl
@[simp] theorem State.setPort_loss (s : State) (p : Nat) (q : Port) : (s.setPort p q).loss = s.loss := rfl
@[simp] theorem State.setPort_saf (s : State) (p : Nat) (q : Port) : (s.setPort p q).saf = s.saf := rfl
@[simp] theorem State.setPort_sec (s : State) (p : Nat) (q : Port) : (s.setPort p q).sec = s.sec := rfl
@[simp] theorem State.setPort_cal (s : State) (p : Nat) (q : Port) : (s.setPort p q).cal = s.cal := rfl
@[simp] theorem State.setPort_pwr (s : State) (p : Nat) (q : Port) : (s.setPort p q).pwr = s.pwr := rfl
@[simp] theorem State.setPort_per (s : State) (p : Nat) (q : Port) : (s.setPort p q).per = s.per := rfl
@[simp] theorem State.setPort_con (s : State) (p : Nat) (q : Port) : (s.setPort p q).con = s.con := rfl
@[simp] theorem State.setPort_ctl (s : State) (p : Nat) (q : Port) : (s.setPort p q).ctl = s.ctl := rfl

/-! ### onPort -/

@[simp] theorem State.onPort_pending (s : State) (p : Nat) (f : Port → Port) : (s.onPort p f).pending = s.pending := rfl
@[simp] theorem State.onPort_now (s : State) (p : Nat) (f : Port → Port) : (s.onPort p f).now = s.now := rfl
@[simp] theorem State.onPort_free (s : State) (p : Nat) (f : Port → Port) : (s.onPort p f).free = s.free := rfl
@[simp] theorem State.onPort_out (s : State) (p : Nat) (f : Port → Port) : (s.onPort p f).out = s.out := rfl
@[simp] theorem State.onPort_regs (s : State) (p : Nat) (f : Port → Port) : (s.onPort p f).regs = s.regs := rfl
@[simp] theorem State.onPort_written (s : State) (p : Nat) (f : Port → Port) : (s.onPort p f).written = s.written := rfl
@[simp] theorem State.onPort_raised (s : State) (p : Nat) (f : Port → Port) : (s.onPort p f).raised = s.raised := rfl
@[simp] theorem State.onPort_raisedAt (s : State) (p : Nat) (f : Port → Port) : (s.onPort p f).raisedAt = s.raisedAt := rfl
@[simp] theorem State.onPort_latch (s : State) (p : Nat) (f : Port → Port) : (s.onPort p f).latch = s.latch := rfl
@[simp] theorem State.onPort_straps (s : State) (p : Nat) (f : Port → Port) : (s.onPort p f).straps = s.straps := rfl
@[simp] theorem State.onPort_fab (s : State) (p : Nat) (f : Port → Port) : (s.onPort p f).fab = s.fab := rfl
@[simp] theorem State.onPort_mem (s : State) (p : Nat) (f : Port → Port) : (s.onPort p f).mem = s.mem := rfl
@[simp] theorem State.onPort_cores (s : State) (p : Nat) (f : Port → Port) : (s.onPort p f).cores = s.cores := rfl
@[simp] theorem State.onPort_vid (s : State) (p : Nat) (f : Port → Port) : (s.onPort p f).vid = s.vid := rfl
@[simp] theorem State.onPort_kmp (s : State) (p : Nat) (f : Port → Port) : (s.onPort p f).kmp = s.kmp := rfl
@[simp] theorem State.onPort_tim (s : State) (p : Nat) (f : Port → Port) : (s.onPort p f).tim = s.tim := rfl
@[simp] theorem State.onPort_plans (s : State) (p : Nat) (f : Port → Port) : (s.onPort p f).plans = s.plans := rfl
@[simp] theorem State.onPort_loss (s : State) (p : Nat) (f : Port → Port) : (s.onPort p f).loss = s.loss := rfl
@[simp] theorem State.onPort_saf (s : State) (p : Nat) (f : Port → Port) : (s.onPort p f).saf = s.saf := rfl
@[simp] theorem State.onPort_sec (s : State) (p : Nat) (f : Port → Port) : (s.onPort p f).sec = s.sec := rfl
@[simp] theorem State.onPort_cal (s : State) (p : Nat) (f : Port → Port) : (s.onPort p f).cal = s.cal := rfl
@[simp] theorem State.onPort_pwr (s : State) (p : Nat) (f : Port → Port) : (s.onPort p f).pwr = s.pwr := rfl
@[simp] theorem State.onPort_per (s : State) (p : Nat) (f : Port → Port) : (s.onPort p f).per = s.per := rfl
@[simp] theorem State.onPort_con (s : State) (p : Nat) (f : Port → Port) : (s.onPort p f).con = s.con := rfl
@[simp] theorem State.onPort_ctl (s : State) (p : Nat) (f : Port → Port) : (s.onPort p f).ctl = s.ctl := rfl

/-! ### onFab -/

@[simp] theorem State.onFab_pending (s : State) (f : Fabric → Fabric) : (s.onFab f).pending = s.pending := rfl
@[simp] theorem State.onFab_now (s : State) (f : Fabric → Fabric) : (s.onFab f).now = s.now := rfl
@[simp] theorem State.onFab_free (s : State) (f : Fabric → Fabric) : (s.onFab f).free = s.free := rfl
@[simp] theorem State.onFab_out (s : State) (f : Fabric → Fabric) : (s.onFab f).out = s.out := rfl
@[simp] theorem State.onFab_regs (s : State) (f : Fabric → Fabric) : (s.onFab f).regs = s.regs := rfl
@[simp] theorem State.onFab_written (s : State) (f : Fabric → Fabric) : (s.onFab f).written = s.written := rfl
@[simp] theorem State.onFab_raised (s : State) (f : Fabric → Fabric) : (s.onFab f).raised = s.raised := rfl
@[simp] theorem State.onFab_raisedAt (s : State) (f : Fabric → Fabric) : (s.onFab f).raisedAt = s.raisedAt := rfl
@[simp] theorem State.onFab_latch (s : State) (f : Fabric → Fabric) : (s.onFab f).latch = s.latch := rfl
@[simp] theorem State.onFab_straps (s : State) (f : Fabric → Fabric) : (s.onFab f).straps = s.straps := rfl
@[simp] theorem State.onFab_ports (s : State) (f : Fabric → Fabric) : (s.onFab f).ports = s.ports := rfl
@[simp] theorem State.onFab_mem (s : State) (f : Fabric → Fabric) : (s.onFab f).mem = s.mem := rfl
@[simp] theorem State.onFab_cores (s : State) (f : Fabric → Fabric) : (s.onFab f).cores = s.cores := rfl
@[simp] theorem State.onFab_vid (s : State) (f : Fabric → Fabric) : (s.onFab f).vid = s.vid := rfl
@[simp] theorem State.onFab_kmp (s : State) (f : Fabric → Fabric) : (s.onFab f).kmp = s.kmp := rfl
@[simp] theorem State.onFab_tim (s : State) (f : Fabric → Fabric) : (s.onFab f).tim = s.tim := rfl
@[simp] theorem State.onFab_plans (s : State) (f : Fabric → Fabric) : (s.onFab f).plans = s.plans := rfl
@[simp] theorem State.onFab_loss (s : State) (f : Fabric → Fabric) : (s.onFab f).loss = s.loss := rfl
@[simp] theorem State.onFab_saf (s : State) (f : Fabric → Fabric) : (s.onFab f).saf = s.saf := rfl
@[simp] theorem State.onFab_sec (s : State) (f : Fabric → Fabric) : (s.onFab f).sec = s.sec := rfl
@[simp] theorem State.onFab_cal (s : State) (f : Fabric → Fabric) : (s.onFab f).cal = s.cal := rfl
@[simp] theorem State.onFab_pwr (s : State) (f : Fabric → Fabric) : (s.onFab f).pwr = s.pwr := rfl
@[simp] theorem State.onFab_per (s : State) (f : Fabric → Fabric) : (s.onFab f).per = s.per := rfl
@[simp] theorem State.onFab_con (s : State) (f : Fabric → Fabric) : (s.onFab f).con = s.con := rfl
@[simp] theorem State.onFab_ctl (s : State) (f : Fabric → Fabric) : (s.onFab f).ctl = s.ctl := rfl

/-! ### onTim -/

@[simp] theorem State.onTim_pending (s : State) (f : TimeState → TimeState) : (s.onTim f).pending = s.pending := rfl
@[simp] theorem State.onTim_now (s : State) (f : TimeState → TimeState) : (s.onTim f).now = s.now := rfl
@[simp] theorem State.onTim_free (s : State) (f : TimeState → TimeState) : (s.onTim f).free = s.free := rfl
@[simp] theorem State.onTim_out (s : State) (f : TimeState → TimeState) : (s.onTim f).out = s.out := rfl
@[simp] theorem State.onTim_regs (s : State) (f : TimeState → TimeState) : (s.onTim f).regs = s.regs := rfl
@[simp] theorem State.onTim_written (s : State) (f : TimeState → TimeState) : (s.onTim f).written = s.written := rfl
@[simp] theorem State.onTim_raised (s : State) (f : TimeState → TimeState) : (s.onTim f).raised = s.raised := rfl
@[simp] theorem State.onTim_raisedAt (s : State) (f : TimeState → TimeState) : (s.onTim f).raisedAt = s.raisedAt := rfl
@[simp] theorem State.onTim_latch (s : State) (f : TimeState → TimeState) : (s.onTim f).latch = s.latch := rfl
@[simp] theorem State.onTim_straps (s : State) (f : TimeState → TimeState) : (s.onTim f).straps = s.straps := rfl
@[simp] theorem State.onTim_ports (s : State) (f : TimeState → TimeState) : (s.onTim f).ports = s.ports := rfl
@[simp] theorem State.onTim_fab (s : State) (f : TimeState → TimeState) : (s.onTim f).fab = s.fab := rfl
@[simp] theorem State.onTim_mem (s : State) (f : TimeState → TimeState) : (s.onTim f).mem = s.mem := rfl
@[simp] theorem State.onTim_cores (s : State) (f : TimeState → TimeState) : (s.onTim f).cores = s.cores := rfl
@[simp] theorem State.onTim_vid (s : State) (f : TimeState → TimeState) : (s.onTim f).vid = s.vid := rfl
@[simp] theorem State.onTim_kmp (s : State) (f : TimeState → TimeState) : (s.onTim f).kmp = s.kmp := rfl
@[simp] theorem State.onTim_plans (s : State) (f : TimeState → TimeState) : (s.onTim f).plans = s.plans := rfl
@[simp] theorem State.onTim_loss (s : State) (f : TimeState → TimeState) : (s.onTim f).loss = s.loss := rfl
@[simp] theorem State.onTim_saf (s : State) (f : TimeState → TimeState) : (s.onTim f).saf = s.saf := rfl
@[simp] theorem State.onTim_sec (s : State) (f : TimeState → TimeState) : (s.onTim f).sec = s.sec := rfl
@[simp] theorem State.onTim_cal (s : State) (f : TimeState → TimeState) : (s.onTim f).cal = s.cal := rfl
@[simp] theorem State.onTim_pwr (s : State) (f : TimeState → TimeState) : (s.onTim f).pwr = s.pwr := rfl
@[simp] theorem State.onTim_per (s : State) (f : TimeState → TimeState) : (s.onTim f).per = s.per := rfl
@[simp] theorem State.onTim_con (s : State) (f : TimeState → TimeState) : (s.onTim f).con = s.con := rfl
@[simp] theorem State.onTim_ctl (s : State) (f : TimeState → TimeState) : (s.onTim f).ctl = s.ctl := rfl

/-! ### onLoss -/

@[simp] theorem State.onLoss_pending (s : State) (f : LossState → LossState) : (s.onLoss f).pending = s.pending := rfl
@[simp] theorem State.onLoss_now (s : State) (f : LossState → LossState) : (s.onLoss f).now = s.now := rfl
@[simp] theorem State.onLoss_free (s : State) (f : LossState → LossState) : (s.onLoss f).free = s.free := rfl
@[simp] theorem State.onLoss_out (s : State) (f : LossState → LossState) : (s.onLoss f).out = s.out := rfl
@[simp] theorem State.onLoss_regs (s : State) (f : LossState → LossState) : (s.onLoss f).regs = s.regs := rfl
@[simp] theorem State.onLoss_written (s : State) (f : LossState → LossState) : (s.onLoss f).written = s.written := rfl
@[simp] theorem State.onLoss_raised (s : State) (f : LossState → LossState) : (s.onLoss f).raised = s.raised := rfl
@[simp] theorem State.onLoss_raisedAt (s : State) (f : LossState → LossState) : (s.onLoss f).raisedAt = s.raisedAt := rfl
@[simp] theorem State.onLoss_latch (s : State) (f : LossState → LossState) : (s.onLoss f).latch = s.latch := rfl
@[simp] theorem State.onLoss_straps (s : State) (f : LossState → LossState) : (s.onLoss f).straps = s.straps := rfl
@[simp] theorem State.onLoss_ports (s : State) (f : LossState → LossState) : (s.onLoss f).ports = s.ports := rfl
@[simp] theorem State.onLoss_fab (s : State) (f : LossState → LossState) : (s.onLoss f).fab = s.fab := rfl
@[simp] theorem State.onLoss_mem (s : State) (f : LossState → LossState) : (s.onLoss f).mem = s.mem := rfl
@[simp] theorem State.onLoss_cores (s : State) (f : LossState → LossState) : (s.onLoss f).cores = s.cores := rfl
@[simp] theorem State.onLoss_vid (s : State) (f : LossState → LossState) : (s.onLoss f).vid = s.vid := rfl
@[simp] theorem State.onLoss_kmp (s : State) (f : LossState → LossState) : (s.onLoss f).kmp = s.kmp := rfl
@[simp] theorem State.onLoss_tim (s : State) (f : LossState → LossState) : (s.onLoss f).tim = s.tim := rfl
@[simp] theorem State.onLoss_plans (s : State) (f : LossState → LossState) : (s.onLoss f).plans = s.plans := rfl
@[simp] theorem State.onLoss_saf (s : State) (f : LossState → LossState) : (s.onLoss f).saf = s.saf := rfl
@[simp] theorem State.onLoss_sec (s : State) (f : LossState → LossState) : (s.onLoss f).sec = s.sec := rfl
@[simp] theorem State.onLoss_cal (s : State) (f : LossState → LossState) : (s.onLoss f).cal = s.cal := rfl
@[simp] theorem State.onLoss_pwr (s : State) (f : LossState → LossState) : (s.onLoss f).pwr = s.pwr := rfl
@[simp] theorem State.onLoss_per (s : State) (f : LossState → LossState) : (s.onLoss f).per = s.per := rfl
@[simp] theorem State.onLoss_con (s : State) (f : LossState → LossState) : (s.onLoss f).con = s.con := rfl
@[simp] theorem State.onLoss_ctl (s : State) (f : LossState → LossState) : (s.onLoss f).ctl = s.ctl := rfl

/-! ### onSaf -/

@[simp] theorem State.onSaf_pending (s : State) (f : SafetyState → SafetyState) : (s.onSaf f).pending = s.pending := rfl
@[simp] theorem State.onSaf_now (s : State) (f : SafetyState → SafetyState) : (s.onSaf f).now = s.now := rfl
@[simp] theorem State.onSaf_free (s : State) (f : SafetyState → SafetyState) : (s.onSaf f).free = s.free := rfl
@[simp] theorem State.onSaf_out (s : State) (f : SafetyState → SafetyState) : (s.onSaf f).out = s.out := rfl
@[simp] theorem State.onSaf_regs (s : State) (f : SafetyState → SafetyState) : (s.onSaf f).regs = s.regs := rfl
@[simp] theorem State.onSaf_written (s : State) (f : SafetyState → SafetyState) : (s.onSaf f).written = s.written := rfl
@[simp] theorem State.onSaf_raised (s : State) (f : SafetyState → SafetyState) : (s.onSaf f).raised = s.raised := rfl
@[simp] theorem State.onSaf_raisedAt (s : State) (f : SafetyState → SafetyState) : (s.onSaf f).raisedAt = s.raisedAt := rfl
@[simp] theorem State.onSaf_latch (s : State) (f : SafetyState → SafetyState) : (s.onSaf f).latch = s.latch := rfl
@[simp] theorem State.onSaf_straps (s : State) (f : SafetyState → SafetyState) : (s.onSaf f).straps = s.straps := rfl
@[simp] theorem State.onSaf_ports (s : State) (f : SafetyState → SafetyState) : (s.onSaf f).ports = s.ports := rfl
@[simp] theorem State.onSaf_fab (s : State) (f : SafetyState → SafetyState) : (s.onSaf f).fab = s.fab := rfl
@[simp] theorem State.onSaf_mem (s : State) (f : SafetyState → SafetyState) : (s.onSaf f).mem = s.mem := rfl
@[simp] theorem State.onSaf_cores (s : State) (f : SafetyState → SafetyState) : (s.onSaf f).cores = s.cores := rfl
@[simp] theorem State.onSaf_vid (s : State) (f : SafetyState → SafetyState) : (s.onSaf f).vid = s.vid := rfl
@[simp] theorem State.onSaf_kmp (s : State) (f : SafetyState → SafetyState) : (s.onSaf f).kmp = s.kmp := rfl
@[simp] theorem State.onSaf_tim (s : State) (f : SafetyState → SafetyState) : (s.onSaf f).tim = s.tim := rfl
@[simp] theorem State.onSaf_plans (s : State) (f : SafetyState → SafetyState) : (s.onSaf f).plans = s.plans := rfl
@[simp] theorem State.onSaf_loss (s : State) (f : SafetyState → SafetyState) : (s.onSaf f).loss = s.loss := rfl
@[simp] theorem State.onSaf_sec (s : State) (f : SafetyState → SafetyState) : (s.onSaf f).sec = s.sec := rfl
@[simp] theorem State.onSaf_cal (s : State) (f : SafetyState → SafetyState) : (s.onSaf f).cal = s.cal := rfl
@[simp] theorem State.onSaf_pwr (s : State) (f : SafetyState → SafetyState) : (s.onSaf f).pwr = s.pwr := rfl
@[simp] theorem State.onSaf_per (s : State) (f : SafetyState → SafetyState) : (s.onSaf f).per = s.per := rfl
@[simp] theorem State.onSaf_con (s : State) (f : SafetyState → SafetyState) : (s.onSaf f).con = s.con := rfl
@[simp] theorem State.onSaf_ctl (s : State) (f : SafetyState → SafetyState) : (s.onSaf f).ctl = s.ctl := rfl

/-! ### onSec -/

@[simp] theorem State.onSec_pending (s : State) (f : SecurityState → SecurityState) : (s.onSec f).pending = s.pending := rfl
@[simp] theorem State.onSec_now (s : State) (f : SecurityState → SecurityState) : (s.onSec f).now = s.now := rfl
@[simp] theorem State.onSec_free (s : State) (f : SecurityState → SecurityState) : (s.onSec f).free = s.free := rfl
@[simp] theorem State.onSec_out (s : State) (f : SecurityState → SecurityState) : (s.onSec f).out = s.out := rfl
@[simp] theorem State.onSec_regs (s : State) (f : SecurityState → SecurityState) : (s.onSec f).regs = s.regs := rfl
@[simp] theorem State.onSec_written (s : State) (f : SecurityState → SecurityState) : (s.onSec f).written = s.written := rfl
@[simp] theorem State.onSec_raised (s : State) (f : SecurityState → SecurityState) : (s.onSec f).raised = s.raised := rfl
@[simp] theorem State.onSec_raisedAt (s : State) (f : SecurityState → SecurityState) : (s.onSec f).raisedAt = s.raisedAt := rfl
@[simp] theorem State.onSec_latch (s : State) (f : SecurityState → SecurityState) : (s.onSec f).latch = s.latch := rfl
@[simp] theorem State.onSec_straps (s : State) (f : SecurityState → SecurityState) : (s.onSec f).straps = s.straps := rfl
@[simp] theorem State.onSec_ports (s : State) (f : SecurityState → SecurityState) : (s.onSec f).ports = s.ports := rfl
@[simp] theorem State.onSec_fab (s : State) (f : SecurityState → SecurityState) : (s.onSec f).fab = s.fab := rfl
@[simp] theorem State.onSec_mem (s : State) (f : SecurityState → SecurityState) : (s.onSec f).mem = s.mem := rfl
@[simp] theorem State.onSec_cores (s : State) (f : SecurityState → SecurityState) : (s.onSec f).cores = s.cores := rfl
@[simp] theorem State.onSec_vid (s : State) (f : SecurityState → SecurityState) : (s.onSec f).vid = s.vid := rfl
@[simp] theorem State.onSec_kmp (s : State) (f : SecurityState → SecurityState) : (s.onSec f).kmp = s.kmp := rfl
@[simp] theorem State.onSec_tim (s : State) (f : SecurityState → SecurityState) : (s.onSec f).tim = s.tim := rfl
@[simp] theorem State.onSec_plans (s : State) (f : SecurityState → SecurityState) : (s.onSec f).plans = s.plans := rfl
@[simp] theorem State.onSec_loss (s : State) (f : SecurityState → SecurityState) : (s.onSec f).loss = s.loss := rfl
@[simp] theorem State.onSec_saf (s : State) (f : SecurityState → SecurityState) : (s.onSec f).saf = s.saf := rfl
@[simp] theorem State.onSec_cal (s : State) (f : SecurityState → SecurityState) : (s.onSec f).cal = s.cal := rfl
@[simp] theorem State.onSec_pwr (s : State) (f : SecurityState → SecurityState) : (s.onSec f).pwr = s.pwr := rfl
@[simp] theorem State.onSec_per (s : State) (f : SecurityState → SecurityState) : (s.onSec f).per = s.per := rfl
@[simp] theorem State.onSec_con (s : State) (f : SecurityState → SecurityState) : (s.onSec f).con = s.con := rfl
@[simp] theorem State.onSec_ctl (s : State) (f : SecurityState → SecurityState) : (s.onSec f).ctl = s.ctl := rfl

/-! ### onCal -/

@[simp] theorem State.onCal_pending (s : State) (f : CalState → CalState) : (s.onCal f).pending = s.pending := rfl
@[simp] theorem State.onCal_now (s : State) (f : CalState → CalState) : (s.onCal f).now = s.now := rfl
@[simp] theorem State.onCal_free (s : State) (f : CalState → CalState) : (s.onCal f).free = s.free := rfl
@[simp] theorem State.onCal_out (s : State) (f : CalState → CalState) : (s.onCal f).out = s.out := rfl
@[simp] theorem State.onCal_regs (s : State) (f : CalState → CalState) : (s.onCal f).regs = s.regs := rfl
@[simp] theorem State.onCal_written (s : State) (f : CalState → CalState) : (s.onCal f).written = s.written := rfl
@[simp] theorem State.onCal_raised (s : State) (f : CalState → CalState) : (s.onCal f).raised = s.raised := rfl
@[simp] theorem State.onCal_raisedAt (s : State) (f : CalState → CalState) : (s.onCal f).raisedAt = s.raisedAt := rfl
@[simp] theorem State.onCal_latch (s : State) (f : CalState → CalState) : (s.onCal f).latch = s.latch := rfl
@[simp] theorem State.onCal_straps (s : State) (f : CalState → CalState) : (s.onCal f).straps = s.straps := rfl
@[simp] theorem State.onCal_ports (s : State) (f : CalState → CalState) : (s.onCal f).ports = s.ports := rfl
@[simp] theorem State.onCal_fab (s : State) (f : CalState → CalState) : (s.onCal f).fab = s.fab := rfl
@[simp] theorem State.onCal_mem (s : State) (f : CalState → CalState) : (s.onCal f).mem = s.mem := rfl
@[simp] theorem State.onCal_cores (s : State) (f : CalState → CalState) : (s.onCal f).cores = s.cores := rfl
@[simp] theorem State.onCal_vid (s : State) (f : CalState → CalState) : (s.onCal f).vid = s.vid := rfl
@[simp] theorem State.onCal_kmp (s : State) (f : CalState → CalState) : (s.onCal f).kmp = s.kmp := rfl
@[simp] theorem State.onCal_tim (s : State) (f : CalState → CalState) : (s.onCal f).tim = s.tim := rfl
@[simp] theorem State.onCal_plans (s : State) (f : CalState → CalState) : (s.onCal f).plans = s.plans := rfl
@[simp] theorem State.onCal_loss (s : State) (f : CalState → CalState) : (s.onCal f).loss = s.loss := rfl
@[simp] theorem State.onCal_saf (s : State) (f : CalState → CalState) : (s.onCal f).saf = s.saf := rfl
@[simp] theorem State.onCal_sec (s : State) (f : CalState → CalState) : (s.onCal f).sec = s.sec := rfl
@[simp] theorem State.onCal_pwr (s : State) (f : CalState → CalState) : (s.onCal f).pwr = s.pwr := rfl
@[simp] theorem State.onCal_per (s : State) (f : CalState → CalState) : (s.onCal f).per = s.per := rfl
@[simp] theorem State.onCal_con (s : State) (f : CalState → CalState) : (s.onCal f).con = s.con := rfl
@[simp] theorem State.onCal_ctl (s : State) (f : CalState → CalState) : (s.onCal f).ctl = s.ctl := rfl

/-! ### onPwr -/

@[simp] theorem State.onPwr_pending (s : State) (f : PowerState → PowerState) : (s.onPwr f).pending = s.pending := rfl
@[simp] theorem State.onPwr_now (s : State) (f : PowerState → PowerState) : (s.onPwr f).now = s.now := rfl
@[simp] theorem State.onPwr_free (s : State) (f : PowerState → PowerState) : (s.onPwr f).free = s.free := rfl
@[simp] theorem State.onPwr_out (s : State) (f : PowerState → PowerState) : (s.onPwr f).out = s.out := rfl
@[simp] theorem State.onPwr_regs (s : State) (f : PowerState → PowerState) : (s.onPwr f).regs = s.regs := rfl
@[simp] theorem State.onPwr_written (s : State) (f : PowerState → PowerState) : (s.onPwr f).written = s.written := rfl
@[simp] theorem State.onPwr_raised (s : State) (f : PowerState → PowerState) : (s.onPwr f).raised = s.raised := rfl
@[simp] theorem State.onPwr_raisedAt (s : State) (f : PowerState → PowerState) : (s.onPwr f).raisedAt = s.raisedAt := rfl
@[simp] theorem State.onPwr_latch (s : State) (f : PowerState → PowerState) : (s.onPwr f).latch = s.latch := rfl
@[simp] theorem State.onPwr_straps (s : State) (f : PowerState → PowerState) : (s.onPwr f).straps = s.straps := rfl
@[simp] theorem State.onPwr_ports (s : State) (f : PowerState → PowerState) : (s.onPwr f).ports = s.ports := rfl
@[simp] theorem State.onPwr_fab (s : State) (f : PowerState → PowerState) : (s.onPwr f).fab = s.fab := rfl
@[simp] theorem State.onPwr_mem (s : State) (f : PowerState → PowerState) : (s.onPwr f).mem = s.mem := rfl
@[simp] theorem State.onPwr_cores (s : State) (f : PowerState → PowerState) : (s.onPwr f).cores = s.cores := rfl
@[simp] theorem State.onPwr_vid (s : State) (f : PowerState → PowerState) : (s.onPwr f).vid = s.vid := rfl
@[simp] theorem State.onPwr_kmp (s : State) (f : PowerState → PowerState) : (s.onPwr f).kmp = s.kmp := rfl
@[simp] theorem State.onPwr_tim (s : State) (f : PowerState → PowerState) : (s.onPwr f).tim = s.tim := rfl
@[simp] theorem State.onPwr_plans (s : State) (f : PowerState → PowerState) : (s.onPwr f).plans = s.plans := rfl
@[simp] theorem State.onPwr_loss (s : State) (f : PowerState → PowerState) : (s.onPwr f).loss = s.loss := rfl
@[simp] theorem State.onPwr_saf (s : State) (f : PowerState → PowerState) : (s.onPwr f).saf = s.saf := rfl
@[simp] theorem State.onPwr_sec (s : State) (f : PowerState → PowerState) : (s.onPwr f).sec = s.sec := rfl
@[simp] theorem State.onPwr_cal (s : State) (f : PowerState → PowerState) : (s.onPwr f).cal = s.cal := rfl
@[simp] theorem State.onPwr_per (s : State) (f : PowerState → PowerState) : (s.onPwr f).per = s.per := rfl
@[simp] theorem State.onPwr_con (s : State) (f : PowerState → PowerState) : (s.onPwr f).con = s.con := rfl
@[simp] theorem State.onPwr_ctl (s : State) (f : PowerState → PowerState) : (s.onPwr f).ctl = s.ctl := rfl

/-! ### onPer -/

@[simp] theorem State.onPer_pending (s : State) (f : PeriState → PeriState) : (s.onPer f).pending = s.pending := rfl
@[simp] theorem State.onPer_now (s : State) (f : PeriState → PeriState) : (s.onPer f).now = s.now := rfl
@[simp] theorem State.onPer_free (s : State) (f : PeriState → PeriState) : (s.onPer f).free = s.free := rfl
@[simp] theorem State.onPer_out (s : State) (f : PeriState → PeriState) : (s.onPer f).out = s.out := rfl
@[simp] theorem State.onPer_regs (s : State) (f : PeriState → PeriState) : (s.onPer f).regs = s.regs := rfl
@[simp] theorem State.onPer_written (s : State) (f : PeriState → PeriState) : (s.onPer f).written = s.written := rfl
@[simp] theorem State.onPer_raised (s : State) (f : PeriState → PeriState) : (s.onPer f).raised = s.raised := rfl
@[simp] theorem State.onPer_raisedAt (s : State) (f : PeriState → PeriState) : (s.onPer f).raisedAt = s.raisedAt := rfl
@[simp] theorem State.onPer_latch (s : State) (f : PeriState → PeriState) : (s.onPer f).latch = s.latch := rfl
@[simp] theorem State.onPer_straps (s : State) (f : PeriState → PeriState) : (s.onPer f).straps = s.straps := rfl
@[simp] theorem State.onPer_ports (s : State) (f : PeriState → PeriState) : (s.onPer f).ports = s.ports := rfl
@[simp] theorem State.onPer_fab (s : State) (f : PeriState → PeriState) : (s.onPer f).fab = s.fab := rfl
@[simp] theorem State.onPer_mem (s : State) (f : PeriState → PeriState) : (s.onPer f).mem = s.mem := rfl
@[simp] theorem State.onPer_cores (s : State) (f : PeriState → PeriState) : (s.onPer f).cores = s.cores := rfl
@[simp] theorem State.onPer_vid (s : State) (f : PeriState → PeriState) : (s.onPer f).vid = s.vid := rfl
@[simp] theorem State.onPer_kmp (s : State) (f : PeriState → PeriState) : (s.onPer f).kmp = s.kmp := rfl
@[simp] theorem State.onPer_tim (s : State) (f : PeriState → PeriState) : (s.onPer f).tim = s.tim := rfl
@[simp] theorem State.onPer_plans (s : State) (f : PeriState → PeriState) : (s.onPer f).plans = s.plans := rfl
@[simp] theorem State.onPer_loss (s : State) (f : PeriState → PeriState) : (s.onPer f).loss = s.loss := rfl
@[simp] theorem State.onPer_saf (s : State) (f : PeriState → PeriState) : (s.onPer f).saf = s.saf := rfl
@[simp] theorem State.onPer_sec (s : State) (f : PeriState → PeriState) : (s.onPer f).sec = s.sec := rfl
@[simp] theorem State.onPer_cal (s : State) (f : PeriState → PeriState) : (s.onPer f).cal = s.cal := rfl
@[simp] theorem State.onPer_pwr (s : State) (f : PeriState → PeriState) : (s.onPer f).pwr = s.pwr := rfl
@[simp] theorem State.onPer_con (s : State) (f : PeriState → PeriState) : (s.onPer f).con = s.con := rfl
@[simp] theorem State.onPer_ctl (s : State) (f : PeriState → PeriState) : (s.onPer f).ctl = s.ctl := rfl

/-! ### onCtl -/

@[simp] theorem State.onCtl_pending (s : State) (f : ControlState → ControlState) : (s.onCtl f).pending = s.pending := rfl
@[simp] theorem State.onCtl_now (s : State) (f : ControlState → ControlState) : (s.onCtl f).now = s.now := rfl
@[simp] theorem State.onCtl_free (s : State) (f : ControlState → ControlState) : (s.onCtl f).free = s.free := rfl
@[simp] theorem State.onCtl_out (s : State) (f : ControlState → ControlState) : (s.onCtl f).out = s.out := rfl
@[simp] theorem State.onCtl_regs (s : State) (f : ControlState → ControlState) : (s.onCtl f).regs = s.regs := rfl
@[simp] theorem State.onCtl_written (s : State) (f : ControlState → ControlState) : (s.onCtl f).written = s.written := rfl
@[simp] theorem State.onCtl_raised (s : State) (f : ControlState → ControlState) : (s.onCtl f).raised = s.raised := rfl
@[simp] theorem State.onCtl_raisedAt (s : State) (f : ControlState → ControlState) : (s.onCtl f).raisedAt = s.raisedAt := rfl
@[simp] theorem State.onCtl_latch (s : State) (f : ControlState → ControlState) : (s.onCtl f).latch = s.latch := rfl
@[simp] theorem State.onCtl_straps (s : State) (f : ControlState → ControlState) : (s.onCtl f).straps = s.straps := rfl
@[simp] theorem State.onCtl_ports (s : State) (f : ControlState → ControlState) : (s.onCtl f).ports = s.ports := rfl
@[simp] theorem State.onCtl_fab (s : State) (f : ControlState → ControlState) : (s.onCtl f).fab = s.fab := rfl
@[simp] theorem State.onCtl_mem (s : State) (f : ControlState → ControlState) : (s.onCtl f).mem = s.mem := rfl
@[simp] theorem State.onCtl_cores (s : State) (f : ControlState → ControlState) : (s.onCtl f).cores = s.cores := rfl
@[simp] theorem State.onCtl_vid (s : State) (f : ControlState → ControlState) : (s.onCtl f).vid = s.vid := rfl
@[simp] theorem State.onCtl_kmp (s : State) (f : ControlState → ControlState) : (s.onCtl f).kmp = s.kmp := rfl
@[simp] theorem State.onCtl_tim (s : State) (f : ControlState → ControlState) : (s.onCtl f).tim = s.tim := rfl
@[simp] theorem State.onCtl_plans (s : State) (f : ControlState → ControlState) : (s.onCtl f).plans = s.plans := rfl
@[simp] theorem State.onCtl_loss (s : State) (f : ControlState → ControlState) : (s.onCtl f).loss = s.loss := rfl
@[simp] theorem State.onCtl_saf (s : State) (f : ControlState → ControlState) : (s.onCtl f).saf = s.saf := rfl
@[simp] theorem State.onCtl_sec (s : State) (f : ControlState → ControlState) : (s.onCtl f).sec = s.sec := rfl
@[simp] theorem State.onCtl_cal (s : State) (f : ControlState → ControlState) : (s.onCtl f).cal = s.cal := rfl
@[simp] theorem State.onCtl_pwr (s : State) (f : ControlState → ControlState) : (s.onCtl f).pwr = s.pwr := rfl
@[simp] theorem State.onCtl_per (s : State) (f : ControlState → ControlState) : (s.onCtl f).per = s.per := rfl
@[simp] theorem State.onCtl_con (s : State) (f : ControlState → ControlState) : (s.onCtl f).con = s.con := rfl

/-! ### setCore -/

@[simp] theorem State.setCore_pending (s : State) (c : Nat) (k : CoreState) : (s.setCore c k).pending = s.pending := rfl
@[simp] theorem State.setCore_now (s : State) (c : Nat) (k : CoreState) : (s.setCore c k).now = s.now := rfl
@[simp] theorem State.setCore_free (s : State) (c : Nat) (k : CoreState) : (s.setCore c k).free = s.free := rfl
@[simp] theorem State.setCore_out (s : State) (c : Nat) (k : CoreState) : (s.setCore c k).out = s.out := rfl
@[simp] theorem State.setCore_regs (s : State) (c : Nat) (k : CoreState) : (s.setCore c k).regs = s.regs := rfl
@[simp] theorem State.setCore_written (s : State) (c : Nat) (k : CoreState) : (s.setCore c k).written = s.written := rfl
@[simp] theorem State.setCore_raised (s : State) (c : Nat) (k : CoreState) : (s.setCore c k).raised = s.raised := rfl
@[simp] theorem State.setCore_raisedAt (s : State) (c : Nat) (k : CoreState) : (s.setCore c k).raisedAt = s.raisedAt := rfl
@[simp] theorem State.setCore_latch (s : State) (c : Nat) (k : CoreState) : (s.setCore c k).latch = s.latch := rfl
@[simp] theorem State.setCore_straps (s : State) (c : Nat) (k : CoreState) : (s.setCore c k).straps = s.straps := rfl
@[simp] theorem State.setCore_ports (s : State) (c : Nat) (k : CoreState) : (s.setCore c k).ports = s.ports := rfl
@[simp] theorem State.setCore_fab (s : State) (c : Nat) (k : CoreState) : (s.setCore c k).fab = s.fab := rfl
@[simp] theorem State.setCore_mem (s : State) (c : Nat) (k : CoreState) : (s.setCore c k).mem = s.mem := rfl
@[simp] theorem State.setCore_vid (s : State) (c : Nat) (k : CoreState) : (s.setCore c k).vid = s.vid := rfl
@[simp] theorem State.setCore_kmp (s : State) (c : Nat) (k : CoreState) : (s.setCore c k).kmp = s.kmp := rfl
@[simp] theorem State.setCore_tim (s : State) (c : Nat) (k : CoreState) : (s.setCore c k).tim = s.tim := rfl
@[simp] theorem State.setCore_plans (s : State) (c : Nat) (k : CoreState) : (s.setCore c k).plans = s.plans := rfl
@[simp] theorem State.setCore_loss (s : State) (c : Nat) (k : CoreState) : (s.setCore c k).loss = s.loss := rfl
@[simp] theorem State.setCore_saf (s : State) (c : Nat) (k : CoreState) : (s.setCore c k).saf = s.saf := rfl
@[simp] theorem State.setCore_sec (s : State) (c : Nat) (k : CoreState) : (s.setCore c k).sec = s.sec := rfl
@[simp] theorem State.setCore_cal (s : State) (c : Nat) (k : CoreState) : (s.setCore c k).cal = s.cal := rfl
@[simp] theorem State.setCore_pwr (s : State) (c : Nat) (k : CoreState) : (s.setCore c k).pwr = s.pwr := rfl
@[simp] theorem State.setCore_per (s : State) (c : Nat) (k : CoreState) : (s.setCore c k).per = s.per := rfl
@[simp] theorem State.setCore_con (s : State) (c : Nat) (k : CoreState) : (s.setCore c k).con = s.con := rfl
@[simp] theorem State.setCore_ctl (s : State) (c : Nat) (k : CoreState) : (s.setCore c k).ctl = s.ctl := rfl

/-! ### onCore -/

@[simp] theorem State.onCore_pending (s : State) (c : Nat) (f : CoreState → CoreState) : (s.onCore c f).pending = s.pending := rfl
@[simp] theorem State.onCore_now (s : State) (c : Nat) (f : CoreState → CoreState) : (s.onCore c f).now = s.now := rfl
@[simp] theorem State.onCore_free (s : State) (c : Nat) (f : CoreState → CoreState) : (s.onCore c f).free = s.free := rfl
@[simp] theorem State.onCore_out (s : State) (c : Nat) (f : CoreState → CoreState) : (s.onCore c f).out = s.out := rfl
@[simp] theorem State.onCore_regs (s : State) (c : Nat) (f : CoreState → CoreState) : (s.onCore c f).regs = s.regs := rfl
@[simp] theorem State.onCore_written (s : State) (c : Nat) (f : CoreState → CoreState) : (s.onCore c f).written = s.written := rfl
@[simp] theorem State.onCore_raised (s : State) (c : Nat) (f : CoreState → CoreState) : (s.onCore c f).raised = s.raised := rfl
@[simp] theorem State.onCore_raisedAt (s : State) (c : Nat) (f : CoreState → CoreState) : (s.onCore c f).raisedAt = s.raisedAt := rfl
@[simp] theorem State.onCore_latch (s : State) (c : Nat) (f : CoreState → CoreState) : (s.onCore c f).latch = s.latch := rfl
@[simp] theorem State.onCore_straps (s : State) (c : Nat) (f : CoreState → CoreState) : (s.onCore c f).straps = s.straps := rfl
@[simp] theorem State.onCore_ports (s : State) (c : Nat) (f : CoreState → CoreState) : (s.onCore c f).ports = s.ports := rfl
@[simp] theorem State.onCore_fab (s : State) (c : Nat) (f : CoreState → CoreState) : (s.onCore c f).fab = s.fab := rfl
@[simp] theorem State.onCore_mem (s : State) (c : Nat) (f : CoreState → CoreState) : (s.onCore c f).mem = s.mem := rfl
@[simp] theorem State.onCore_vid (s : State) (c : Nat) (f : CoreState → CoreState) : (s.onCore c f).vid = s.vid := rfl
@[simp] theorem State.onCore_kmp (s : State) (c : Nat) (f : CoreState → CoreState) : (s.onCore c f).kmp = s.kmp := rfl
@[simp] theorem State.onCore_tim (s : State) (c : Nat) (f : CoreState → CoreState) : (s.onCore c f).tim = s.tim := rfl
@[simp] theorem State.onCore_plans (s : State) (c : Nat) (f : CoreState → CoreState) : (s.onCore c f).plans = s.plans := rfl
@[simp] theorem State.onCore_loss (s : State) (c : Nat) (f : CoreState → CoreState) : (s.onCore c f).loss = s.loss := rfl
@[simp] theorem State.onCore_saf (s : State) (c : Nat) (f : CoreState → CoreState) : (s.onCore c f).saf = s.saf := rfl
@[simp] theorem State.onCore_sec (s : State) (c : Nat) (f : CoreState → CoreState) : (s.onCore c f).sec = s.sec := rfl
@[simp] theorem State.onCore_cal (s : State) (c : Nat) (f : CoreState → CoreState) : (s.onCore c f).cal = s.cal := rfl
@[simp] theorem State.onCore_pwr (s : State) (c : Nat) (f : CoreState → CoreState) : (s.onCore c f).pwr = s.pwr := rfl
@[simp] theorem State.onCore_per (s : State) (c : Nat) (f : CoreState → CoreState) : (s.onCore c f).per = s.per := rfl
@[simp] theorem State.onCore_con (s : State) (c : Nat) (f : CoreState → CoreState) : (s.onCore c f).con = s.con := rfl
@[simp] theorem State.onCore_ctl (s : State) (c : Nat) (f : CoreState → CoreState) : (s.onCore c f).ctl = s.ctl := rfl

/-! ### setPlan -/

@[simp] theorem State.setPlan_pending (s : State) (p : Nat) (e : PlanEpoch) : (s.setPlan p e).pending = s.pending := rfl
@[simp] theorem State.setPlan_now (s : State) (p : Nat) (e : PlanEpoch) : (s.setPlan p e).now = s.now := rfl
@[simp] theorem State.setPlan_free (s : State) (p : Nat) (e : PlanEpoch) : (s.setPlan p e).free = s.free := rfl
@[simp] theorem State.setPlan_out (s : State) (p : Nat) (e : PlanEpoch) : (s.setPlan p e).out = s.out := rfl
@[simp] theorem State.setPlan_regs (s : State) (p : Nat) (e : PlanEpoch) : (s.setPlan p e).regs = s.regs := rfl
@[simp] theorem State.setPlan_written (s : State) (p : Nat) (e : PlanEpoch) : (s.setPlan p e).written = s.written := rfl
@[simp] theorem State.setPlan_raised (s : State) (p : Nat) (e : PlanEpoch) : (s.setPlan p e).raised = s.raised := rfl
@[simp] theorem State.setPlan_raisedAt (s : State) (p : Nat) (e : PlanEpoch) : (s.setPlan p e).raisedAt = s.raisedAt := rfl
@[simp] theorem State.setPlan_latch (s : State) (p : Nat) (e : PlanEpoch) : (s.setPlan p e).latch = s.latch := rfl
@[simp] theorem State.setPlan_straps (s : State) (p : Nat) (e : PlanEpoch) : (s.setPlan p e).straps = s.straps := rfl
@[simp] theorem State.setPlan_ports (s : State) (p : Nat) (e : PlanEpoch) : (s.setPlan p e).ports = s.ports := rfl
@[simp] theorem State.setPlan_fab (s : State) (p : Nat) (e : PlanEpoch) : (s.setPlan p e).fab = s.fab := rfl
@[simp] theorem State.setPlan_mem (s : State) (p : Nat) (e : PlanEpoch) : (s.setPlan p e).mem = s.mem := rfl
@[simp] theorem State.setPlan_cores (s : State) (p : Nat) (e : PlanEpoch) : (s.setPlan p e).cores = s.cores := rfl
@[simp] theorem State.setPlan_vid (s : State) (p : Nat) (e : PlanEpoch) : (s.setPlan p e).vid = s.vid := rfl
@[simp] theorem State.setPlan_kmp (s : State) (p : Nat) (e : PlanEpoch) : (s.setPlan p e).kmp = s.kmp := rfl
@[simp] theorem State.setPlan_tim (s : State) (p : Nat) (e : PlanEpoch) : (s.setPlan p e).tim = s.tim := rfl
@[simp] theorem State.setPlan_loss (s : State) (p : Nat) (e : PlanEpoch) : (s.setPlan p e).loss = s.loss := rfl
@[simp] theorem State.setPlan_saf (s : State) (p : Nat) (e : PlanEpoch) : (s.setPlan p e).saf = s.saf := rfl
@[simp] theorem State.setPlan_sec (s : State) (p : Nat) (e : PlanEpoch) : (s.setPlan p e).sec = s.sec := rfl
@[simp] theorem State.setPlan_cal (s : State) (p : Nat) (e : PlanEpoch) : (s.setPlan p e).cal = s.cal := rfl
@[simp] theorem State.setPlan_pwr (s : State) (p : Nat) (e : PlanEpoch) : (s.setPlan p e).pwr = s.pwr := rfl
@[simp] theorem State.setPlan_per (s : State) (p : Nat) (e : PlanEpoch) : (s.setPlan p e).per = s.per := rfl
@[simp] theorem State.setPlan_con (s : State) (p : Nat) (e : PlanEpoch) : (s.setPlan p e).con = s.con := rfl
@[simp] theorem State.setPlan_ctl (s : State) (p : Nat) (e : PlanEpoch) : (s.setPlan p e).ctl = s.ctl := rfl

/-! ### setCam -/

@[simp] theorem State.setCam_pending (s : State) (p : Nat) (c : CamPipe) : (s.setCam p c).pending = s.pending := rfl
@[simp] theorem State.setCam_now (s : State) (p : Nat) (c : CamPipe) : (s.setCam p c).now = s.now := rfl
@[simp] theorem State.setCam_free (s : State) (p : Nat) (c : CamPipe) : (s.setCam p c).free = s.free := rfl
@[simp] theorem State.setCam_out (s : State) (p : Nat) (c : CamPipe) : (s.setCam p c).out = s.out := rfl
@[simp] theorem State.setCam_regs (s : State) (p : Nat) (c : CamPipe) : (s.setCam p c).regs = s.regs := rfl
@[simp] theorem State.setCam_written (s : State) (p : Nat) (c : CamPipe) : (s.setCam p c).written = s.written := rfl
@[simp] theorem State.setCam_raised (s : State) (p : Nat) (c : CamPipe) : (s.setCam p c).raised = s.raised := rfl
@[simp] theorem State.setCam_raisedAt (s : State) (p : Nat) (c : CamPipe) : (s.setCam p c).raisedAt = s.raisedAt := rfl
@[simp] theorem State.setCam_latch (s : State) (p : Nat) (c : CamPipe) : (s.setCam p c).latch = s.latch := rfl
@[simp] theorem State.setCam_straps (s : State) (p : Nat) (c : CamPipe) : (s.setCam p c).straps = s.straps := rfl
@[simp] theorem State.setCam_ports (s : State) (p : Nat) (c : CamPipe) : (s.setCam p c).ports = s.ports := rfl
@[simp] theorem State.setCam_fab (s : State) (p : Nat) (c : CamPipe) : (s.setCam p c).fab = s.fab := rfl
@[simp] theorem State.setCam_mem (s : State) (p : Nat) (c : CamPipe) : (s.setCam p c).mem = s.mem := rfl
@[simp] theorem State.setCam_cores (s : State) (p : Nat) (c : CamPipe) : (s.setCam p c).cores = s.cores := rfl
@[simp] theorem State.setCam_kmp (s : State) (p : Nat) (c : CamPipe) : (s.setCam p c).kmp = s.kmp := rfl
@[simp] theorem State.setCam_tim (s : State) (p : Nat) (c : CamPipe) : (s.setCam p c).tim = s.tim := rfl
@[simp] theorem State.setCam_plans (s : State) (p : Nat) (c : CamPipe) : (s.setCam p c).plans = s.plans := rfl
@[simp] theorem State.setCam_loss (s : State) (p : Nat) (c : CamPipe) : (s.setCam p c).loss = s.loss := rfl
@[simp] theorem State.setCam_saf (s : State) (p : Nat) (c : CamPipe) : (s.setCam p c).saf = s.saf := rfl
@[simp] theorem State.setCam_sec (s : State) (p : Nat) (c : CamPipe) : (s.setCam p c).sec = s.sec := rfl
@[simp] theorem State.setCam_cal (s : State) (p : Nat) (c : CamPipe) : (s.setCam p c).cal = s.cal := rfl
@[simp] theorem State.setCam_pwr (s : State) (p : Nat) (c : CamPipe) : (s.setCam p c).pwr = s.pwr := rfl
@[simp] theorem State.setCam_per (s : State) (p : Nat) (c : CamPipe) : (s.setCam p c).per = s.per := rfl
@[simp] theorem State.setCam_con (s : State) (p : Nat) (c : CamPipe) : (s.setCam p c).con = s.con := rfl
@[simp] theorem State.setCam_ctl (s : State) (p : Nat) (c : CamPipe) : (s.setCam p c).ctl = s.ctl := rfl

/-! ### setFeed -/

@[simp] theorem State.setFeed_pending (s : State) (f : Nat) (x : FeedRun) : (s.setFeed f x).pending = s.pending := rfl
@[simp] theorem State.setFeed_now (s : State) (f : Nat) (x : FeedRun) : (s.setFeed f x).now = s.now := rfl
@[simp] theorem State.setFeed_free (s : State) (f : Nat) (x : FeedRun) : (s.setFeed f x).free = s.free := rfl
@[simp] theorem State.setFeed_out (s : State) (f : Nat) (x : FeedRun) : (s.setFeed f x).out = s.out := rfl
@[simp] theorem State.setFeed_regs (s : State) (f : Nat) (x : FeedRun) : (s.setFeed f x).regs = s.regs := rfl
@[simp] theorem State.setFeed_written (s : State) (f : Nat) (x : FeedRun) : (s.setFeed f x).written = s.written := rfl
@[simp] theorem State.setFeed_raised (s : State) (f : Nat) (x : FeedRun) : (s.setFeed f x).raised = s.raised := rfl
@[simp] theorem State.setFeed_raisedAt (s : State) (f : Nat) (x : FeedRun) : (s.setFeed f x).raisedAt = s.raisedAt := rfl
@[simp] theorem State.setFeed_latch (s : State) (f : Nat) (x : FeedRun) : (s.setFeed f x).latch = s.latch := rfl
@[simp] theorem State.setFeed_straps (s : State) (f : Nat) (x : FeedRun) : (s.setFeed f x).straps = s.straps := rfl
@[simp] theorem State.setFeed_ports (s : State) (f : Nat) (x : FeedRun) : (s.setFeed f x).ports = s.ports := rfl
@[simp] theorem State.setFeed_fab (s : State) (f : Nat) (x : FeedRun) : (s.setFeed f x).fab = s.fab := rfl
@[simp] theorem State.setFeed_mem (s : State) (f : Nat) (x : FeedRun) : (s.setFeed f x).mem = s.mem := rfl
@[simp] theorem State.setFeed_cores (s : State) (f : Nat) (x : FeedRun) : (s.setFeed f x).cores = s.cores := rfl
@[simp] theorem State.setFeed_kmp (s : State) (f : Nat) (x : FeedRun) : (s.setFeed f x).kmp = s.kmp := rfl
@[simp] theorem State.setFeed_tim (s : State) (f : Nat) (x : FeedRun) : (s.setFeed f x).tim = s.tim := rfl
@[simp] theorem State.setFeed_plans (s : State) (f : Nat) (x : FeedRun) : (s.setFeed f x).plans = s.plans := rfl
@[simp] theorem State.setFeed_loss (s : State) (f : Nat) (x : FeedRun) : (s.setFeed f x).loss = s.loss := rfl
@[simp] theorem State.setFeed_saf (s : State) (f : Nat) (x : FeedRun) : (s.setFeed f x).saf = s.saf := rfl
@[simp] theorem State.setFeed_sec (s : State) (f : Nat) (x : FeedRun) : (s.setFeed f x).sec = s.sec := rfl
@[simp] theorem State.setFeed_cal (s : State) (f : Nat) (x : FeedRun) : (s.setFeed f x).cal = s.cal := rfl
@[simp] theorem State.setFeed_pwr (s : State) (f : Nat) (x : FeedRun) : (s.setFeed f x).pwr = s.pwr := rfl
@[simp] theorem State.setFeed_per (s : State) (f : Nat) (x : FeedRun) : (s.setFeed f x).per = s.per := rfl
@[simp] theorem State.setFeed_con (s : State) (f : Nat) (x : FeedRun) : (s.setFeed f x).con = s.con := rfl
@[simp] theorem State.setFeed_ctl (s : State) (f : Nat) (x : FeedRun) : (s.setFeed f x).ctl = s.ctl := rfl

/-! ### setDest -/

@[simp] theorem State.setDest_pending (s : State) (w : Nat) (d : RingDest) : (s.setDest w d).pending = s.pending := rfl
@[simp] theorem State.setDest_now (s : State) (w : Nat) (d : RingDest) : (s.setDest w d).now = s.now := rfl
@[simp] theorem State.setDest_free (s : State) (w : Nat) (d : RingDest) : (s.setDest w d).free = s.free := rfl
@[simp] theorem State.setDest_out (s : State) (w : Nat) (d : RingDest) : (s.setDest w d).out = s.out := rfl
@[simp] theorem State.setDest_regs (s : State) (w : Nat) (d : RingDest) : (s.setDest w d).regs = s.regs := rfl
@[simp] theorem State.setDest_written (s : State) (w : Nat) (d : RingDest) : (s.setDest w d).written = s.written := rfl
@[simp] theorem State.setDest_raised (s : State) (w : Nat) (d : RingDest) : (s.setDest w d).raised = s.raised := rfl
@[simp] theorem State.setDest_raisedAt (s : State) (w : Nat) (d : RingDest) : (s.setDest w d).raisedAt = s.raisedAt := rfl
@[simp] theorem State.setDest_latch (s : State) (w : Nat) (d : RingDest) : (s.setDest w d).latch = s.latch := rfl
@[simp] theorem State.setDest_straps (s : State) (w : Nat) (d : RingDest) : (s.setDest w d).straps = s.straps := rfl
@[simp] theorem State.setDest_ports (s : State) (w : Nat) (d : RingDest) : (s.setDest w d).ports = s.ports := rfl
@[simp] theorem State.setDest_fab (s : State) (w : Nat) (d : RingDest) : (s.setDest w d).fab = s.fab := rfl
@[simp] theorem State.setDest_mem (s : State) (w : Nat) (d : RingDest) : (s.setDest w d).mem = s.mem := rfl
@[simp] theorem State.setDest_cores (s : State) (w : Nat) (d : RingDest) : (s.setDest w d).cores = s.cores := rfl
@[simp] theorem State.setDest_kmp (s : State) (w : Nat) (d : RingDest) : (s.setDest w d).kmp = s.kmp := rfl
@[simp] theorem State.setDest_tim (s : State) (w : Nat) (d : RingDest) : (s.setDest w d).tim = s.tim := rfl
@[simp] theorem State.setDest_plans (s : State) (w : Nat) (d : RingDest) : (s.setDest w d).plans = s.plans := rfl
@[simp] theorem State.setDest_loss (s : State) (w : Nat) (d : RingDest) : (s.setDest w d).loss = s.loss := rfl
@[simp] theorem State.setDest_saf (s : State) (w : Nat) (d : RingDest) : (s.setDest w d).saf = s.saf := rfl
@[simp] theorem State.setDest_sec (s : State) (w : Nat) (d : RingDest) : (s.setDest w d).sec = s.sec := rfl
@[simp] theorem State.setDest_cal (s : State) (w : Nat) (d : RingDest) : (s.setDest w d).cal = s.cal := rfl
@[simp] theorem State.setDest_pwr (s : State) (w : Nat) (d : RingDest) : (s.setDest w d).pwr = s.pwr := rfl
@[simp] theorem State.setDest_per (s : State) (w : Nat) (d : RingDest) : (s.setDest w d).per = s.per := rfl
@[simp] theorem State.setDest_con (s : State) (w : Nat) (d : RingDest) : (s.setDest w d).con = s.con := rfl
@[simp] theorem State.setDest_ctl (s : State) (w : Nat) (d : RingDest) : (s.setDest w d).ctl = s.ctl := rfl

/-! ### What an update writes -/

@[simp] theorem State.onFab_fab (s : State) (f : Fabric → Fabric) : (s.onFab f).fab = f s.fab := rfl
@[simp] theorem State.onTim_tim (s : State) (f : TimeState → TimeState) : (s.onTim f).tim = f s.tim := rfl
@[simp] theorem State.onLoss_loss (s : State) (f : LossState → LossState) : (s.onLoss f).loss = f s.loss := rfl
@[simp] theorem State.onSaf_saf (s : State) (f : SafetyState → SafetyState) : (s.onSaf f).saf = f s.saf := rfl
@[simp] theorem State.onSec_sec (s : State) (f : SecurityState → SecurityState) : (s.onSec f).sec = f s.sec := rfl
@[simp] theorem State.onCal_cal (s : State) (f : CalState → CalState) : (s.onCal f).cal = f s.cal := rfl
@[simp] theorem State.onPwr_pwr (s : State) (f : PowerState → PowerState) : (s.onPwr f).pwr = f s.pwr := rfl
@[simp] theorem State.onPer_per (s : State) (f : PeriState → PeriState) : (s.onPer f).per = f s.per := rfl
@[simp] theorem State.onCtl_ctl (s : State) (f : ControlState → ControlState) : (s.onCtl f).ctl = f s.ctl := rfl
@[simp] theorem State.emit_out (s : State) (e : Emit) : (s.emit e).out = e :: s.out := rfl

@[simp] theorem State.port_setPort_self (s : State) (p : Nat) (q : Port) : (s.setPort p q).port p = q := by
  simp [State.port, State.setPort]

theorem State.port_setPort_ne (s : State) {p r : Nat} (q : Port) (h : p ≠ r) : (s.setPort p q).port r = s.port r := by
  simp [State.port, State.setPort, tblGet_tblSet_ne _ _ q h]

@[simp] theorem State.core_setCore_self (s : State) (c : Nat) (k : CoreState) : (s.setCore c k).core c = k := by
  simp [State.core, State.setCore]

theorem State.core_setCore_ne (s : State) {c e : Nat} (k : CoreState) (h : c ≠ e) : (s.setCore c k).core e = s.core e := by
  simp [State.core, State.setCore, tblGet_tblSet_ne _ _ k h]

@[simp] theorem State.plan_setPlan_self (s : State) (p : Nat) (e : PlanEpoch) : (s.setPlan p e).plan p = e := by
  simp [State.plan, State.setPlan]

/-! ### Registers after an update that writes none -/

@[simp] theorem State.emit_reg (s : State) (e : Emit) (y : Nat) : (s.emit e).reg y = s.reg y := rfl
@[simp] theorem State.emit_get (s : State) (e : Emit) (y : Fld) : (s.emit e).get y = s.get y := rfl
@[simp] theorem State.setPort_reg (s : State) (p : Nat) (q : Port) (y : Nat) : (s.setPort p q).reg y = s.reg y := rfl
@[simp] theorem State.setPort_get (s : State) (p : Nat) (q : Port) (y : Fld) : (s.setPort p q).get y = s.get y := rfl
@[simp] theorem State.onPort_reg (s : State) (p : Nat) (f : Port → Port) (y : Nat) : (s.onPort p f).reg y = s.reg y := rfl
@[simp] theorem State.onPort_get (s : State) (p : Nat) (f : Port → Port) (y : Fld) : (s.onPort p f).get y = s.get y := rfl
@[simp] theorem State.onFab_reg (s : State) (f : Fabric → Fabric) (y : Nat) : (s.onFab f).reg y = s.reg y := rfl
@[simp] theorem State.onFab_get (s : State) (f : Fabric → Fabric) (y : Fld) : (s.onFab f).get y = s.get y := rfl
@[simp] theorem State.onTim_reg (s : State) (f : TimeState → TimeState) (y : Nat) : (s.onTim f).reg y = s.reg y := rfl
@[simp] theorem State.onTim_get (s : State) (f : TimeState → TimeState) (y : Fld) : (s.onTim f).get y = s.get y := rfl
@[simp] theorem State.onLoss_reg (s : State) (f : LossState → LossState) (y : Nat) : (s.onLoss f).reg y = s.reg y := rfl
@[simp] theorem State.onLoss_get (s : State) (f : LossState → LossState) (y : Fld) : (s.onLoss f).get y = s.get y := rfl
@[simp] theorem State.onSaf_reg (s : State) (f : SafetyState → SafetyState) (y : Nat) : (s.onSaf f).reg y = s.reg y := rfl
@[simp] theorem State.onSaf_get (s : State) (f : SafetyState → SafetyState) (y : Fld) : (s.onSaf f).get y = s.get y := rfl
@[simp] theorem State.onSec_reg (s : State) (f : SecurityState → SecurityState) (y : Nat) : (s.onSec f).reg y = s.reg y := rfl
@[simp] theorem State.onSec_get (s : State) (f : SecurityState → SecurityState) (y : Fld) : (s.onSec f).get y = s.get y := rfl
@[simp] theorem State.onCal_reg (s : State) (f : CalState → CalState) (y : Nat) : (s.onCal f).reg y = s.reg y := rfl
@[simp] theorem State.onCal_get (s : State) (f : CalState → CalState) (y : Fld) : (s.onCal f).get y = s.get y := rfl
@[simp] theorem State.onPwr_reg (s : State) (f : PowerState → PowerState) (y : Nat) : (s.onPwr f).reg y = s.reg y := rfl
@[simp] theorem State.onPwr_get (s : State) (f : PowerState → PowerState) (y : Fld) : (s.onPwr f).get y = s.get y := rfl
@[simp] theorem State.onPer_reg (s : State) (f : PeriState → PeriState) (y : Nat) : (s.onPer f).reg y = s.reg y := rfl
@[simp] theorem State.onPer_get (s : State) (f : PeriState → PeriState) (y : Fld) : (s.onPer f).get y = s.get y := rfl
@[simp] theorem State.onCtl_reg (s : State) (f : ControlState → ControlState) (y : Nat) : (s.onCtl f).reg y = s.reg y := rfl
@[simp] theorem State.onCtl_get (s : State) (f : ControlState → ControlState) (y : Fld) : (s.onCtl f).get y = s.get y := rfl
@[simp] theorem State.setCore_reg (s : State) (c : Nat) (k : CoreState) (y : Nat) : (s.setCore c k).reg y = s.reg y := rfl
@[simp] theorem State.setCore_get (s : State) (c : Nat) (k : CoreState) (y : Fld) : (s.setCore c k).get y = s.get y := rfl
@[simp] theorem State.onCore_reg (s : State) (c : Nat) (f : CoreState → CoreState) (y : Nat) : (s.onCore c f).reg y = s.reg y := rfl
@[simp] theorem State.onCore_get (s : State) (c : Nat) (f : CoreState → CoreState) (y : Fld) : (s.onCore c f).get y = s.get y := rfl
@[simp] theorem State.setPlan_reg (s : State) (p : Nat) (e : PlanEpoch) (y : Nat) : (s.setPlan p e).reg y = s.reg y := rfl
@[simp] theorem State.setPlan_get (s : State) (p : Nat) (e : PlanEpoch) (y : Fld) : (s.setPlan p e).get y = s.get y := rfl
@[simp] theorem State.setCam_reg (s : State) (p : Nat) (c : CamPipe) (y : Nat) : (s.setCam p c).reg y = s.reg y := rfl
@[simp] theorem State.setCam_get (s : State) (p : Nat) (c : CamPipe) (y : Fld) : (s.setCam p c).get y = s.get y := rfl
@[simp] theorem State.setFeed_reg (s : State) (f : Nat) (x : FeedRun) (y : Nat) : (s.setFeed f x).reg y = s.reg y := rfl
@[simp] theorem State.setFeed_get (s : State) (f : Nat) (x : FeedRun) (y : Fld) : (s.setFeed f x).get y = s.get y := rfl
@[simp] theorem State.setDest_reg (s : State) (w : Nat) (d : RingDest) (y : Nat) : (s.setDest w d).reg y = s.reg y := rfl
@[simp] theorem State.setDest_get (s : State) (w : Nat) (d : RingDest) (y : Fld) : (s.setDest w d).get y = s.get y := rfl

/-! ### When a command acts -/

/-- Outside a chip reset a command acts (R720). -/
theorem State.run_running (s : State) (f : State → Out) (h : s.pwr.inReset = none) : s.run f = f s := by
  simp [State.run, h]

/-- During a chip reset a command is lost (R720). -/
theorem State.run_inReset (s : State) (f : State → Out) {k : Nat} (h : s.pwr.inReset = some k) : s.run f = .next s := by
  simp [State.run, h]

/-- While the safety core pair runs its commands act (R472, R475). -/
theorem State.runPair_runs (s : State) (f : State → Out) (h : s.pwr.inReset = none) (hs : s.pairOn = true) :
    s.runPair f = f s := by
  simp [State.runPair, State.run, h, hs]

/-- A pair that is stopped or in reset does nothing (R472, R475). -/
theorem State.runPair_off (s : State) (f : State → Out) (hs : s.pairOn = false) : s.runPair f = .next s := by
  simp [State.runPair, State.run, hs]

/-- A write to a gated block changes nothing (R121, R720). -/
theorem State.runGate_closed (s : State) (g : Nat) (f : State → Out) (h : bit (s.reg 0x23000008).toNat g = false) :
    s.runGate g f = .next s := by
  simp [State.runGate, State.run, h]

end Sys2Proof.Machine
end

