-- ==== Sys2Proof/Laws/Router.lean ====
section
/-! SUPPORT. Router: which registers the shared operations of the router write, and what they keep. -/

namespace Sys2Proof.Machine

/-- A fold of steps that each keep a reading keeps it. -/
theorem foldl_keeps {α β γ : Type} (f : α → β → α) (g : α → γ) (h : ∀ a b, g (f a b) = g a) (l : List β) (a : α) :
    g (l.foldl f a) = g a := by
  induction l generalizing a with
  | nil => rfl
  | cons b l ih => rw [List.foldl_cons, ih, h]

/-- A fold of steps that each keep a property keeps it. -/
theorem foldl_inv {α β : Type} (f : α → β → α) (P : α → Prop) (h : ∀ a b, P a → P (f a b)) (l : List β) (a : α) (ha : P a) :
    P (l.foldl f a) := by
  induction l generalizing a with
  | nil => exact ha
  | cons b l ih => exact ih _ (h a b ha)

@[simp] theorem State.reg_handOver (s : State) (pk : Packet) (a : Nat) : (s.handOver pk).reg a = s.reg a := rfl

@[simp] theorem State.reg_line (s : State) (pk : Packet) (i v o e a : Nat) : (s.line pk i v o e).reg a = s.reg a := rfl

@[simp] theorem State.reg_reline (s : State) (w : Waiting) (o a : Nat) : (s.reline w o).reg a = s.reg a := rfl

@[simp] theorem State.reg_beacon (s : State) (d : Option Nat) (bs : List Byte) (a : Nat) : (s.beacon d bs).reg a = s.reg a := rfl

@[simp] theorem State.reg_broadcast (s : State) (bs : List Byte) (a : Nat) : (s.broadcast bs).reg a = s.reg a := rfl

@[simp] theorem State.reg_toPole (s : State) (bs : List Byte) (a : Nat) : (s.toPole bs).reg a = s.reg a := by
  unfold State.toPole
  split
  · rfl
  · split <;> rfl

@[simp] theorem State.reg_linkReport (s : State) (p c a : Nat) : (s.linkReport p c).reg a = s.reg a := s.reg_toPole _ a

/-- Sending a packet of this chip counts at most in `FAB_DISC_UNREACH_CNT` and `FAB_EVT`. -/
theorem State.reg_sendFrom (s : State) (pk : Packet) {a : Nat} (h1 : 0x21008040 ≠ a) (h2 : aFabEvt ≠ a) :
    (s.sendFrom pk).reg a = s.reg a := by
  unfold State.sendFrom
  dsimp only
  split
  · rfl
  · generalize s.lookup _ = o
    cases o with
    | some out => rfl
    | none =>
      dsimp only
      split
      · rw [State.reg_handOver, State.reg_event_ne _ _ h2, State.reg_bump_ne _ h1]
      · rw [State.reg_event_ne _ _ h2, State.reg_bump_ne _ h1]

theorem State.reg_unreachable (s : State) (pk : Packet) {a : Nat} (h1 : 0x21008040 ≠ a) (h2 : aFabEvt ≠ a) :
    (s.unreachable pk).reg a = s.reg a := by
  unfold State.unreachable
  dsimp only
  split
  · rw [State.reg_sendFrom _ _ h1 h2, State.reg_event_ne _ _ h2, State.reg_bump_ne _ h1]
  · rw [State.reg_event_ne _ _ h2, State.reg_bump_ne _ h1]

@[simp] theorem State.reg_freeFlits (s : State) (p v n a : Nat) : (s.freeFlits p v n).reg a = s.reg a := by
  unfold State.freeFlits
  split <;> rfl

@[simp] theorem State.reg_leftFlits (s : State) (w : Waiting) (n a : Nat) : (s.leftFlits w n).reg a = s.reg a := by
  unfold State.leftFlits
  split
  · rfl
  · exact s.reg_freeFlits _ _ _ _

@[simp] theorem State.reg_leftBuffer (s : State) (w : Waiting) (a : Nat) : (s.leftBuffer w).reg a = s.reg a := s.reg_leftFlits w _ a

theorem State.reg_portLost (s : State) (p : Nat) (w : Waiting) {a : Nat} (h1 : 0x21008040 ≠ a) (h2 : aFabEvt ≠ a) :
    (s.portLost p w).reg a = s.reg a := by
  unfold State.portLost
  dsimp only
  generalize hu : ({ s with fab := { s.fab with waiting := s.fab.waiting.erase w } } : State) = u
  have hr : u.reg a = s.reg a := hu ▸ rfl
  split
  · rw [State.reg_leftBuffer, hr]
  · generalize (if w.pk.bcast = true then none else u.otherPort w.entry p) = o
    cases o with
    | some out => exact (u.reg_reline w out a).trans hr
    | none => exact ((u.leftBuffer w).reg_unreachable w.pk h1 h2).trans ((u.reg_leftBuffer w a).trans hr)

theorem State.reg_sendingLost (s : State) (p : Nat) (x : Sending) {a : Nat} (h1 : 0x21008040 ≠ a) (h2 : aFabEvt ≠ a) :
    (s.sendingLost p x).reg a = s.reg a := by
  unfold State.sendingLost
  split
  · rfl
  · split
    · exact s.reg_portLost p x.w h1 h2
    · exact ((s.leftFlits x.w x.flits.length).reg_unreachable x.w.pk h1 h2).trans (s.reg_leftFlits x.w _ a)

@[simp] theorem State.reg_inputLost (s : State) (p a : Nat) : (s.inputLost p).reg a = s.reg a := by
  unfold State.inputLost
  dsimp only
  rw [foldl_keeps _ (fun s : State => s.reg a)]
  · rfl
  · intro s o; rfl

theorem State.reg_showPool (s : State) {a : Nat} (h : 0x21008068 ≠ a) : s.showPool.reg a = s.reg a := by
  unfold State.showPool
  dsimp only
  rw [State.reg_set_ne _ _ (by exact h), State.reg_set_ne _ _ (by exact h)]

/-- The router's reaction to the DOWN of a port counts at most in `FAB_DISC_UNREACH_CNT` and `FAB_EVT` and shows the pool (R110, R458). -/
theorem State.reg_routerDown (s : State) (p : Nat) (cut : List Sending) {a : Nat} (h1 : 0x21008040 ≠ a) (h2 : aFabEvt ≠ a)
    (h3 : 0x21008068 ≠ a) : (s.routerDown p cut).reg a = s.reg a := by
  unfold State.routerDown
  dsimp only
  rw [State.reg_showPool _ h3, foldl_keeps _ (fun s : State => s.reg a), foldl_keeps _ (fun s : State => s.reg a), State.reg_inputLost]
  · intro s w; exact s.reg_portLost p w h1 h2
  · intro s x
    split
    · rfl
    · exact s.reg_sendingLost p x h1 h2

end Sys2Proof.Machine
end

