-- ==== Sys2Proof/Laws/Events.lean ====
section
/-! SUPPORT. Events: which registers the issue of transactions and the reports of events write. -/

namespace Sys2Proof.Machine

/-- The registers that reports and transactions may change: the fabric's event bits and counters, the Ethernet ports' and the
mailboxes'. -/
def reportReg (a : Nat) : Prop :=
  a = 0x21008010 ∨ a = 0x21008040 ∨ a = 0x21008064 ∨ a = 0x21008074 ∨ (0x22000000 ≤ a ∧ a < 0x22002000) ∨ (0x26000000 ≤ a ∧ a < 0x26000400)

theorem State.reg_sendFrom_report (s : State) (pk : Packet) {a : Nat} (h : ¬ reportReg a) : (s.sendFrom pk).reg a = s.reg a := by
  unfold reportReg at h
  exact s.reg_sendFrom pk (by omega) (by unfold aFabEvt; omega)

@[simp] theorem State.reg_setBulk (s : State) (n k a : Nat) : (s.setBulk n k).reg a = s.reg a := rfl

theorem State.reg_tryIssue (s t : State) (pk : Packet) (u : TxnUse) {a : Nat} (h : ¬ reportReg a) (e : s.tryIssue pk u = some t) :
    t.reg a = s.reg a := by
  unfold State.tryIssue at e
  split at e
  · cases e
  · split at e
    · cases e
    · dsimp only at e
      cases e
      rw [State.reg_sendFrom_report _ _ h]
      split <;> rfl

@[simp] theorem State.reg_mk (s : State) (f : Fabric) (a : Nat) : ({ s with fab := f } : State).reg a = s.reg a := rfl

theorem State.reg_countWait (s : State) (w : TagWait) {a : Nat} (h : ¬ reportReg a) : (s.countWait w).1.reg a = s.reg a := by
  have h1 : 0x21008064 ≠ a := by unfold reportReg at h; omega
  have h2 : 0x21008074 ≠ a := by unfold reportReg at h; omega
  unfold State.countWait
  split
  · split
    · rfl
    · exact s.reg_bump_ne h2
  · split
    · split
      · rfl
      · exact s.reg_bump_ne h1
    · rfl

theorem State.reg_waits (s : State) (w : TagWait) {a : Nat} (h : ¬ reportReg a) : (s.waits w).reg a = s.reg a := s.reg_countWait w h

theorem State.reg_issue (s : State) (pk : Packet) (u : TxnUse) {a : Nat} (h : ¬ reportReg a) : (s.issue pk u).reg a = s.reg a := by
  unfold State.issue
  dsimp only
  split
  · exact s.reg_waits _ h
  · cases e : s.tryIssue pk u with
    | some t => exact s.reg_tryIssue _ pk u h e
    | none => exact s.reg_waits _ h

theorem State.reg_pump (s : State) {a : Nat} (h : ¬ reportReg a) : s.pump.reg a = s.reg a := by
  unfold State.pump
  refine foldl_keeps _ (fun s : State => s.reg a) ?_ _ _
  intro s w
  split
  · exact s.reg_waits w h
  · cases e : s.tryIssue w.pk w.use with
    | some t => exact s.reg_tryIssue _ _ _ h e
    | none => exact s.reg_waits w h

theorem State.reg_endTxn (s : State) (x : Txn) {a : Nat} (h : ¬ reportReg a) : (s.endTxn x).reg a = s.reg a := by
  unfold State.endTxn
  dsimp only
  rw [State.reg_pump _ h]
  split <;> rfl

/-! ### Ethernet -/

theorem ethReg_report {e off : Nat} (he : e < 2) (ho : off < 0x1000) : reportReg (ethReg e off) := by
  unfold reportReg ethReg; omega

theorem mbxReg_report (p : Nat) {off : Nat} (ho : off < 0x100) : reportReg (mbxReg p off) := by
  unfold reportReg mbxReg; omega

theorem fSlot_report (p mb i : Nat) : reportReg (fSlot p mb i).a := by
  unfold fSlot; dsimp only; split <;> exact mbxReg_report p (by omega)

theorem State.reg_slotUnflag (s : State) (p mb i : Nat) {a : Nat} (h : ¬ reportReg a) : (s.slotUnflag p mb i).reg a = s.reg a := by
  unfold State.slotUnflag
  split
  · exact State.reg_set_ne _ _ (fun x => h (x ▸ fSlot_report p mb i))
  · rfl

theorem State.reg_slotFlag (s : State) (p mb i : Nat) {a : Nat} (h : ¬ reportReg a) : (s.slotFlag p mb i).reg a = s.reg a := by
  have hf : (fSlot p mb i).a ≠ a := fun x => h (x ▸ fSlot_report p mb i)
  unfold State.slotFlag
  split
  · split
    · exact State.reg_event_ne _ _ hf
    · exact State.reg_set_ne _ _ hf
  · rfl

theorem State.reg_eventLost (s : State) (p : Nat) (m : List Byte) {a : Nat} (h : ¬ reportReg a) : (s.eventLost p m).reg a = s.reg a := by
  have hm : (s.bump (mbxReg p 0x20)).reg a = s.reg a := State.reg_bump_ne _ (fun e => h (e ▸ mbxReg_report p (by omega)))
  unfold State.eventLost
  dsimp only
  split
  · exact hm
  · split <;> exact hm

theorem State.reg_slotLeaves (s : State) (p mb i : Nat) (b : Bool) {a : Nat} (h : ¬ reportReg a) : (s.slotLeaves p mb i b).reg a = s.reg a := by
  have hf : ((s.setSlot p mb i []).slotUnflag p mb i).reg a = s.reg a := (State.reg_slotUnflag _ p mb i h).trans rfl
  unfold State.slotLeaves
  dsimp only
  split
  · exact hf
  · exact (State.reg_eventLost _ _ _ h).trans hf

theorem State.reg_slotDone (s : State) (k : Nat) (b : Bool) {a : Nat} (h : ¬ reportReg a) : (s.slotDone k b).reg a = s.reg a := by
  by_cases hk : k < 1000
  · rw [State.slotDone, if_pos hk]
  · rw [State.slotDone, if_neg hk, State.reg_slotLeaves _ _ _ _ _ h]

theorem State.reg_ethTxDrop (s : State) (e k : Nat) {a : Nat} (he : e < 2) (h : ¬ reportReg a) : (s.ethTxDrop e k).reg a = s.reg a := by
  have h1 : ethReg e 0x54 ≠ a := fun x => h (x ▸ ethReg_report he (by omega))
  have h2 : ethReg e 0x20 ≠ a := fun x => h (x ▸ ethReg_report he (by omega))
  rw [State.ethTxDrop, State.reg_slotDone _ _ _ h, State.reg_event_ne _ _ h2, State.reg_bump_ne _ h1]

theorem State.reg_ethQueue (s : State) (e k : Nat) (f : List Byte) {a : Nat} (he : e < 2) (h : ¬ reportReg a) :
    (s.ethQueue e k f).reg a = s.reg a := by
  unfold State.ethQueue
  split
  · rfl
  · exact s.reg_ethTxDrop e k he h

theorem State.reg_ipSend (s : State) (e k d : Nat) (tag : Option Nat) (p : List Byte) {a : Nat} (he : e < 2) (h : ¬ reportReg a) :
    (s.ipSend e k d tag p).reg a = s.reg a := by
  unfold State.ipSend
  split
  · exact s.reg_ethQueue e _ _ he h
  · dsimp only
    generalize (if s.inSubnet e d = true then d else _) = hop
    split
    · exact s.reg_ethTxDrop e _ he h
    · split
      · exact s.reg_ethQueue e _ _ he h
      · split
        · exact s.reg_ethTxDrop e _ he h
        · rw [State.arpAsk, State.reg_ethQueue _ _ _ _ he h]; rfl

theorem State.reg_kmpUdp (s : State) (e k peer : Nat) (bs : List Byte) {a : Nat} (he : e < 2) (h : ¬ reportReg a) :
    (s.kmpUdp e k peer bs).reg a = s.reg a := by
  unfold State.kmpUdp
  dsimp only
  rw [foldl_keeps _ (fun s : State => s.reg a)]
  · rfl
  · intro s f
    exact s.reg_ipSend e _ _ _ _ he h

/-! ### Mailboxes, relays and events -/

theorem State.reg_relaySend (s : State) (r : Relay) {a : Nat} (h : ¬ reportReg a) : (s.relaySend r).reg a = s.reg a := by
  unfold State.relaySend
  split
  · rfl
  · exact s.reg_issue _ _ h

theorem State.reg_relayNext (s : State) (d : Nat) {a : Nat} (h : ¬ reportReg a) : (s.relayNext d).reg a = s.reg a := by
  unfold State.relayNext
  split
  · rfl
  · split
    · rfl
    · exact State.reg_relaySend _ _ h

theorem State.reg_relay (s : State) (d mb : Nat) (m : List Byte) (p : Nat) (c : Bool) {a : Nat} (h : ¬ reportReg a) :
    (s.relay d mb m p c).reg a = s.reg a := by
  unfold State.relay
  exact State.reg_relayNext _ _ h

theorem State.reg_placeOut (s : State) (p mb peer : Nat) (m : List Byte) {a : Nat} (h : ¬ reportReg a) :
    (s.placeOut p mb peer m).1.reg a = s.reg a := by
  unfold State.placeOut
  split
  · rfl
  · next hp =>
    split
    · split <;> rfl
    · next i _ =>
      have hs : (s.fillOut p mb i m).reg a = s.reg a := (State.reg_slotFlag _ _ _ _ h).trans rfl
      dsimp only
      split
      · exact hs
      · next h0 =>
        have he : p - 1 < 2 := by
          simp [h0, State.kmpPort] at hp; omega
        exact (State.reg_kmpUdp _ _ _ _ _ he h).trans hs

theorem State.reg_sendOut (s : State) (p e mb peer : Nat) (m : List Byte) {a : Nat} (h : ¬ reportReg a) :
    (s.sendOut p e mb peer m).1.reg a = s.reg a := by
  unfold State.sendOut
  split
  · exact s.reg_placeOut _ _ _ _ h
  · exact s.reg_relay _ _ _ _ _ h

theorem State.reg_deliverOne (s : State) (x : Session) (ct code at_ : Nat) (bs : List Byte) {a : Nat} (h : ¬ reportReg a) :
    (s.deliverOne x ct code at_ bs).reg a = s.reg a := by
  unfold State.deliverOne
  dsimp only
  split
  · exact (State.reg_sendOut _ _ _ _ _ _ h).trans rfl
  · exact (State.reg_eventLost _ _ _ h).trans ((State.reg_sendOut _ _ _ _ _ _ h).trans rfl)

theorem State.reg_deliverTo (s : State) (f : Nat → Bool) (code at_ : Nat) (bs : List Byte) (ten : Option Nat) {a : Nat} (h : ¬ reportReg a) :
    (s.deliverTo f code at_ bs ten).reg a = s.reg a := by
  unfold State.deliverTo State.deliverAt
  refine foldl_keeps _ (fun s : State => s.reg a) ?_ _ _
  intro s x
  split
  · exact s.reg_deliverOne _ _ _ _ _ h
  · rfl

/-- An event changes at most the registers that reports change. -/
theorem State.reg_kmpEvent (s : State) (code : Nat) (bs : List Byte) (ten : Option Nat) {a : Nat} (h : ¬ reportReg a) :
    (s.kmpEvent code bs ten).reg a = s.reg a := by
  unfold State.kmpEvent
  split
  · exact s.reg_deliverTo _ _ _ _ _ h
  · unfold State.reportEvent; split <;> rfl

end Sys2Proof.Machine
end

