-- ==== Sys2Proof/Laws/Cores.lean ====
section
/-! SUPPORT. Cores: the end of a core's work writes registers of the core windows only. -/

namespace Sys2Proof.Machine

theorem State.reg_epochFail (s : State) (plan n a : Nat) : (s.epochFail plan n).reg a = s.reg a := s.reg_toPole _ a

theorem State.reg_coreFail (s : State) (c n a : Nat) : (s.coreFail c n).reg a = s.reg a := by
  unfold State.coreFail
  refine foldl_keeps _ (fun s : State => s.reg a) ?_ _ _
  intro s e
  split
  · exact s.reg_epochFail _ _ a
  · rfl

@[simp] theorem State.reg_onCore (s : State) (c : Nat) (f : CoreState → CoreState) (a : Nat) : (s.onCore c f).reg a = s.reg a := rfl
@[simp] theorem State.reg_setChan (s : State) (c h : Nat) (q : DmaChan) (a : Nat) : (s.setChan c h q).reg a = s.reg a := rfl
@[simp] theorem State.reg_unkeep (s : State) (c h a : Nat) : (s.unkeep c h).reg a = s.reg a := rfl
@[simp] theorem State.reg_dropPackets (s : State) (c h a : Nat) : (s.dropPackets c h).reg a = s.reg a := rfl
@[simp] theorem State.reg_discardTxns (s : State) (f : TxnUse → Bool) (a : Nat) : (s.discardTxns f).reg a = s.reg a := rfl

/-- A fold over 0 to 7 of steps that each keep a register keeps it. -/
theorem foldl_range8_reg (f : State → Nat → State) (a : Nat) (h : ∀ s, ∀ i < 8, (f s i).reg a = s.reg a) (s : State) :
    ((List.range 8).foldl f s).reg a = s.reg a := by
  simp only [show List.range 8 = [0, 1, 2, 3, 4, 5, 6, 7] from rfl, List.foldl_cons, List.foldl_nil]
  rw [h _ 7 (by omega), h _ 6 (by omega), h _ 5 (by omega), h _ 4 (by omega), h _ 3 (by omega), h _ 2 (by omega), h _ 1 (by omega), h _ 0 (by omega)]

theorem State.reg_flushChan (s : State) {c h a : Nat} (hc : c < 8) (hh : h < 8) (ha : 0x18000000 ≤ a) : (s.flushChan c h).reg a = s.reg a := by
  unfold State.flushChan
  dsimp only
  rw [State.reg_set_ne _ _ (by simp only [fPendCred, dmaReg]; omega), State.reg_set_ne _ _ (by simp only [fHeldCred, dmaReg]; omega),
    State.reg_set_ne _ _ (by simp only [fChState, dmaReg]; omega)]
  rfl

theorem State.reg_showDma (s : State) {c a : Nat} (hc : c < 8) (ha : 0x18000000 ≤ a) : (s.showDma c).reg a = s.reg a := by
  unfold State.showDma
  dsimp only
  rw [State.reg_setReg_ne _ _ (by simp only [dmaReg]; omega), State.reg_setReg_ne _ _ (by simp only [dmaReg]; omega)]
  refine foldl_range8_reg _ a ?_ s
  intro s i hi
  exact s.reg_set_ne _ (by simp only [fChDepth, dmaReg]; omega)

/-- Ending the work of a core's context writes registers of the core windows only (R216, R227). -/
theorem State.reg_endWork (s : State) {c a : Nat} (hc : c < 8) (ha : 0x18000000 ≤ a) : (s.endWork c).reg a = s.reg a := by
  unfold State.endWork State.showTns State.showTg
  dsimp only
  rw [State.reg_setReg_ne _ _ (by simp only [tnsReg]; omega), State.reg_setReg_ne _ _ (by simp only [tgReg]; omega),
    State.reg_showDma _ hc ha, State.reg_onCore, State.reg_discardTxns]
  exact foldl_range8_reg _ a (fun s i hi => s.reg_flushChan hc hi ha) s

/-- Abandoning the epoch for a core writes registers of the core windows only (R227). -/
theorem State.reg_seqAbandon (s : State) {c a : Nat} (hc : c < 8) (ha : 0x18000000 ≤ a) : (s.seqAbandon c).reg a = s.reg a := by
  unfold State.seqAbandon
  split
  · unfold State.abandonCore
    dsimp only
    rw [State.reg_coreFail, State.reg_set_ne _ _ (by simp only [fSeqState, seqReg]; omega), State.reg_endWork _ hc ha]
  · rfl

end Sys2Proof.Machine
end

