-- ==== Sys2Proof/Laws/Link.lean ====
section
/-! SUPPORT. Link: what the shared operations of the link ports do. -/

namespace Sys2Proof.Machine

/-- A register of the link ports (R81). -/
def linkReg (a : Nat) : Prop := 0x21000000 ≤ a ∧ a < 0x21006000

theorem linkReg_not_report {a : Nat} (h : linkReg a) : ¬ reportReg a := by unfold linkReg at h; unfold reportReg; omega

theorem lnkBase_linkReg {p off : Nat} (hp : p < 6) (ho : off < 0x1000) : linkReg (lnkBase p + off) := by
  unfold linkReg lnkBase; omega

/-- A field of the same register elsewhere: reading it depends on that register only. -/
theorem State.get_congr {s t : State} {f : Fld} (h : s.reg f.a = t.reg f.a) : s.get f = t.get f := by
  rw [State.get, State.get, h]

theorem State.reg_bootTable (s : State) {a : Nat} (h : a < 0x21009000) : s.bootTable.reg a = s.reg a := by
  unfold State.bootTable
  dsimp only
  split
  · rfl
  · refine foldl_keeps _ (fun s : State => s.reg a) ?_ _ _
    intro s d
    exact s.reg_setReg_ne _ (by omega)

theorem State.reg_noCredits (s : State) (p : Nat) {a : Nat} (h : ∀ v, v < 8 → lnkBase p + 0x20 + 4 * v ≠ a) :
    (s.noCredits p).reg a = s.reg a := by
  unfold State.noCredits
  have key : ∀ (l : List Nat) (s : State), (∀ v ∈ l, v < 8) →
      (l.foldl (fun s v => (s.set (fAvail p v) 0).set (fAdv p v) 0) s).reg a = s.reg a := by
    intro l
    induction l with
    | nil => intro s _; rfl
    | cons v l ih =>
      intro s hl
      have hv : lnkBase p + 0x20 + 4 * v ≠ a := h v (hl v (by simp))
      rw [List.foldl_cons, ih _ (fun w hw => hl w (by simp [hw])), State.reg_set_ne _ _ (by exact hv), State.reg_set_ne _ _ (by exact hv)]
  exact key _ _ (by simp)

@[simp] theorem State.reg_fill (s : State) (p a : Nat) : (s.fill p).reg a = s.reg a := by
  unfold State.fill
  dsimp only
  split
  · rfl
  · split
    · rfl
    · split <;> rfl

@[simp] theorem State.reg_stream (s : State) (p : Nat) (bs : List Block) (a : Nat) : (s.stream p bs).reg a = s.reg a := rfl

@[simp] theorem State.reg_notices (s : State) (p c a : Nat) : (s.notices p c).reg a = s.reg a := by
  unfold State.notices
  split
  · rw [State.emit_reg, State.busy, State.onPort_reg, State.reg_stream, State.reg_fill]
  · rfl

@[simp] theorem State.reg_endFrame (s : State) (p : Nat) (b : Building) {a : Nat} (h : lnkBase p + 4 ≠ a) : (s.endFrame p b).reg a = s.reg a := by
  unfold State.endFrame
  dsimp only
  split
  · rfl
  · rw [State.showHeld, State.reg_set_ne _ _ (by exact h)]; rfl

/-- A frame that is sent to its end or held shows HELD only. -/
theorem State.reg_freeze (s : State) (p : Nat) {a : Nat} (h : lnkBase p + 4 ≠ a) : (s.freeze p).reg a = s.reg a := by
  unfold State.freeze
  dsimp only
  split
  · rfl
  · split
    · rw [State.reg_endFrame _ _ _ h, State.reg_stream]
    · split
      · rfl
      · rw [State.showHeld, State.reg_set_ne _ _ (by exact h)]; rfl

/-- A swap of the route banks that is due writes `FAB_CTL`, `FAB_EVT` and what its report writes (R111, R114). -/
theorem State.reg_swapDue (s : State) {a : Nat} (h : linkReg a) : s.swapDue.reg a = s.reg a := by
  have hc : (0x21008004 : Nat) ≠ a := by unfold linkReg at h; omega
  have he : aFabEvt ≠ a := by unfold linkReg at h; unfold aFabEvt; omega
  unfold State.swapDue
  split
  · exact (State.reg_kmpEvent _ _ _ _ (linkReg_not_report h)).trans
      ((State.reg_event_ne _ _ he).trans ((State.reg_set_ne _ _ hc).trans (State.reg_set_ne _ _ hc)))
  · rfl

/-- The abandonment of the plans that a lost port cut writes registers of the core windows only (R112, R227). -/
theorem State.reg_plansDown (s : State) (p : Nat) {a : Nat} (h : linkReg a) : (s.plansDown p).reg a = s.reg a := by
  unfold State.plansDown
  dsimp only
  refine foldl_keeps _ (fun s : State => s.reg a) ?_ _ _
  intro s e
  have key : ∀ (l : List Nat) (s : State), (∀ c ∈ l, c < 8) → (l.foldl (fun s c => s.seqAbandon c) s).reg a = s.reg a := by
    intro l
    induction l with
    | nil => intro s _; rfl
    | cons c l ih =>
      intro s hl
      rw [List.foldl_cons, ih _ (fun w hw => hl w (by simp [hw]))]
      exact s.reg_seqAbandon (hl c (by simp)) (by unfold linkReg at h; omega)
  exact key _ s (by simp [List.mem_filter]; omega)

/-- Entering a training state writes STATE, `STATE_CHG` and what the report of the event writes. -/
theorem State.reg_enter (s : State) (p st : Nat) {a : Nat} (h1 : lnkBase p + 4 ≠ a) (h2 : aLnkEvt p ≠ a) (h3 : ¬ reportReg a) :
    (s.enter p st).reg a = s.reg a := by
  unfold State.enter
  dsimp only
  rw [State.onPort_reg, State.reg_event_ne _ _ h2, State.reg_set_ne _ _ (by exact h1), State.reg_kmpEvent _ _ _ _ h3, State.reg_fill]

@[simp] theorem State.enter_state (s : State) (p st : Nat) : (s.enter p st).get (fLnkState p) = st % 8 := by
  unfold State.enter
  dsimp only
  rw [State.onPort_get, State.get_event_ne _ _ (by simp [aLnkEvt, fLnkState]), State.get_set_self _ _ _ (by simp [fLnkState])]
  rfl

/-- The other fields of STAT stay when a state is entered. -/
theorem State.enter_stat (s : State) {p st : Nat} (f : Fld) (hp : p < 6) (ha : f.a = lnkBase p + 4) (hf : f.apart (fLnkState p) = true) :
    (s.enter p st).get f = s.get f := by
  unfold State.enter
  dsimp only
  rw [State.onPort_get, State.get_event_ne _ _ (by simp [aLnkEvt, ha]), State.get_set_apart _ _ hf]
  exact State.get_congr ((State.reg_kmpEvent _ _ _ _ (linkReg_not_report (ha ▸ lnkBase_linkReg hp (by omega)))).trans (s.reg_fill p _))

/-- `STATE_CHG` is set when a state is entered. -/
theorem State.enter_evt (s : State) {p : Nat} (st : Nat) (hp : p < 6) : (s.enter p st).reg (aLnkEvt p) = s.reg (aLnkEvt p) ||| 1#32 := by
  unfold State.enter
  dsimp only
  rw [State.onPort_reg, State.reg_event_self, State.reg_set_ne _ _ (by simp [aLnkEvt, fLnkState]),
    State.reg_kmpEvent _ _ _ _ (a := aLnkEvt p) (linkReg_not_report (lnkBase_linkReg hp (off := 0xC) (by omega))),
    State.reg_fill]

/-- The last operations of an entry to DOWN write no register of the port but its credits and HELD. -/
theorem State.linkDown_reg (s : State) {p : Nat} (c : Nat) {a : Nat} (ha : linkReg a) (h4 : a ≠ lnkBase p + 4) (h8 : a ≠ lnkBase p + 8)
    (he : a ≠ aLnkEvt p) (h0 : a ≠ lnkBase p + 0x40) (h1 : a ≠ lnkBase p + 0x44) (hv : ∀ v, v < 8 → lnkBase p + 0x20 + 4 * v ≠ a) :
    (s.linkDown p c).reg a = s.reg a := by
  have hr := linkReg_not_report ha
  have hr1 : 0x21008040 ≠ a := by unfold linkReg at ha; omega
  have hr2 : aFabEvt ≠ a := by unfold linkReg at ha; unfold aFabEvt; omega
  have hr3 : 0x21008068 ≠ a := by unfold linkReg at ha; omega
  have hb : a < 0x21009000 := by unfold linkReg at ha; omega
  unfold State.linkDown
  dsimp only
  rw [State.reg_linkReport, State.reg_plansDown _ _ ha, State.reg_bootTable _ hb, State.reg_routerDown _ _ _ hr1 hr2 hr3, State.reg_noCredits _ _ hv, State.showHeld,
    State.reg_set_ne _ _ (by exact (Ne.symm h4)), State.onPort_reg, State.reg_set_ne _ _ (by exact (Ne.symm h1)),
    State.reg_set_ne _ _ (by exact (Ne.symm h0)), State.reg_set_ne _ _ (by exact (Ne.symm h8)), State.reg_event_ne _ _ (Ne.symm he),
    State.reg_enter _ _ _ (Ne.symm h4) (Ne.symm he) hr, State.reg_set_ne _ _ (by exact (Ne.symm h4)), State.reg_notices,
    State.reg_freeze _ _ (Ne.symm h4), State.reg_swapDue _ ha]

/-- After an entry to DOWN the port is in DOWN with its cause; nothing is held (R56, R84). -/
theorem State.linkDown_stat (s : State) {p : Nat} (c : Nat) (hp : p < 6) :
    (s.linkDown p c).get (fLnkState p) = 0 ∧ (s.linkDown p c).get (fLnkCause p) = c % 256 ∧ (s.linkDown p c).get (fHeld p) = 0 := by
  have ha : linkReg (lnkBase p + 4) := lnkBase_linkReg hp (by omega)
  have hr1 : 0x21008040 ≠ lnkBase p + 4 := by unfold linkReg at ha; omega
  have hr2 : aFabEvt ≠ lnkBase p + 4 := by unfold linkReg at ha; unfold aFabEvt; omega
  have hr3 : 0x21008068 ≠ lnkBase p + 4 := by unfold linkReg at ha; omega
  have hb : lnkBase p + 4 < 0x21009000 := by unfold linkReg at ha; omega
  have tail : ∀ (t : State) (cut : List Sending) (k : Nat), ((((t.noCredits p).routerDown p cut).bootTable.plansDown p).linkReport p k).reg (lnkBase p + 4) = t.reg (lnkBase p + 4) := by
    intro t cut k
    rw [State.reg_linkReport, State.reg_plansDown _ _ ha, State.reg_bootTable _ hb, State.reg_routerDown _ _ _ hr1 hr2 hr3, State.reg_noCredits _ _ (by intro v hv; omega)]
  unfold State.linkDown
  dsimp only
  refine ⟨?_, ?_, ?_⟩ <;> refine (State.get_congr (tail _ _ _)).trans ?_
  · rw [State.showHeld, State.get_set_apart _ _ (by simp [Fld.apart, fLnkState, fHeld]), State.onPort_get,
      State.get_set_apart _ _ (by simp [Fld.apart, fLnkState, fLock, lnkBase]), State.get_set_apart _ _ (by simp [Fld.apart, fLnkState, fLock, lnkBase]),
      State.get_set_apart _ _ (by simp [Fld.apart, fLnkState, fPeerValid, lnkBase]), State.get_event_ne _ _ (by simp [aLnkEvt, fLnkState]), State.enter_state]
  · rw [State.showHeld, State.get_set_apart _ _ (by simp [Fld.apart, fLnkCause, fHeld]), State.onPort_get,
      State.get_set_apart _ _ (by simp [Fld.apart, fLnkCause, fLock, lnkBase]), State.get_set_apart _ _ (by simp [Fld.apart, fLnkCause, fLock, lnkBase]),
      State.get_set_apart _ _ (by simp [Fld.apart, fLnkCause, fPeerValid, lnkBase]), State.get_event_ne _ _ (by simp [aLnkEvt, fLnkCause]),
      State.enter_stat _ _ hp rfl (by simp [Fld.apart, fLnkState, fLnkCause]), State.get_set_self _ _ _ (by simp [fLnkCause])]
    rfl
  · rw [State.showHeld, State.get_set_self _ _ _ (by simp [fHeld])]
    simp [State.onPort, Port.cleared]

end Sys2Proof.Machine
end

