-- ==== Sys2Proof/Tests/Slice0.lean ====
section
/-! SUPPORT. Slice0: the model's own tests: terms that WellFormed refuses, single steps, and witnesses that meet hypotheses of
statements. -/

namespace Sys2Proof.Tests

open Sys2Proof.Machine

/-! ### WellFormed refuses an ill-formed term of each kind -/

/-- A packet that counts the bytes it carries. -/
def goodPacket (kind : Nat) (data : List Byte) : Packet := { dst := 1, src := 2, kind := kind, nbytes := data.length, data := data }

theorem test_wf_packet : (Instr.writeBulk (goodPacket 1 [0#8, 1#8, 2#8, 3#8])).wf = true := by decide
theorem test_wf_packet_kind : (Instr.writeBulk (goodPacket 2 [0#8])).wf = false := by decide
theorem test_wf_packet_bytes : (Instr.msg { goodPacket 3 [0#8] with nbytes := 2 }).wf = false := by decide
theorem test_wf_packet_node : (Instr.read { goodPacket 2 [] with dst := 64 }).wf = false := by decide
theorem test_wf_beacon : (Instr.formation (goodPacket 9 [0x40#8])).wf = true := by decide
theorem test_wf_beacon_type : (Instr.formation (goodPacket 9 [0x41#8])).wf = false := by decide
theorem test_wf_beacon_empty : (Instr.go (goodPacket 9 [])).wf = false := by decide
theorem test_wf_hop_type : (Instr.timeReq 0 [3#8]).wf = false ∧ (Instr.timeReq 0 [2#8]).wf = true := by decide
theorem test_wf_hop_long : (Instr.timeRsp 0 (3#8 :: List.replicate 16 0#8)).wf = false := by decide
theorem test_wf_frame_short : (Instr.shortFrame 0 { slots := [0, 0, 0, 0], vcs := [0, 0, 0, 0] }).wf = false := by decide
theorem test_wf_frame_slots : (Instr.fullFrame 0 { slots := [0, 0, 0], vcs := [0, 0, 0, 0] }).wf = false := by decide
theorem test_wf_frame_vc : (Instr.fullFrame 0 { slots := [0, 0, 0, 0], vcs := [0, 8, 0, 0] }).wf = false := by decide
theorem test_wf_frame : (Instr.fullFrame 0 { slots := [0, 0, 0, 0], vcs := [0, 7, 0, 0] }).wf = true := by decide
theorem test_wf_headers_of_64_blocks : (Instr.lossOfLock 0 0 65).wf = false ∧ (Instr.prbsSyncLoss 0 0 (List.replicate 65 true)).wf = false := by decide
theorem test_wf_notice_code : (Instr.notice 0 256).wf = false := by decide
theorem test_wf_step_number :
    (Instr.tensorComplete 0 65536).wf = false ∧ (Instr.launchLimit 0 65536).wf = false ∧ (Instr.narrowDisplace 0 0 65536).wf = false := by decide
theorem test_wf_frame_number : (Instr.frameStart 0 65536 {}).wf = false := by decide
theorem test_wf_plan : (Instr.epochCommitSend 65536).wf = false ∧ (Instr.commitVerifyDone 65536 true).wf = false := by decide
theorem test_wf_epoch : (Instr.epochReadySend 0 18446744073709551616).wf = false := by decide
theorem test_wf_spi_window : (Instr.spiRead 16777216 1).wf = false := by decide
theorem test_wf_udp_source : (Instr.udpDatagram 0 281474976710656 []).wf = false := by decide
theorem test_wf_sid : (Instr.sessionIdleTimeout 4096).wf = false := by decide
theorem test_wf_request_code : (Instr.ping { code := 0x0A03 }).wf = false ∧ (Instr.ping { code := 0x0A04 }).wf = true := by decide
theorem test_wf_request_path : (Instr.ping { code := 0x0A04, path := 4 }).wf = false := by decide
theorem test_wf_local_address : (Instr.registerWrite 0 281474976710656 0).wf = false ∧ (Instr.pairLoRead 281474976710656).wf = false := by decide

/-! ### Single steps and values of the spec -/

/-- The chip's reset values of Tables 25-10, 5-7 and 4-5. -/
theorem test_reset_values :
    regReset 0x2700F000 = 0x00A17240#32 ∧ regReset 0x10F00004 = 0x00600420#32 ∧ regReset 0x2300001C = 2#32 ∧ regReset 0x22000000 ≠ 0#32 := by decide

theorem test_memory_of_reset_is_canonical : State.reset.mem.wf = true := by decide

/-- R760: version 1, part 0x7240, manufacturer 0x4B5, and 1. -/
theorem test_idcode_fields :
    0x1724096B / 2 ^ 28 = 1 ∧ 0x1724096B / 2 ^ 12 % 2 ^ 16 = 0x7240 ∧ 0x1724096B / 2 % 2 ^ 11 = 0x4B5 ∧ 0x1724096B % 2 = 1 := by decide

theorem test_idcode_completes : Completes .idcode State.reset (fun t => t.per.tapIr = 1) := ⟨_, rfl, rfl⟩

/-- R715: a plain register of the fabric block, and the clock gates, which have a command of their own. -/
theorem test_plain_register : plainRegister 0x21008008 = true ∧ plainRegister aGate = false ∧ plainRegister 0x27003004 = false := by decide

/-- A state with a debug unlock of scope bit 1. -/
def unlocked : State := State.reset.setReg aDbg 2#32

theorem test_debug_instruction_stops : exec (.debugInstruction 0x80) unlocked = .fault .debugInstruction := rfl

theorem test_debug_instruction_bypasses : Completes (.debugInstruction 0x80) State.reset (fun t => t.per.tapIr = 0xFF) := ⟨_, rfl, rfl⟩

theorem test_step_takes_front : step { State.reset with pending := [.tapReset, .idcode] } = exec .tapReset { State.reset with pending := [.idcode] } := rfl

/-! ### Witnesses -/

/-- The chip after reset with port 0 in a state of Table 2-5. -/
def linkIn (st : Nat) : State := State.reset.set (fLnkState 0) st

/-- The chip after reset, later. -/
def later (n : Nat) : State := { State.reset with now := n }

theorem test_witness_StepRunsFront : ({ State.reset with pending := [.idcode] } : State).pending = Instr.idcode :: [] := rfl

theorem test_witness_TicksAndReset_running : State.reset.pending = [] ∧ State.reset.running := ⟨rfl, rfl⟩

theorem test_witness_TicksAndReset_in_reset :
    let s := { State.reset with pwr := { inReset := some 2 } }
    s.pending = [] ∧ s.pwr.inReset.isSome = true := ⟨rfl, rfl⟩

theorem test_witness_LinkStateMachine_dwell :
    let s := { linkIn 0 with now := ms }
    s.running ∧ s.get (fLnkState 0) = 0 ∧ s.get (fLnkEn 0) = 1 ∧ s.get (fLnkTest 0) = 0 ∧ (s.port 0).since + ms ≤ s.now :=
  ⟨rfl, by decide, by decide, by decide, by decide⟩

theorem test_witness_LinkStateMachine_detect :
    let s := later (20 * ms)
    s.running ∧ s.get (fLnkState 0) = 1 ∧ (s.port 0).since + 20 * ms ≤ s.now ∧ (s.port 0).phase ≠ 4 :=
  ⟨rfl, by decide, by decide, by decide⟩

theorem test_witness_LinkStateMachine_align : (linkIn 2).running ∧ (linkIn 2).get (fLnkState 0) = 2 := ⟨rfl, by decide⟩

theorem test_witness_LinkStateMachine_active :
    (linkIn 4).running ∧ (linkIn 4).get (fLnkState 0) = 4 ∧ (linkIn 4).get (fLnkTest 0) = 0 := ⟨rfl, by decide, by decide⟩

theorem test_witness_PacketRoundTrip :
    let p : Packet := { dst := 3, kind := 1, len := lenOf 4, nbytes := 4, data := [1#8, 2#8, 3#8, 4#8] }
    p.wf = true ∧ p.len = lenOf p.nbytes := by decide

theorem test_witness_RegionMap :
    let r : Rgn := rgnOf 0 0x10000 0x21
    r.plog < 4 ∧ r.base ≤ 64 ∧ r.base ≤ 128 := by decide

theorem test_witness_ClocksAndFsync_monitor : bit (State.reset.reg 0x23000084).toNat 4 = true := by decide

theorem test_witness_gateOpen : State.reset.gateOpen 7 := ⟨rfl, by decide, by decide⟩

theorem test_witness_pairRuns : (State.reset.set fStage 7).pairRuns := ⟨rfl, by decide, rfl⟩

theorem test_witness_RegionsStayApart : State.reset.regionsApart 0 := by
  have h : ∀ r : Fin 8, (State.reset.rgn 0 r).en = false := by decide
  intro r q _ hr
  rw [h r] at hr
  cases hr

theorem test_witness_PinsAndControllers :
    State.reset.per.mdio = none ∧ (0x80000000#32).getLsbD 31 = true ∧ State.reset.lifecycle ≠ 2 ∧
      { State.reset with per := { mdio := some 1 } }.per.mdio.isSome = true := by decide

/-- The chip after reset with a register set. -/
def withReg (a : Nat) (v : Word) : State := State.reset.setReg a v

/-- Port 0 ACTIVE, changed. -/
def portWith (f : Port → Port) : State := (linkIn 4).onPort 0 f

theorem test_witness_LinkReceives :
    let f : Frame := { short := true, blocks := [(2#2, 0#64), (2#2, 0#64)] }
    let g := ((linkIn 4).port 0).unscrambled true f
    (linkIn 4).running ∧ (linkIn 4).get (fLnkState 0) = 4 ∧ frameGood (g.read true) = false ∧
      (g.headless && decide (g.blocks.length = 1)) = false := ⟨rfl, by decide, by decide +kernel, by decide⟩

/-- A full frame with one flit, on VC 0, before its CRC. -/
def bareFrame : Frame := { flitV := 1, slots := [0, 0, 0, 0], vcs := [0, 0, 0, 0] }

/-- The frame with its CRC. -/
def goodFrame : Frame := { bareFrame with crc := frameCrc bareFrame }

theorem goodFrame_good : frameGood (goodFrame.read false) = true := by
  have h (f : Frame) (hb : f.blocks = []) (he : f.blockErr = false) (hs : f.short = false) :
      frameGood (({ f with crc := frameCrc f } : Frame).read false) = true := by
    have hr : ({ f with crc := frameCrc f } : Frame).read false = { f with crc := frameCrc f } := by simp [Frame.read, hb, hs]
    rw [hr]
    simp [frameGood, crcGood, he, frameCrc, frameHdr, frameTags]
  exact h bareFrame rfl rfl rfl

theorem test_witness_LinkReceives_accepts :
    let s := portWith (fun q => { q with vcBuf := List.replicate 8 [] })
    s.running ∧ s.get (fLnkState 0) = 4 ∧ frameGood (goodFrame.read false) = true ∧ bit (goodFrame.read false).flitV 0 = true ∧
      (goodFrame.read false).seq = (s.port 0).expSeq ∧ (s.port 0).vcBuf.length = 8 ∧
      ∀ v : Fin 8, ((s.port 0).got.getD v 0 + 256 - (s.port 0).freedTotal.getD v 0) % 256 + 4 ≤ bufferOf v :=
  ⟨rfl, by decide, goodFrame_good, rfl, rfl, by decide, by decide⟩

theorem test_witness_LinkSends :
    let s := { portWith (fun q => { q with held := [goodFrame] }) with now := us }
    s.running ∧ s.get (fLnkState 0) = 4 ∧ (s.port 0).held ≠ [] ∧ (s.port 0).replay = none ∧ (s.port 0).timerFrom + us ≤ s.now ∧
      s.linkOff = false := ⟨rfl, by decide, by decide, by decide, by decide, by decide⟩

theorem test_witness_LinkSends_resends :
    let s := portWith (fun q => { q with held := [goodFrame], replay := some 0, freedTotal := [1, 0, 0, 0, 0, 0, 0, 0] })
    (s.port 0).building = none ∧ (s.port 0).replay = some 0 ∧ (s.port 0).held[0]? = some goodFrame ∧ (s.port 0).hasReport = true :=
  ⟨rfl, rfl, rfl, by decide⟩

theorem test_witness_RouterMovesPackets :
    let fs := packetFlits { kind := 15, len := 1 }
    let s := portWith (fun q => { q with vcBuf := fs :: List.replicate 7 [] })
    s.running ∧ (s.port 0).vcBuf.getD 0 [] = fs ∧ fs.length = 1 ∧ malformed (flitsPacket fs) = true :=
  ⟨rfl, rfl, by decide, by decide +kernel⟩

theorem test_witness_TransactionsEnd :
    let pk : Packet := { kind := 2, tc := tcOfKind 2, nbytes := 2, len := lenOf 2, data := [6#8, 0#8] }
    State.reset.running ∧ malformed pk = false ∧ State.reset.ingress pk pk.kind = some State.reset ∧ fieldAt pk.data 0 2 % 4 ≠ 0 :=
  ⟨rfl, by decide, rfl, by decide⟩

theorem test_witness_TransactionsEnd_reset :
    let pk : Packet := { kind := 6, tc := tcOfKind 6, src := 5, tag := 3, len := lenOf 0 }
    let q : Quarantine := { issuer := 0, tag := 3, until_ := 10, bulk := some 5, reset := true }
    let s := { State.reset with fab := { State.reset.fab with quarantine := [q] } }
    s.running ∧ malformed pk = false ∧ s.ingress pk pk.kind = some s ∧ s.txnOf pk = none ∧ s.fab.tagWait = [] ∧ q.issuer = pk.issuer :=
  ⟨rfl, by decide, rfl, rfl, rfl, rfl⟩

theorem test_witness_TimeExchange :
    let s := (linkIn 4).set fSyncEn 1
    s.running ∧ s.get (fLnkState 0) = 4 ∧ s.get fSyncEn = 1 ∧ (s.port 0).reqMs ≠ some s.ctMs ∧ s.atInstant 0 = true ∧ s.hopClear 0 = true :=
  ⟨rfl, by decide, by decide, by decide, by decide, by decide⟩

theorem test_witness_EpochsAndFormation :
    let s := State.reset.set fRun 1
    s.running ∧ s.get fRun = 1 ∧ s.ctNs < s.boundary (s.tim.epoch + 1) := ⟨rfl, by decide, by decide⟩

theorem test_witness_EpochsAndFormation_instant :
    let s := { State.reset with tim := { formAt := some 0 } }
    s.tim.formAt = some 0 ∧ s.get fMember = 0 ∧ 0 ≤ s.ctNs := ⟨rfl, by decide, by decide⟩

theorem test_witness_VehicleTime :
    let m : Master := { id := [1#8] }
    let s := { State.reset with loss := { pole := some 0 }, tim := { ptp := { enabled := true, masters := [m], lastSync := some 0 } } }
    s.loss.pole = some s.node ∧ s.tim.ptp.enabled = true ∧ s.tim.ptp.lastSync = some 0 := ⟨rfl, rfl, rfl⟩

theorem test_witness_BanksAndWindows :
    bit (0#32).toNat 3 = false ∧ bit (0xFFFF#32).toNat 3 = true ∧
      (withReg (palReg 0 8) 0xFFFF#32).gateOpen 0 ∧ bit ((withReg (palReg 0 8) 0xFFFF#32).reg (palReg 0 8)).toNat 3 = true :=
  ⟨by decide, by decide, ⟨rfl, by decide, fun _ => by decide⟩, by decide⟩

theorem test_witness_BanksAndWindows_pair :
    let s := { later (2 * us + 24576 * 8) with mem := { pairUp := [(3, some 0)] } }
    s.running ∧ tblGet (fun _ => none) s.mem.pairUp (16 * 0 + 3) = some 0 ∧ 0 + 2 * us + 24576 * 8 ≤ s.now := ⟨rfl, by decide, by decide⟩

/-- A core with one region for tenant 7 over its first bank pair, a step list of one step at address 0 with bytes `b0` and `b1` and then
zeros, and its sequencer in RUN. -/
def stepOf (b0 b1 : Byte) : State :=
  let s := (((State.reset.setReg (aRgn 0 0 1) 0x1000#32).setReg (aRgn 0 0 2) 0x701#32).setReg (palReg 0 0xC) 1#32).set (fTenant 0) 7
  let s := (s.setReg (seqReg 0 0x10) 1#32).set (fSeqState 0) 1
  { s with mem := { pal := [(palKey 0 0 0 0, b0), (palKey 0 0 0 1, b1)] } }

/-- The step's words. -/
def wordsOf (b0 b1 : Byte) : List Nat := (b0.toNat + 256 * b1.toNat) :: List.replicate 15 0

/-- A step of each type that the sequencer hands on: TENSOR, DMA, TG_LAUNCH, SIGNAL, BARRIER and so on, and TEST. -/
theorem test_witness_nextStep :
    (∀ ty ∈ [1#8, 2#8, 3#8], (stepOf ty 0#8).nextStep 0 ty.toNat (wordsOf ty 0#8)) ∧ (stepOf 10#8 1#8).nextStep 0 10 (wordsOf 10#8 1#8) := by
  unfold State.nextStep
  decide +kernel

theorem test_witness_DmaChannels :
    let s := stepOf 2#8 0#8
    s.running ∧ (s.chan 0 0).queue.length < 4 ∧ (s.chan 0 0).cur = none ∧ bits (word (wordsOf 2#8 0#8) 0) 8 3 = 0 := ⟨rfl, by decide, rfl, by decide⟩

theorem test_witness_Notes :
    State.reset.gateOpen 0 ∧ (State.reset.reg (aNoteStat 0 0)).toNat % 4 ≠ 1 ∧ 64 < ((withReg (dmaReg 0 0x208) 65#32).reg (dmaReg 0 0x208)).toNat % 128 :=
  ⟨⟨rfl, by decide, fun _ => by decide⟩, by decide, by decide⟩

theorem test_witness_Sequencer :
    State.reset.gateOpen 0 ∧ State.reset.get (fSeqState 0) = 0 ∧ State.reset.listOk 0 = false ∧ (stepOf 1#8 0#8).get (fSeqState 0) = 1 :=
  ⟨⟨rfl, by decide, fun _ => by decide⟩, by decide, by decide, by decide⟩

theorem test_witness_TensorUnit : (stepOf 1#8 0#8).tensorFree 0 (wordsOf 1#8 0#8) = true ∧ (stepOf 1#8 0#8).tensorCheck 0 (wordsOf 1#8 0#8) ≠ 0 := by
  decide +kernel

/-- A TEST step of array 0 in flight. -/
def testRun : State := State.reset.onSeq 0 (fun q => { q with tensor := [{ step := 0, words := wordsOf 10#8 1#8, arrays := 1, test := true }] })

theorem test_witness_ArraySelfTest :
    (stepOf 10#8 1#8).arraysBusy 0 &&& bits (word (wordsOf 10#8 1#8) 0) 8 4 = 0 ∧
      (testRun.core 0).seq.tensor.find? (fun t => t.test && t.step = 0) = some { step := 0, words := wordsOf 10#8 1#8, arrays := 1, test := true } ∧
      bit (testRun.arraysBusy 0) 0 = true := by decide +kernel

/-- A tensor operation of one empty tile without inputs beside its operands, at its completion. -/
def tensorRun : State := (stepOf 1#8 0#8).onSeq 0 (fun q => { q with tensor := [{ step := 0, words := wordsOf 1#8 0#8, arrays := 1 }] })

theorem test_witness_TensorUnit_completes :
    (tensorRun.tensorRun 0 0).isSome = true ∧ tensorRun.mem.parityOk = true ∧ (tdescOf (wordsOf 1#8 0#8)).drain = false ∧
      (tdescOf (wordsOf 1#8 0#8)).accIn = false ∧ (tdescOf (wordsOf 1#8 0#8)).accFp = false ∧
      ∀ sp ∈ (tdescOf (wordsOf 1#8 0#8)).reads, sp.2 = 0 ∨ (tensorRun.palCheck (tensorRun.coreWho 0) true false 0 sp.1 sp.2).2 = 0 := by
  decide +kernel

theorem test_witness_NumberFormats : isFin 0 = true ∧ (List.replicate 16 0).length = 16 ∧ 0 < 1 := by decide

theorem test_witness_SpecialFunctions :
    f32 0x7FC00000 = .nan ∧ isFin (word (({ head := List.replicate 11 0 } : SfuSlot).head) 1) = true ∧ f32 0 ≠ .nan := by decide +kernel

theorem test_witness_SfuLoads :
    State.reset.gateOpen 0 ∧ (State.reset.sfuSlot 0 3).ready = false ∧ (State.reset.core 0).sfu.loading = none ∧
      ((State.reset.onSfu 0 (fun u => { u with loading := some 3 })).core 0).sfu.loading = some 3 :=
  ⟨⟨rfl, by decide, fun _ => by decide⟩, rfl, rfl, rfl⟩

theorem test_witness_Launches :
    (stepOf 3#8 0#8).launchTurn 0 { step := 0, words := wordsOf 3#8 0#8, param := [] } = true ∧
      (stepOf 3#8 0#8).launchRoom 0 { step := 0, words := wordsOf 3#8 0#8, param := [] } = true ∧
      (stepOf 3#8 0#8).launchCheck 0 { step := 0, words := wordsOf 3#8 0#8, param := [] } ≠ 0 := by decide +kernel

/-- A launch of one group of 32 threads with its code at address 0, 8 v registers and 4 row accumulators; `k` holds its mode bits. -/
def oneGroup (k : Nat) : Launch := { step := 0, words := [3 + k, 32 * 65536, 0, 16, 1 + 4 * 65536] ++ List.replicate 11 0, param := [] }

/-- Its group at address 0, whose lanes all execute. -/
def groupAt : Group :=
  { launch := 0, index := 0, vbase := List.range 8, exist := 0xFFFFFFFF, active := 0xFFFFFFFF, u := List.replicate 64 0,
    p := 0xFFFFFFFF :: List.replicate 7 0, resume := List.replicate 32 0 }

/-- The launch in core 0 with its group in slot 0, and the instruction `w` at address 0 in the instruction cache. -/
def tgState (k w : Nat) : State :=
  State.reset.onTg 0 (fun t => { t with
    launches := [oneGroup k], groups := [(0, some groupAt)], icache := [(0, leBytes 8 w ++ List.replicate 56 0#8)] })

/-- What serving it gives. -/
def tgAt (k w : Nat) : TgAt :=
  { c := 0, slot := 0, l := oneGroup k, mask := 0xFFFFFFFF, pc := 0, w := w,
    g := { groupAt with last := if (oneGroup k).indep then 0 else 31, run := 1 }, exec := 0xFFFFFFFF }

/-- A word of every opcode, with the type and the operand kinds that the opcode asks for, and the mode bits of a launch that allows it:
bit 8 independent mode, bit 11 GANG. -/
def tgWords : List (Nat × Nat) :=
  ([0x00, 0x01, 0x02, 0x03, 0x04, 0x05, 0x06, 0x07, 0x10, 0x11, 0x12, 0x13, 0x14, 0x15, 0x16, 0x17, 0x18, 0x19, 0x1A, 0x1B, 0x1C, 0x1D,
    0x1E, 0x1F, 0x30, 0x32, 0x33, 0x34, 0x35, 0x40, 0x41, 0x42, 0x43, 0x44, 0x50, 0x51, 0x63, 0x64, 0x71].map (fun o => (0, o))) ++
  ([0x20, 0x21, 0x22, 0x23, 0x24, 0x25, 0x26, 0x27, 0x31, 0x62].map (fun o => (0, o + 2 * 2 ^ 28))) ++
  [(256, 0x08), (2048, 0x09), (0, 0x36 + 2 ^ 46), (0, 0x52 + 4 * 2 ^ 28 + 2 ^ 46), (0, 0x60 + 2 * 2 ^ 28 + 2 * 2 ^ 36), (0, 0x61 + 2 ^ 31),
    (0, 0x70 + 2 ^ 31 + 4 * 2 ^ 53)]

theorem tgWords_are_all_opcodes : ∀ o < 256, isOpcode o = true → o ∈ tgWords.map (fun e => iOp e.2) := by decide +kernel

/-- Every opcode is served somewhere: the hypothesis of TgArithmetic, TgMovesAndConversions, TgMemory, TgSpecial and TgControl. -/
theorem test_witness_serves : ∀ e ∈ tgWords, (tgState e.1 e.2).serves 0 0 (iOp e.2) (tgAt e.1 e.2) := by
  intro e he
  have h : ∀ e ∈ tgWords, (tgState e.1 e.2).insAt 0 0 = e.2 ∧ groupAt.serve (oneGroup e.1).indep = some (0xFFFFFFFF, 0) ∧
      (oneGroup e.1).holds 0 = true ∧ ((tgState e.1 e.2).icacheHit 0 0).isSome = true ∧
      tgAt e.1 e.2 =
      { c := 0, slot := 0, l := oneGroup e.1, mask := 0xFFFFFFFF, pc := 0, w := (tgState e.1 e.2).insAt 0 0,
        g := { groupAt with active := 0xFFFFFFFF, last := if (oneGroup e.1).indep then (lowLane 0xFFFFFFFF).getD 0 else groupAt.last, run := 1 },
        exec := 0xFFFFFFFF &&& guardMask groupAt.p ((tgState e.1 e.2).insAt 0 0) } ∧
      isOpcode (iOp e.2) = true ∧ malformedIns (oneGroup e.1).vregs e.2 = false ∧ modeBad (oneGroup e.1) (iOp e.2) = false ∧ (tgAt e.1 e.2).upBadLane = none := by
    decide +kernel
  obtain ⟨_, h1, h2, h3, h4, h5, h6, h7, h8⟩ := h e he
  exact ⟨groupAt, oneGroup e.1, 0xFFFFFFFF, 0, rfl, rfl, rfl, h1, h2, Or.inl h3, h4, rfl, h5, h6, h7, rfl, h8⟩

/-- The lanes of that group execute, its launch owns row accumulator 0, and it is in group mode. -/
theorem test_witness_Tg_conditions :
    (tgAt 0 0).exec ≠ 0 ∧ (tgAt 0 0).exec < 4294967296 ∧ (tgAt 0 0).l.ownsRow 0 = true ∧ (tgAt 0 0).l.indep = false ∧ iDU (tgAt 0 0x10).w = false ∧
      (tgState 0 0).mem.parityOk = true ∧ (tgState 0 0).mem.nearBad = [] := by decide +kernel

/-- Camera pipeline 0 enabled. -/
def cameraOn : State := State.reset.set (fCamEn 0) 1

theorem test_witness_CameraFrames :
    cameraOn.running ∧ cameraOn.camOn 0 = true ∧ (cameraOn.cam 0).cur = none ∧ cameraOn.get (fSynced 0) = 0 :=
  ⟨rfl, by decide, rfl, by decide⟩

theorem test_witness_CameraFrames_open :
    let f : CamFrame := { id := 3, fsT := 0 }
    let s := cameraOn.onCam 0 (fun k => { k with cur := some f })
    s.camOn 0 = true ∧ (s.cam 0).cur = some f ∧ s.get (fSynced 0) = 0 := ⟨by decide, rfl, by decide⟩

/-- An edge whose window is open, one whose window has closed, and a packet of the pixel channel. -/
theorem test_witness_CameraFrames_edges :
    let s := (cameraOn.set (fSynced 0) 1).onCam 0 (fun k => { k with edges := [(7, 0)] })
    let late := { s with now := 5000000, tim := { s.tim with ct := 5000000 * 4294967296 } }
    s.camOn 0 = true ∧ s.get (fSynced 0) = 1 ∧ (s.cam 0).edges = [(7, 0)] ∧ 0 + (s.fsWin 0).1 ≤ s.ctNs ∧ s.ctNs ≤ 0 + (s.fsWin 0).2 ∧
      0 + (s.fsWin 0).2 ≤ late.ctNs ∧ s.onPixVc 0 { ecc := false, vc := 0, dt := 0 } = true := by decide +kernel

theorem test_witness_CameraPackets :
    let f : CamFrame := { id := 3, fsT := 0 }
    let s := (cameraOn.setReg (camReg 0 0x18) 0x00010001#32).onCam 0 (fun k => { k with cur := some f })
    s.camOn 0 = true ∧ (s.cam 0).cur = some f ∧ f.void = none ∧ (s.pset 0).due = none := ⟨by decide, rfl, rfl, rfl⟩

theorem test_witness_SettingsSets :
    let s := withReg (camReg 0 0x88) 0x00010100#32
    s.gateOpen 8 ∧ (s.cam 0).queue.length < 4 ∧ bits (s.reg (camReg 0 0x88)).toNat 16 16 ≠ 0 ∧ (s.cam 0).queue = [] ∧ (s.cam 0).run = none :=
  ⟨⟨rfl, by decide, fun h => absurd h (by decide)⟩, by decide, by decide, rfl, rfl⟩

theorem test_witness_GroundAndStripes : State.reset.grdActive 0 0 % 32 = 0 ∧ bits (State.reset.reg (grdReg 0 0x18)).toNat 8 2 = 0 := by
  decide +kernel

theorem test_witness_ObscurationAndParameters :
    State.reset.gateOpen 8 ∧ State.reset.get (fSetState 0) = 0 ∧ ((withReg (grdReg 0 0xE8) 1#32).reg (grdReg 0 0xE8)) ≠ 0#32 :=
  ⟨⟨rfl, by decide, fun h => absurd h (by decide)⟩, by decide, by decide⟩

theorem test_witness_Feeds :
    let s := State.reset.set (fFeedEn 0) 1
    s.gateOpen 12 ∧ s.get (fFeedEn 0) = 1 ∧ (s.feed 0).open_ = false ∧ State.reset.get (fFeedEn 0) = 0 ∧ State.reset.feedCause 0 ≠ 0 :=
  ⟨⟨rfl, by decide, fun h => absurd h (by decide)⟩, by decide, rfl, by decide, by decide +kernel⟩

/-- Feed 0 with the three lines of its first pair of rows ready for the CSI-2 transmitter. -/
def csiFeed : State :=
  let s := ((State.reset.setReg 0x20300000 1#32).setReg 0x20300004 1#32).setReg (feedReg 0 0) 0x00010009#32
  let s := s.setFeed 0 { open_ := true, consumed := 2, csi := { live := true, started := true } }
  { s with vid := { s.vid with csiOrder := [0, 0, 0] } }

theorem test_witness_Feeds_csi :
    csiFeed.csiOn 0 = true ∧ (csiFeed.feed 0).csi.live = true ∧ csiFeed.get (fFeedEn 0) = 1 ∧ csiFeed.clocked 13 = true ∧
      (csiFeed.feed 0).csi.sent < csiFeed.csiReady 0 ∧ csiFeed.csiNext = some 0 := by decide +kernel

/-- A feed whose line has not been ready longest waits (R422). -/
theorem test_csi_oldest_first :
    ({ csiFeed with vid := { csiFeed.vid with csiOrder := [1, 0, 0, 0], feeds := tblSet (fun _ => {}) csiFeed.vid.feeds 1 { csi := { live := true } } } }.setReg
      0x20300004 3#32).csiNext = some 1 := by decide +kernel

theorem test_witness_EpochBarrier :
    let e : PlanEpoch := { nodes := 1, first := 4 }
    let s := { State.reset with plans := [(1, e)] }
    e.covers 4 = true ∧ bit e.nodes s.node = true ∧ s.flagsReached e 4 = true ∧ e.sentReady = none ∧ s.plan 1 = e := by decide +kernel

theorem test_witness_Coherence :
    let s := { State.reset.set fStage 7 with ctl := { lines := [(5, some {})] } }
    s.running ∧ s.firmwareUp = true ∧ s.l2Has 5 = true ∧ s.ctl.lastOwner.length = 4 ∧ s.mem.ecc = [] ∧ s.ctl.reqs = [] ∧ (s.l2Line 5).storing = false :=
  ⟨rfl, by decide, by decide, rfl, rfl, rfl, by decide⟩

theorem test_witness_Boot : State.reset.running ∧ State.reset.get fStage = 0 ∧ State.reset.clearBusy = false := ⟨rfl, by decide, by decide⟩

theorem test_witness_Mailboxes :
    State.reset.running ∧ State.reset.kmp.outWait = [] ∧ State.reset.posted 0 0 0 = false := ⟨rfl, rfl, by decide⟩

/-- The chip in host push, with firmware running, and a SESSION_OPEN of the operator posted in slot 0 of MB0. -/
def opening : State :=
  let m := kmpMessage 0 0x0101 0x4000 0 [] none
  (((State.reset.set fStage 7).setSlot 0 0 0 m).slotFlag 0 0 0)

theorem test_witness_Mailboxes_consume :
    let m := opening.slotMessage 0 0 0
    opening.running ∧ opening.posted 0 0 0 = true ∧ opening.inTurn 0 0 0 = true ∧ opening.spiReady = true ∧ messageOk 0 m = true ∧
      opening.firmwareUp = true ∧ opening.loss.kmpHeld = false ∧ byteAt m 0 = 1 ∧ byteAt m 1 = 0 ∧ fieldAt m 2 2 = 0x0101 ∧
      fieldAt m 4 2 % 4096 = 0 ∧ bit (fieldAt m 4 2) 15 = false :=
  ⟨rfl, by decide +kernel, by decide +kernel, by decide +kernel, by decide +kernel, by decide +kernel, rfl, by decide +kernel, by decide +kernel,
    by decide +kernel, by decide +kernel, by decide +kernel⟩

theorem test_witness_Mailboxes_relay :
    let s := { opening with loss := { pole := some 5 } }
    s.executes = false ∧ s.loss.pole = some 5 ∧ s.kmp.relays = [] := ⟨by decide, rfl, rfl⟩

/-- A command that arrived on path 0 in a session of the operator. -/
def ask (code : Nat) (data : List Byte) : Req := { code := code, sid := 1, role := 4, data := data }

/-- The chip after reset with that command accepted. -/
def asked (code : Nat) : State := { State.reset with kmp := { accepted := [ask code []] } }

/-- The hypothesis of the statements on mailbox commands: a chip that has accepted a command of the catalogue serves it. -/
theorem test_witness_served : ∀ e ∈ catalogue, (asked e.1).served (ask e.1 []) State.reset := by
  intro e h
  refine ⟨rfl, ?_, ?_⟩ <;> revert e <;> decide +kernel

theorem test_witness_ServiceOutputs :
    let v : Service := { id := 0x1000, started := true, composer := 0 }
    let s := { State.reset with con := { services := [v] } }
    s.running ∧ s.service v.id = some v ∧ svcKind v.id = 1 ∧ v.started = true ∧ v.composer = s.node ∧ v.st = 2 :=
  ⟨rfl, rfl, by decide, rfl, rfl, rfl⟩

theorem test_witness_TwoPhaseCommit :
    let m : Model := { pkg := 1, tenant := 0, tier := 0, bytes := [], handle := 1, st := 1, plan := 1, phase := 1 }
    let b : Packet := goodPacket 9 [0x21#8, 0#8, 1#8, 0#8]
    let s := { State.reset with con := { models := [m] }, loss := { pole := some 0 } }
    s.running ∧ s.isPole = true ∧ s.planModel (beaconPlan b) = some m ∧ b.src < 64 ∧ m.phase = 1 := ⟨rfl, by decide, by decide, by decide, rfl⟩

theorem test_witness_LossDetection :
    let s := (linkIn 4).set fHbEn 1
    (State.reset.set fStage 7).pairRuns ∧ s.get fHbEn = 1 ∧ s.active 0 = true ∧ s.get (fSilent 0) = 0 := ⟨⟨rfl, by decide, rfl⟩, by decide, by decide, by decide⟩

theorem test_witness_PoleElection :
    let s := { State.reset with loss := { pole := some 0, formed := true, members := 1, detected := some 0, follows := some 2 } }
    s.running ∧ s.isPole = true ∧ s.loss.formed = true ∧ s.loss.beatSent ≠ some s.ctMs ∧ s.loss.detected.isSome = true ∧
      bit s.loss.members s.node = true ∧ 1 ≠ s.node := ⟨rfl, by decide, rfl, by decide, rfl, by decide, by decide⟩

theorem test_witness_MembershipChanges :
    let s := { State.reset with plans := [(1, { nodes := 3, fallback := some 1 })] }
    s.isPole = false ∧ (s.plan 1).nodes ≠ 0 ∧ (s.plan 1).end_ = none ∧ bit (s.plan 1).nodes 1 = true ∧ (s.plan 1).fallback.isSome = true := by
  decide +kernel

theorem test_witness_DynamicOutputs :
    let s := { State.reset.set fStage 7 with saf := { permitAt := some 0 } }
    s.pairRuns ∧ (0x5A5A#16).toNat = s.saf.permitNext ∧ s.saf.permitAt = some 0 ∧ s.now ≤ 0 + 2 * ms ∧ s.saf.running = false :=
  ⟨⟨rfl, by decide, rfl⟩, by decide, rfl, by decide, rfl⟩

theorem test_witness_MeasurementAndLifecycle :
    State.reset.running ∧ State.reset.get fExtBusy = 0 ∧ State.reset.get fRomlock = 0 ∧ State.reset.sec.ext = none := ⟨rfl, by decide, by decide, rfl⟩

theorem test_witness_FirmwareUpdate :
    State.reset.warningOn = false ∧ State.reset.loneGuest = false ∧ State.reset.sec.xfer = none ∧ fieldAt (List.replicate 56 0#8) 4 4 ≤ 4194304 := by
  decide +kernel

theorem test_witness_Calibration :
    let s := { State.reset with cal := { tasks := [{ task := 4, since := 0, todo := [(0, 1)] }] } }
    s.running ∧ State.reset.get fCalBusy = 0 ∧ State.reset.cal.runAt = none ∧ s.calSteps 4 0 0 1 0 = 0 := ⟨rfl, by decide, rfl, by decide⟩

theorem test_witness_Resets :
    let s := { later (10 * ms) with pwr := { chipReset := some 0 } }
    let u := { State.reset with pwr := { inReset := some 0 } }
    s.running ∧ s.pwr.chipReset = some 0 ∧ 0 + 10 * ms ≤ s.now ∧ u.pwr.inReset.isSome = true ∧ u.get fKind ≤ 2 ∧ u.reg 0x2300200C = 0#32 :=
  ⟨rfl, rfl, by decide, rfl, by decide, by decide⟩

theorem test_witness_PowerControl :
    let s := later ms
    s.running ∧ s.pwr.estAt + 100 * us ≤ s.now ∧ s.pwr.stepAt + ms ≤ s.now ∧ (s.reg aPower).toNat ≤ s.get fPmax :=
  ⟨rfl, by decide, by decide, by decide⟩

theorem test_witness_RegisterAccess :
    (regFind 0x21008008).isSome = true ∧ (∃ d, regFind 0x21008008 = some d ∧ d.wo1 = 0 ∧ d.rwl = 0) ∧ beyondReach 1 0x24000000 ∧
      State.reset.windowOf 0x10440000 = .none := ⟨by decide, ⟨_, rfl, by decide, by decide⟩, Or.inl (by decide), by decide⟩

theorem test_witness_EthernetPorts :
    let s := State.reset.set (fEthEn 0) 1
    s.gateOpen 14 ∧ s.get (fEthEn 0) = 1 ∧ State.reset.get (fEthEn 0) = 0 ∧ State.reset.mac 0 = 0 ∧ (1#32).getLsbD 0 = true :=
  ⟨⟨rfl, by decide, fun h => absurd h (by decide)⟩, by decide, by decide, by decide, rfl⟩

end Sys2Proof.Tests
end

/-! Register accesses without a row of their own (O58): writes outside the core windows, plain registers, the windows of a core, and
the latch of a 64-bit pair. -/

namespace Sys2Proof.Machine

/-! ### Addresses outside the core windows -/

theorem within_eq_false {a lo hi : Nat} (h : a < lo ∨ hi < a) : within a lo hi = false := by
  simp only [within, Bool.and_eq_false_iff, decide_eq_false_iff_not]
  omega

/-- No access outside the core windows waits for a core-local reset (R690). -/
theorem State.settle_of_not_core (s : State) {a : Nat} (h : within a 0x10000000 0x17FFFFFF = false) : s.settle a = s := by
  simp [State.settle, h]

/-- Outside the core windows no address lies in a core's register space (Table 25-2). -/
theorem State.windowOf_ne_core (s : State) {a : Nat} (h : within a 0x10000000 0x17FFFFFF = false) (c : Nat) :
    s.windowOf a ≠ .core c := by
  unfold State.windowOf
  simp only [h, Bool.false_eq_true, if_false]
  repeat' split
  all_goals exact nofun

/-- Outside the core windows a register access is performed where the address is a register's, its block is clocked and the agent
reaches it (R714, R715, R720). -/
theorem State.regErr_eq_zero_iff (s : State) (ag : Agent) (write : Bool) {a : Nat} (h : within a 0x10000000 0x17FFFFFF = false) :
    s.regErr ag write a = 0 ↔ s.windowOf a = .reg ∧ s.gated a = false ∧ s.reaches ag write a = true := by
  have hc := s.windowOf_ne_core h
  unfold State.regErr
  split
  · next c e => exact absurd e (hc c)
  · next e => cases hg : s.gated a <;> cases hr : s.reaches ag write a <;> simp [e]
  · next e => exact ⟨fun h2 => absurd h2 (by decide), fun h => absurd h.1 e⟩

/-! ### Register writes that are refused, and that are granted -/

/-- Outside the core windows a write is refused unless it is of an aligned word at a register whose block is clocked and that the
agent reaches (R714 to R716, R720). -/
theorem exec_registerWrite_refused {ag : Fin 4} {a : Nat} {s : State} (v : Word) (hs : s.running)
    (hc : within a 0x10000000 0x17FFFFFF = false)
    (h : ¬ (a % 4 = 0 ∧ s.windowOf a = .reg ∧ s.gated a = false ∧ s.reaches (agentOf s ag) true a = true)) :
    exec (.registerWrite ag a v) s = .next s := by
  rw [← s.regErr_eq_zero_iff _ _ hc] at h
  show execRegisterWrite ag a v s = .next s
  rw [execRegisterWrite, State.run_running _ _ hs, s.settle_of_not_core hc]
  dsimp only
  rw [if_neg]
  simp only [Bool.and_eq_true, decide_eq_true_eq]
  exact fun g => h g.1

/-- A service core's write outside the core windows is performed at a register of a clocked block that no monitor owns (R715, R717). -/
theorem exec_registerWrite_service {a : Nat} {s : State} (v : Word) (hs : s.running) (hc : within a 0x10000000 0x17FFFFFF = false)
    (h4 : a % 4 = 0) (hw : s.windowOf a = .reg) (hg : s.gated a = false) (hr : s.reaches .service true a = true) :
    exec (.registerWrite 1 a v) s = .next (s.regWrite s.firmware a v) := by
  have he : s.regErr .service true a = 0 := (s.regErr_eq_zero_iff _ _ hc).mpr ⟨hw, hg, hr⟩
  show execRegisterWrite 1 a v s = _
  rw [execRegisterWrite, State.run_running _ _ hs, s.settle_of_not_core hc]
  simp [agentOf, Agent.who, h4, he]

/-- What the statements call beyond an agent's reach is what Table 25-4 refuses it. -/
theorem State.reaches_of_beyondReach (s : State) {ag : Fin 4} {a : Nat} (h : beyondReach ag a) :
    s.reaches (agentOf s ag) true a = false := by
  match ag with
  | 0 =>
    have h : ¬ (within a 0x24000000 0x24000FFF = true ∨ within a 0x24002000 0x24002FFF = true) := h
    show (within a 0x24000000 0x24000FFF || within a 0x24002000 0x24002FFF) = false
    exact Bool.eq_false_iff.mpr fun e => h ((Bool.or_eq_true _ _).mp e)
  | 1 =>
    have h : within a 0x24000000 0x24000FFF = true ∨ within a 0x24002000 0x24002FFF = true := h
    show (!within a 0x24000000 0x24000FFF && !within a 0x24002000 0x24002FFF) = false
    rw [← Bool.not_or, (Bool.or_eq_true _ _).mpr h]
    rfl
  | 2 =>
    have h : within a 0x24000000 0x24002FFF = true ∨ within a 0x25000000 0x25000FFF = true := h
    show (!within a 0x24000000 0x24002FFF && !within a 0x25000000 0x25000FFF) = false
    rw [← Bool.not_or, (Bool.or_eq_true _ _).mpr h]
    rfl
  | 3 =>
    have h : ¬ within a 0x26000000 0x260000FF = true := h
    show within a 0x26000000 0x260000FF = false
    exact Bool.eq_false_iff.mpr h

/-! ### Plain registers -/

/-- The windows that plain registers lie in. -/
theorem plainRegister_windows {a : Nat} (h : plainRegister a = true) :
    (0x21008000 ≤ a ∧ a ≤ 0x21009FFF) ∨ (0x23000000 ≤ a ∧ a ≤ 0x23002FFF) ∨ (0x25000000 ≤ a ∧ a ≤ 0x25000FFF) ∨
      (0x26000000 ≤ a ∧ a ≤ 0x26000FFF) ∨ (0x27000000 ≤ a ∧ a ≤ 0x2700FFFF) := by
  simp only [plainRegister, within, Bool.and_eq_true, Bool.or_eq_true, decide_eq_true_eq, or_assoc] at h
  exact h.1.1

/-- The registers with effects of their own are not plain. -/
theorem plainRegister_not_special {a : Nat} (h : plainRegister a = true) :
    a ≠ aGate ∧ a ≠ 0x23000028 ∧ a ≠ 0x23001000 ∧ a ≠ 0x23002010 ∧ a ≠ 0x23002024 ∧ a ≠ 0x25000330 ∧ a ≠ 0x27000004 ∧
      a ≠ 0x27001004 ∧ a ≠ 0x27002004 ∧ a ≠ 0x27002104 ∧ a ≠ 0x27003000 ∧ a ≠ 0x27003004 := by
  rw [plainRegister, Bool.and_assoc, Bool.and_eq_true, Bool.and_eq_true] at h
  simpa using h.2.1

/-- The registers that post to a mailbox and that clear its outgoing slots are not plain. -/
theorem plainRegister_not_mailbox {a : Nat} (h : plainRegister a = true) :
    (within a 0x26000000 0x260003FF && decide (a % 0x100 = 0)) = false ∧
      (within a 0x26000000 0x260003FF && decide (a % 0x100 = 8)) = false := by
  rw [plainRegister, Bool.and_eq_true] at h
  cases hw : within a 0x26000000 0x260003FF
  · simp
  · simpa [hw] using h.2

/-- A plain register stands in a register window, which no bit of `CLK_GATE` covers and whose writes a service core reaches. -/
theorem State.plainRegister_granted (s : State) {a : Nat} (h : plainRegister a = true) :
    s.windowOf a = .reg ∧ s.gated a = false ∧ s.reaches .service true a = true := by
  have hw := plainRegister_windows h
  refine ⟨?_, ?_, ?_⟩
  · have hr : regWindows.any (fun w => within a w.1 w.2) = true := by
      simp only [regWindows, within, List.any_cons, List.any_nil, Bool.or_eq_true, Bool.and_eq_true, decide_eq_true_eq]
      omega
    have hs : isSram a = false := by
      simp only [isSram, Bool.and_eq_false_iff, decide_eq_false_iff_not]
      omega
    have h0 : ¬ a < 0x10000 := by omega
    simp [State.windowOf, hr, hs, h0, within_eq_false (a := a) (lo := 0x10000000) (hi := 0x17FFFFFF) (by omega),
      within_eq_false (a := a) (lo := 0x26001000) (hi := 0x260013FF) (by omega)]
  · have hg : gateOf a = none := by
      unfold gateOf
      iterate 6 rw [if_neg (by rw [within_eq_false (by omega)]; decide)]
    simp [State.gated, hg]
  · simp [State.reaches, within_eq_false (a := a) (lo := 0x24000000) (hi := 0x24000FFF) (by omega),
      within_eq_false (a := a) (lo := 0x24002000) (hi := 0x24002FFF) (by omega)]

/-- A service core's write of a plain register is performed (R715, R717). -/
theorem exec_registerWrite_plainRegister {a : Nat} {s : State} (v : Word) (hs : s.running) (h4 : a % 4 = 0)
    (h : plainRegister a = true) : exec (.registerWrite 1 a v) s = .next (s.regWrite s.firmware a v) := by
  obtain ⟨hw, hg, hr⟩ := s.plainRegister_granted h
  have hp := plainRegister_windows h
  exact exec_registerWrite_service v hs (within_eq_false (by omega)) h4 hw hg hr

/-- A performed write of a plain register is one by its access codes; one of a fence register keeps the old value for the packets of
its cycle beside it (R659). -/
theorem State.regWrite_plainRegister (s : State) (who : Who) {a : Nat} (v : Word) (h : plainRegister a = true) :
    s.regWrite who a v = if within a 0x25000400 0x250004FF then s.fencePut who a v else s.plainWrite who a v := by
  have hw := plainRegister_windows h
  obtain ⟨h1, h2, h3, h4, h5, h6, h7, h8, h9, h10, h11, h12⟩ := plainRegister_not_special h
  obtain ⟨hm0, hm8⟩ := plainRegister_not_mailbox h
  have hb : s.regWrite who a v = s.blockWrite who a v := by
    unfold State.regWrite
    iterate 6 rw [if_neg (by rw [within_eq_false (by omega)]; simp)]
  have s1 : a ≠ 0x24000010 := by omega
  have s2 : a ≠ 0x24000014 := by omega
  have s3 : a ≠ 0x24000020 := by omega
  have s4 : a ≠ 0x24002010 := by omega
  rw [hb]
  simp only [State.blockWrite, h1, h2, h3, h4, h5, h6, h7, h8, h9, h10, h11, h12, hm0, hm8, s1, s2, s3, s4, if_false,
    Bool.or_self, decide_false, Bool.false_eq_true]

/-! ### The access codes of a register without WO1 and RWL fields -/

/-- The word that a write of `v` leaves where `old` stood, in a register without WO1 and RWL fields: RW bits take the written bit, W1C
bits are cleared by a one unless `raised` set them in this cycle (Table 0-2, R14). -/
def RegDesc.writtenWord (d : RegDesc) (old raised v : Word) : Word :=
  (old &&& ~~~ (BitVec.ofNat 32 d.rw ||| (BitVec.ofNat 32 d.w1c &&& v &&& ~~~ raised))) ||| (v &&& BitVec.ofNat 32 d.rw)

theorem RegDesc.getLsbD_writtenWord (d : RegDesc) (old raised v : Word) {k : Nat} (hk : k < 32) :
    (d.writtenWord old raised v).getLsbD k =
      if bit d.rw k then v.getLsbD k
        else if bit d.w1c k then old.getLsbD k && (!v.getLsbD k || raised.getLsbD k) else old.getLsbD k := by
  simp only [RegDesc.writtenWord, BitVec.getLsbD_or, BitVec.getLsbD_and, BitVec.getLsbD_not, BitVec.getLsbD_ofNat, hk, decide_true,
    Bool.true_and, bit]
  by_cases hw : d.rw.testBit k = true <;> by_cases hc : d.w1c.testBit k = true <;> simp [hw, hc]

/-- A write at a reserved address is ignored (R11). -/
theorem State.putReg_reserved (s : State) (who : Who) (lock : Bool) {a : Nat} (v : Word) (h : regFind a = none) :
    s.putReg who lock a v = s := by
  simp [State.putReg, h]

/-- A write of a register without WO1 and RWL fields follows its access codes and violates nothing, locked or not (Table 0-2). -/
theorem State.putReg_of_no_locks (s : State) (who : Who) (lock : Bool) {a : Nat} (v : Word) {d : RegDesc} (h : regFind a = some d)
    (h1 : d.wo1 = 0) (hl : d.rwl = 0) :
    s.putReg who lock a v = { s.setReg a (d.writtenWord (s.reg a) (s.justRaised a) v) with
      written := tblSet wordZero s.written a (tblGet wordZero s.written a) } := by
  simp [State.putReg, h, h1, hl, RegDesc.writtenWord]

/-- What the write of a plain register without WO1 and RWL fields leaves: its word by the access codes, and, for a fence register, the
value that packets of this cycle still meet (R659). -/
theorem State.regWrite_plainRegister_no_locks (s : State) (who : Who) {a : Nat} (v : Word) {d : RegDesc} (hp : plainRegister a = true)
    (h : regFind a = some d) (h1 : d.wo1 = 0) (hl : d.rwl = 0) :
    ∃ olds at_, s.regWrite who a v = { s.setReg a (d.writtenWord (s.reg a) (s.justRaised a) v) with
        written := tblSet wordZero s.written a (tblGet wordZero s.written a)
        sec := { s.sec with fenceOld := olds, fenceAt := at_ } } ∧
      (within a 0x25000400 0x250004FF = false → olds = s.sec.fenceOld ∧ at_ = s.sec.fenceAt) := by
  rw [s.regWrite_plainRegister who v hp]
  cases hf : within a 0x25000400 0x250004FF
  · refine ⟨s.sec.fenceOld, s.sec.fenceAt, ?_, fun _ => ⟨rfl, rfl⟩⟩
    simpa [State.plainWrite] using s.putReg_of_no_locks who (s.locked a) v h h1 hl
  · refine ⟨(s.fencePut who a v).sec.fenceOld, (s.fencePut who a v).sec.fenceAt, ?_, fun e => absurd e (by decide)⟩
    simp only [if_true, State.fencePut, h, s.putReg_of_no_locks who false v h h1 hl, Option.isNone_some, Bool.false_eq_true, if_false]
    rfl

/-! ### Addresses within the core windows -/

/-- The window of an offset into a core (Table 25-2). -/
theorem State.windowOf_core (s : State) (c : Fin 8) {o : Nat} (ho : o < 0x1000000) :
    s.windowOf (0x10000000 + 0x1000000 * c.val + o) =
      if o < 0x400000 then .pal c.val
      else if o < 0x440000 then .acc c.val
      else if within o 0x500000 0x51FFFF && decide (o < 0x500000 + 256 * granuleCount (s.core c.val).tg.split) then .store c.val
      else if within o 0xF00000 0xF0FFFF then .core c.val
      else .none := by
  have hc := c.isLt
  have h0 : ¬ 0x10000000 + 0x1000000 * c.val + o < 0x10000 := by omega
  have hs : isSram (0x10000000 + 0x1000000 * c.val + o) = false := by
    simp only [isSram, Bool.and_eq_false_iff, decide_eq_false_iff_not]
    omega
  have hi : within (0x10000000 + 0x1000000 * c.val + o) 0x10000000 0x17FFFFFF = true := by
    simp only [within, Bool.and_eq_true, decide_eq_true_eq]
    omega
  have hd : (0x10000000 + 0x1000000 * c.val + o - 0x10000000) / 0x1000000 = c.val := by omega
  have hm : (0x10000000 + 0x1000000 * c.val + o) % 0x1000000 = o := by omega
  simp only [State.windowOf, h0, hs, hi, hd, hm, if_false, if_true, Bool.false_eq_true]

/-- Offsets into a core that Table 25-2 gives no window. -/
theorem State.windowOf_core_hole (s : State) (c : Fin 8) {o : Nat}
    (h : within o 0x440000 0x4FFFFF = true ∨ within o 0x520000 0xEFFFFF = true ∨ within o 0xF10000 0xFFFFFF = true) :
    s.windowOf (0x10000000 + 0x1000000 * c.val + o) = .none := by
  simp only [within, Bool.and_eq_true, decide_eq_true_eq] at h
  rw [s.windowOf_core c (by omega), if_neg (by omega), if_neg (by omega), within_eq_false (by omega), within_eq_false (by omega)]
  rfl

/-! ### The latch of a 64-bit pair -/

/-- The LO words that latch, by their blocks (R718). -/
theorem latchingLo_cases {a : Nat} (h : latchingLo a = true) : a = 0x23000048 ∨
    ((0x20201000 ≤ a ∧ a ≤ 0x20204FFF) ∧ ((a - 0x20201000) % 0x800 = 0x38 ∨ (a - 0x20201000) % 0x800 = 0xF0)) ∨
    ((0x20100000 ≤ a ∧ a ≤ 0x2013FFFF) ∧ (a % 0x10000 = 0xE0 ∨ a % 0x10000 = 0x110)) ∨
    ((0x22000000 ≤ a ∧ a ≤ 0x22001FFF) ∧ (a % 0x1000 = 0x80 ∨ a % 0x1000 = 0x88)) := by
  simpa [latchingLo, within, or_assoc] using h

/-- The HI word of a pair latches nothing. -/
theorem latchingLo_hi {a : Nat} (h : latchingLo a = true) : latchingLo (a + 4) = false := by
  have hc := latchingLo_cases h
  cases hn : latchingLo (a + 4) with
  | false => rfl
  | true =>
    have hd := latchingLo_cases hn
    omega

/-- Reading neither word of a pair has an effect beside the latch: it is no LO word of CT, frame record or receive FIFO. -/
theorem latchingLo_no_pop {a : Nat} (h : latchingLo a = true) {b : Nat} (hb : b = a ∨ b = a + 4) :
    b ≠ 0x23000010 ∧ (within b 0x20000000 0x20003FFF && decide (b % 0x1000 = 0x100)) = false ∧
      (decide (b = 0x27002008) || decide (b = 0x27002108)) = false := by
  have hc := latchingLo_cases h
  refine ⟨by omega, by rw [within_eq_false (by omega)]; rfl, ?_⟩
  simp only [Bool.or_eq_false_iff, decide_eq_false_iff_not]
  omega

/-- Reading the LO word of a pair gives its value and latches the HI word (R718). -/
theorem State.regRead_lo (s : State) {a : Nat} (h : latchingLo a = true) :
    s.regRead a = ({ s with latch := tblSet (fun _ => none) s.latch (a + 4) (some (s.reg (a + 4))) }, s.reg a) := by
  obtain ⟨h1, h2, h3⟩ := latchingLo_no_pop h (.inl rfl)
  simp [State.regRead, h1, h2, h3, h]

/-- While the HI word of a pair is latched, reading it gives the latched value (R718). -/
theorem State.regRead_hi (s : State) {a : Nat} {w : Word} (h : latchingLo a = true)
    (hl : tblGet (fun _ => none) s.latch (a + 4) = some w) : (s.regRead (a + 4)).2 = w := by
  obtain ⟨h1, h2, h3⟩ := latchingLo_no_pop h (.inr rfl)
  simp only [State.regRead, h1, h2, h3, latchingLo_hi h, hl, if_false, Bool.false_eq_true]

/-- The command that reads a LO word has the effect of that read, and none at other addresses (R718). -/
theorem exec_pairLoRead (a : Nat) {s : State} (hs : s.running) :
    exec (.pairLoRead a) s = .next (if latchingLo a then (s.regRead a).1 else s) := by
  show execPairLoRead a s = _
  exact s.run_running _ hs

/-- Settles O58: the register accesses without a row of their own, each clause by the lemma about its window, access or latch. -/
theorem registerAccess : Obligations.RegisterAccess := by
  refine ⟨?_, ?_, ?_, ?_, ?_⟩
  · intro ag a v s hs ha hbad
    refine ⟨s, exec_registerWrite_refused v hs (within_eq_false (by omega)) ?_, rfl⟩
    rintro ⟨h4, hw, hg, hr⟩
    rcases hbad with h | h | h | h
    · exact h h4
    · exact h hw
    · simp [hg] at h
    · simp [s.reaches_of_beyondReach h] at hr
  · intro a v s hs h4 hp hf
    refine ⟨_, exec_registerWrite_plainRegister v hs h4 hp, ?_⟩
    rw [s.regWrite_plainRegister _ v hp]
    simp [State.fencePut, State.plainWrite, hf, s.putReg_reserved]
  · intro a v s d hs h4 hp hf h1 hl
    obtain ⟨olds, at_, hw, hfence⟩ := s.regWrite_plainRegister_no_locks s.firmware v hp hf h1 hl
    have hreg : ∀ b, (s.regWrite s.firmware a v).reg b = (s.setReg a (d.writtenWord (s.reg a) (s.justRaised a) v)).reg b :=
      fun b => by rw [hw]; rfl
    refine ⟨_, exec_registerWrite_plainRegister v hs h4 hp, by rw [hw]; rfl, by rw [hw], ?_, ?_, ?_⟩
    · intro hn
      obtain ⟨ho, ht⟩ := hfence hn
      rw [hw, ho, ht]
    · intro b hb
      rw [hreg, s.reg_setReg_ne _ hb.symm]
    · intro k hk
      rw [hreg, s.reg_setReg_self, d.getLsbD_writtenWord _ _ _ hk]
  · intro c o s
    exact ⟨s.windowOf_core_hole c, fun ho => by rw [s.windowOf_core c (by omega), if_pos (by omega)]⟩
  · intro a s hs
    refine ⟨fun h => ⟨_, exec_pairLoRead a hs, ?_⟩, fun h => ⟨_, exec_pairLoRead a hs, by simp [h]⟩⟩
    rw [if_pos h, s.regRead_lo h]
    exact ⟨rfl, rfl, fun u hu => u.regRead_hi h (by rw [hu, tblGet_tblSet_self])⟩

end Sys2Proof.Machine

/-! The tick of an empty queue (O3): what a quiet chip does in a cycle, and the arbiter that O3 leaves out. -/

namespace Sys2Proof.Machine

/-! ### The parts of a tick in which nothing is in progress -/

/-- A fold of steps that each leave its start as it is leaves it as it is. -/
theorem foldl_eq_start {α β : Type} {f : α → β → α} {a : α} {l : List β} (h : ∀ b ∈ l, f a b = a) : l.foldl f a = a := by
  induction l with
  | nil => rfl
  | cons b l ih =>
    rw [List.foldl_cons, h b (by simp)]
    exact ih fun c hc => h c (by simp [hc])

/-- No frame on its way out and no loopback: a cycle brings the port nothing (R62, R82). -/
theorem State.portTick_idle {s : State} {p : Nat} (hb : (s.port p).building = none) (ht : s.get (fLnkTest p) ≠ 2) :
    s.portTick p = s := by
  have hf : s.frameTick p = s := by
    unfold State.frameTick
    exact foldl_eq_start fun _ _ => by simp [hb]
  rw [State.portTick, hf, State.loopTick, if_neg ht]

/-- No word waits for its re-read (R166). -/
theorem State.rereadAll_idle {s : State} (hr : s.mem.reread = []) (hf : s.mem.flips = []) : s.rereadAll = s := by
  unfold State.rereadAll
  rw [foldl_eq_start]
  · dsimp only
    rw [← hr, ← hf]
  · intro c _
    simp [State.rereads, hr]

theorem State.tensorTick_idle {s : State} {c : Nat} (h : (s.core c).seq.tensor = []) : s.tensorTick c = s := by
  simp [State.tensorTick, h]

theorem State.sfuTick_idle {s : State} {c : Nat} (h : (s.core c).sfu.loading = none) : s.sfuTick c = s := by
  simp [State.sfuTick, h]

/-- The arbiter of a core's DMA engine names channels that the engine has: a high-priority one as served last, and any as the one that
keeps its rank (R182, R196). -/
def State.arbiterSound (s : State) (c : Nat) : Prop :=
  ((s.core c).dma.lastHigh = 6 ∨ (s.core c).dma.lastHigh = 7) ∧ ∀ ch, (s.core c).dma.keep = some ch → ch < 8

/-- A channel without a packet has no beat ready (R196). -/
theorem State.beatReady_idle {s : State} {c ch : Nat} (h : (s.chan c ch).part = none) : s.beatReady c ch = false := by
  simp [State.beatReady, h]

theorem State.highBeat_idle {s : State} {c : Nat} (ha : s.arbiterSound c) (h : ∀ ch < 8, (s.chan c ch).part = none) :
    s.highBeat c = none := by
  have hr : ∀ ch < 8, s.beatReady c ch = false := fun ch hc => s.beatReady_idle (h ch hc)
  obtain ⟨hl | hl, -⟩ := ha <;> simp [State.highBeat, hl, hr]

theorem State.ordBeat_idle {s : State} {c : Nat} (ha : s.arbiterSound c) (h : ∀ ch < 8, (s.chan c ch).part = none) :
    s.ordBeat c = none := by
  have hr : ∀ ch < 8, s.beatReady c ch = false := fun ch hc => s.beatReady_idle (h ch hc)
  have hk : (s.core c).dma.keep.filter (s.beatReady c) = none :=
    Option.filter_eq_none_iff.mpr fun ch hc => by simp [hr ch (ha.2 ch hc)]
  have hn : (List.range 6).filter (s.beatReady c) = [] :=
    List.filter_eq_nil_iff.mpr fun ch hc => by simp [hr ch (by have := List.mem_range.mp hc; omega)]
  rw [State.ordBeat, hk, hn]
  rfl

/-- A DMA engine without a packet, a note or a filled slot does nothing in a cycle (R196). -/
theorem State.dmaCycle_idle {s : State} {c : Nat} (ha : s.arbiterSound c) (h : ∀ ch < 8, (s.chan c ch).part = none)
    (hn : (s.core c).dma.notes = []) (hl : (s.core c).dma.land = []) : s.dmaCycle c = s := by
  have hb : s.dmaBeat c = s := by simp [State.dmaBeat, s.highBeat_idle ha h, s.ordBeat_idle ha h, hn]
  simp [State.dmaCycle, hb, State.landBeat, hl, nextLand]

/-- Nothing at the injection stage: nothing passes it (R199). -/
theorem State.injectNext_idle {s : State} (h : s.fab.inject = []) (stream : Bool) : s.injectNext stream = s := by
  have hn : nextInject [] stream = none := rfl
  rw [State.injectNext, h, hn]

theorem State.parkTick_idle {s : State} (hh : s.pwr.parkHeld = false) (hc : s.pwr.parkCal = false) : s.parkTick = s := by
  simp [State.parkTick, hh, hc]

/-- The line of PARK_REQ is neither named nor waited on (R518). -/
theorem State.parkWatch_idle {s : State} (hw : s.isPole = false ∨ bit (s.cfgField 183 1) 0 = false) (hp : s.pwr.parkSince = none) :
    s.parkWatch = s := by
  rcases hw with hw | hw <;> simp [State.parkWatch, hw, hp]

theorem State.pairTick_idle {s : State} (h : s.mem.ecc = []) : s.pairTick = s := by
  simp [State.pairTick, h]

/-- The alive counters stand between milliseconds (R619). -/
theorem State.aliveTick_idle {s : State} (h : s.firmwareUp = true → s.now / ms = (s.now - 24) / ms) : s.aliveTick = s := by
  cases hf : s.firmwareUp
  · simp [State.aliveTick, hf]
  · simp [State.aliveTick, hf, h hf]

theorem State.owTick_idle {s : State} (h : s.saf.running = false) : s.owTick = s := by
  simp [State.owTick, h]

/-! ### A tick of a quiet chip -/

/-- On a quiet chip whose arbiters are sound, time alone advances in a cycle (R117, R122). -/
theorem State.tick_quiet {s : State} (hr : s.running) (hq : s.quiet) (ha : ∀ c < 8, s.arbiterSound c) : s.tick = s.later := by
  obtain ⟨hport, hre, hfl, hcore, hinj, hheld, hcal, hecc, hsaf, hpole, hsince, hms⟩ := hq
  have hports : (List.range 6).foldl State.portTick s.later = s.later :=
    foldl_eq_start fun p hp => by
      obtain ⟨hb, ht⟩ := hport p (List.mem_range.mp hp)
      exact State.portTick_idle (s := s.later) hb ht
  have hcores : (List.range 8).foldl (fun s c => (s.tensorTick c).sfuTick c) s.later = s.later :=
    foldl_eq_start fun c hc => by
      obtain ⟨ht, hs, -⟩ := hcore c (List.mem_range.mp hc)
      rw [State.tensorTick_idle (s := s.later) ht, State.sfuTick_idle (s := s.later) hs]
  have hdma : s.later.dmaTick = s.later := by
    have hd : (List.range 8).foldl (fun s c => ((s.dmaCycle c).dmaCycle c).dmaCycle c) s.later = s.later :=
      foldl_eq_start fun c hc => by
        obtain ⟨-, -, hn, hl, hp⟩ := hcore c (List.mem_range.mp hc)
        have h1 : s.later.dmaCycle c = s.later := State.dmaCycle_idle (s := s.later) (ha c (List.mem_range.mp hc)) hp hn hl
        rw [h1, h1, h1]
    rw [State.dmaTick, hd, State.injectNext_idle (s := s.later) hinj, State.injectNext_idle (s := s.later) hinj]
  rw [State.tick, if_neg (by rw [hr]; decide)]
  dsimp only
  rw [hports, State.rereadAll_idle (s := s.later) hre hfl, hcores, hdma, State.parkTick_idle (s := s.later) hheld hcal,
    State.parkWatch_idle (s := s.later) hpole hsince, State.pairTick_idle (s := s.later) hecc, State.aliveTick_idle (s := s.later) hms,
    State.owTick_idle (s := s.later) hsaf]

/-- The first clause of O3 holds on a quiet chip whose arbiters are sound. -/
theorem step_empty_quiet {s : State} (hp : s.pending = []) (hr : s.running) (hq : s.quiet) (ha : ∀ c < 8, s.arbiterSound c) :
    step s = .next { s with now := s.now + 24, tim := { s.tim with ct := s.tim.ct + s.inc } } := by
  have ht : step s = .next s.tick := by rw [step, hp]
  rw [ht, s.tick_quiet hr hq ha, State.later]

/-- The chip after reset meets the premises of `step_empty_quiet`. -/
theorem step_reset : step State.reset =
    .next { State.reset with now := State.reset.now + 24, tim := { State.reset.tim with ct := State.reset.tim.ct + State.reset.inc } } :=
  step_empty_quiet rfl rfl (by unfold State.quiet; decide +kernel) fun _ _ => ⟨.inr rfl, fun _ h => nomatch h⟩

/-! ### An arbiter that is not sound -/

/-- A chip whose DMA engine 0 last served "channel 5" as a high-priority one, so that 13 - 5 = 8 is next, and which holds a packet of a
channel 8. `State.quiet` speaks of channels 0 to 7, so that the chip is quiet. -/
def strayArbiter : State :=
  { State.reset with cores := [(0, {
      dma := { lastHigh := 5 }
      chans := [(8, { cur := some { words := [], ten := 7, step := 0 }, part := some { src := 0, dst := 0, len := 1, data := [0#8] } })] })] }

theorem strayArbiter_quiet : strayArbiter.quiet := by
  unfold State.quiet
  decide +kernel

/-- In the next cycle the engine serves channel 8. -/
theorem strayArbiter_tick : (strayArbiter.tick.core 0).dma.lastHigh = 8 := by decide +kernel

/-- Refutes O3: `State.quiet` bounds neither `lastHigh` nor the channels that a packet stands on, so that the tick of
`strayArbiter`, a quiet chip, serves a beat. The state is one that the model does not come to by itself: `State.dmaBeat`, which alone
writes `lastHigh`, chooses 6 or 7 after 6 or 7. With sound arbiters the clause holds (`step_empty_quiet`). -/
theorem not_ticksAndReset : ¬ Obligations.TicksAndReset := by
  intro ⟨hticks, _⟩
  have hstep : Host.Outcome.next strayArbiter.tick = .next strayArbiter.later := (hticks strayArbiter rfl).1 rfl strayArbiter_quiet
  have hlast := strayArbiter_tick
  rw [Host.Outcome.next.inj hstep] at hlast
  exact absurd hlast (by decide)

end Sys2Proof.Machine

/-! Epochs, formation and vehicle time (O11): the bytes of a beacon, the register pairs of the base, and what the commands of 01 and 04
about them do. -/

namespace Sys2Proof.Machine

/-! ### Little-endian fields -/

theorem leNat_lt (bs : List Byte) : leNat bs < 256 ^ bs.length := by
  induction bs with
  | nil => simp [leNat]
  | cons b bs ih =>
    have hb : b.toNat < 256 := b.isLt
    rw [leNat, List.length_cons, Nat.pow_succ]
    omega

@[simp] theorem length_slice (bs : List Byte) (off n : Nat) : (slice bs off n).length = n := by
  simp only [slice, List.length_append, List.length_replicate]
  exact Nat.add_sub_cancel' (List.length_take_le n _)

/-- A field of `n` bytes is a number of `8 n` bits. -/
theorem fieldAt_lt (bs : List Byte) (off n : Nat) : fieldAt bs off n < 256 ^ n := by
  simpa [fieldAt] using leNat_lt (slice bs off n)

@[simp] theorem length_leBytes (n v : Nat) : (leBytes n v).length = n := by
  induction n generalizing v with
  | zero => rfl
  | succ n ih => simp [leBytes, ih]

/-- The bytes of a number read as that number, cut to their width (R7). -/
theorem leNat_leBytes (n v : Nat) : leNat (leBytes n v) = v % 256 ^ n := by
  induction n generalizing v with
  | zero => simp [leNat, leBytes, Nat.mod_one]
  | succ n ih => rw [leBytes, leNat, ih, BitVec.toNat_ofNat, Nat.pow_succ' (m := 256), Nat.mod_mul]

/-- The bytes of a string that stand behind `off` others are its slice at `off`. -/
theorem slice_append_middle (xs ys zs : List Byte) : slice (xs ++ ys ++ zs) xs.length ys.length = ys := by
  simp [slice]

theorem fit_of_length {n : Nat} {bs : List Byte} (h : bs.length = n) : fit n bs = bs := by
  subst h
  simp [fit, slice]

/-! ### Beacons (R90) -/

@[simp] theorem length_beaconBytes (ty : Nat) (x : List Byte) (w : Nat) : (beaconBytes ty x w).length = 16 := by
  simp [beaconBytes]

theorem byteAt_beaconBytes_type {ty : Nat} (x : List Byte) (w : Nat) (h : ty < 256) : byteAt (beaconBytes ty x w) 0 = ty := by
  have hs : slice (beaconBytes ty x w) 0 1 = leBytes 1 ty := by
    simpa [beaconBytes] using slice_append_middle [] (leBytes 1 ty) (slice x 0 7 ++ leBytes 8 w)
  rw [byteAt, fieldAt, hs, leNat_leBytes]
  omega

/-- Byte 2 of a beacon is the second of the seven bytes behind its type. -/
theorem byteAt_beaconBytes_two {ty b : Nat} (x y : Byte) (zs : List Byte) (w : Nat) (h : y.toNat = b) :
    byteAt (beaconBytes ty (x :: y :: zs) w) 2 = b := by
  simp [beaconBytes, byteAt, fieldAt, slice, leBytes, leNat, h]

/-- The 64-bit word of a beacon (R90). -/
theorem fieldAt_beaconBytes_word {w : Nat} (ty : Nat) (x : List Byte) (h : w < 2 ^ 64) : fieldAt (beaconBytes ty x w) 8 8 = w := by
  have hs : slice (beaconBytes ty x w) 8 8 = leBytes 8 w := by
    simpa [beaconBytes] using slice_append_middle (leBytes 1 ty ++ slice x 0 7) (leBytes 8 w) []
  rw [fieldAt, hs, leNat_leBytes]
  omega

/-! ### Pairs of registers -/

/-- A 64-bit register pair reads as the value it was set to. -/
theorem State.reg64_setReg64_self (s : State) (a : Nat) {v : Nat} (h : v < 2 ^ 64) : (s.setReg64 a v).reg64 a = v := by
  rw [State.reg64, State.setReg64, State.reg_setReg_self, State.reg_setReg_ne _ _ (by omega), State.reg_setReg_self,
    BitVec.toNat_ofNat, BitVec.toNat_ofNat]
  omega

theorem State.reg_setReg64_ne (s : State) {a b : Nat} (v : Nat) (h : a ≠ b) (h4 : a + 4 ≠ b) : (s.setReg64 a v).reg b = s.reg b := by
  rw [State.setReg64, State.reg_setReg_ne _ _ h4, State.reg_setReg_ne _ _ h]

/-- Setting a register pair leaves a pair that shares no register with it alone. -/
theorem State.reg64_setReg64_apart (s : State) {a b : Nat} (v : Nat) (h : a + 8 ≤ b ∨ b + 8 ≤ a) :
    (s.setReg64 a v).reg64 b = s.reg64 b := by
  rw [State.reg64, State.reg64, State.reg_setReg64_ne _ _ (by omega) (by omega), State.reg_setReg64_ne _ _ (by omega) (by omega)]

theorem State.reg64_set_ne (s : State) {f : Fld} {b : Nat} (v : Nat) (h : f.a ≠ b) (h4 : f.a ≠ b + 4) :
    (s.set f v).reg64 b = s.reg64 b := by
  rw [State.reg64, State.reg64, State.reg_set_ne _ _ h, State.reg_set_ne _ _ h4]

@[simp] theorem State.onTim_reg64 (s : State) (f : TimeState → TimeState) (a : Nat) : (s.onTim f).reg64 a = s.reg64 a := rfl

/-! ### Taking and broadcasting beacons -/

@[simp] theorem State.took_get (s : State) (b : Packet) (f : Fld) : (s.took b).get f = s.get f := rfl
@[simp] theorem State.took_tim (s : State) (b : Packet) : (s.took b).tim = s.tim := rfl
@[simp] theorem State.took_loss (s : State) (b : Packet) : (s.took b).loss = s.loss := rfl
@[simp] theorem State.took_node (s : State) (b : Packet) : (s.took b).node = s.node := rfl
@[simp] theorem State.took_isPole (s : State) (b : Packet) : (s.took b).isPole = s.isPole := rfl
@[simp] theorem State.took_firmwareUp (s : State) (b : Packet) : (s.took b).firmwareUp = s.firmwareUp := rfl
@[simp] theorem State.took_lifecycle (s : State) (b : Packet) : (s.took b).lifecycle = s.lifecycle := rfl
@[simp] theorem State.set_node (s : State) (f : Fld) (v : Nat) : (s.set f v).node = s.node := rfl
@[simp] theorem State.set_isPole (s : State) (f : Fld) (v : Nat) : (s.set f v).isPole = s.isPole := rfl

theorem State.isPole_iff (s : State) : s.isPole = true ↔ s.loss.pole = some s.node := by
  simp [State.isPole]

/-- A beacon of 16 bytes goes to every node as it is (R90, R107). -/
theorem State.broadcast_beacons (s : State) {bs : List Byte} (h : bs.length = 16) :
    ∃ q : Packet, (s.broadcast bs).fab.beacons = s.fab.beacons ++ [q] ∧ q.bcast = true ∧ q.data = bs :=
  ⟨_, rfl, rfl, fit_of_length h⟩

/-! ### Epoch boundaries (R133, R135) -/

/-- boundary(n) counts epochs of the rate in force from the base in force. -/
theorem State.boundary_eq (s : State) (n : Nat) :
    s.boundary n = s.tim.baseCt + (n - s.tim.baseN) * 1000000000 / (if s.tim.rate25 then 25 else 30) := rfl

theorem exec_epochBoundary_run {s : State} (hs : s.running) (hr : s.get fRun = 1) :
    exec .epochBoundary s =
      .next (if s.boundary (s.tim.epoch + 1) ≤ s.ctNs then s.epochStart (s.tim.epoch + 1) else s) := by
  show execEpochBoundary s = _
  rw [execEpochBoundary, s.run_running _ hs, if_pos hr]

/-- A member that does not run takes no boundary. -/
theorem exec_epochBoundary_stopped {s : State} (hs : s.running) (hr : s.get fRun = 0) (hm : s.get fMember = 1) :
    exec .epochBoundary s = .next s := by
  show execEpochBoundary s = _
  simp [execEpochBoundary, s.run_running _ hs, hr, hm]

/-! ### Formation (R39, R125) -/

theorem exec_formationInstant {s : State} {t : Nat} (hs : s.running) (hf : s.tim.formAt = some t) :
    exec .formationInstant s = .next (if s.get fMember = 0 ∧ t ≤ s.ctNs then (s.ctSet 0).enterMember else s) := by
  show execFormationInstant s = _
  simp [execFormationInstant, s.run_running _ hs, hf]

/-- The pole of a constellation that is still to form takes its own FORMATION: T_F and RATE are stored. -/
theorem exec_formation_pole {s : State} {b : Packet} (hs : s.running) (hm : s.get fMember = 0) (hfw : s.firmwareUp = true)
    (hlc : s.lifecycle ≠ 3) (hf : s.loss.formed = false) (hp : s.loss.pole = some s.node) (hb : b.src = s.node)
    (ht : s.ctNs ≤ fieldAt b.data 8 8) :
    exec (.formation b) s =
      .next (((s.took b).set fRate (byteAt b.data 2 % 2)).onTim (fun x => { x with formAt := some (fieldAt b.data 8 8) })) := by
  have hown : ∀ v, (((s.took b).set fRate v).isPole && decide (b.src = ((s.took b).set fRate v).node)) = true :=
    fun v => by simp [s.isPole_iff.mpr hp, hb]
  show execFormation b s = _
  rw [execFormation, s.run_running _ hs]
  dsimp only
  rw [if_neg (by simp [hm, hfw, hlc, hf]), if_pos (hown _)]
  exact congrArg _ (if_neg (Nat.not_lt.mpr ht))

/-- The first whole millisecond that lies at least 5 ms after `c` (log entry 25). -/
def formationTime (c : Nat) : Nat := (c + 5000000 + 999999) / 1000000 * 1000000

theorem formationTime_spec (c : Nat) :
    formationTime c % 1000000 = 0 ∧ c + 5000000 ≤ formationTime c ∧ formationTime c < c + 6000000 := by
  unfold formationTime
  omega

/-- The pole declares the nodes that it has reached, and itself, as the first membership. -/
theorem completes_membershipDeclare {s : State} (hs : s.running) (hc : s.poleCheck = s) (hfw : s.firmwareUp = true)
    (hlc : s.lifecycle ≠ 3) (hp : s.loss.pole = some s.node) (hl : s.loss.lone = false) (hf : s.loss.formed = false)
    (hn : s.tim.formAt = none) (ht : s.loss.reachAt + 100 * ms ≤ s.now) :
    Completes .membershipDeclare s (fun t => t.loss.members = s.loss.reach ||| 2 ^ s.node ∧ t.loss.version = 1 ∧
      t.tim.formAt = some (formationTime s.ctNs)) := by
  have hdue : (s.firmwareUp && s.isPole && decide (s.lifecycle ≠ 3) && !s.loss.lone && !s.loss.formed && s.tim.formAt.isNone &&
      decide (s.loss.reachAt + 100 * ms ≤ s.now)) = true := by
    simp [hfw, s.isPole_iff.mpr hp, hlc, hl, hf, hn, ht]
  show ∃ t, execMembershipDeclare s = .next t ∧ _
  rw [execMembershipDeclare, s.run_running _ hs]
  dsimp only
  rw [hc, if_pos hdue]
  exact ⟨_, rfl, rfl, rfl, rfl⟩

/-- A pole-eligible chip of node 0 that has reached no other node for 100 ms. -/
def declaringPole : State :=
  { State.reset.set fStage 7 with straps := 64, now := 100 * ms, loss := { pole := some 0 } }

theorem declaringPole_poleCheck : declaringPole.poleCheck = declaringPole := by
  have hstays : declaringPole.poleElig &&
      (nodesOf (declaringPole.eligibleMask &&& (declaringPole.loss.reach ||| 2 ^ declaringPole.node))).head? == some declaringPole.node := by
    decide +kernel
  have hfree : ¬ (declaringPole.get ⟨0x26000400, 0, 3⟩ ≠ 7 || declaringPole.loss.formed || declaringPole.tim.formAt.isSome ||
      declaringPole.loss.lone || declaringPole.get fMember = 1) := by decide +kernel
  rw [State.poleCheck, if_neg hfree]
  dsimp only
  exact if_pos (hstays.trans rfl)

/-- It meets the premises of `completes_membershipDeclare`, and declares itself alone at CT 5 ms. -/
theorem declaringPole_declares : Completes .membershipDeclare declaringPole (fun t =>
    t.loss.members = 1 ∧ t.loss.version = 1 ∧ t.tim.formAt = some 5000000) :=
  completes_membershipDeclare rfl declaringPole_poleCheck (by decide +kernel) (by decide +kernel) rfl rfl rfl rfl (by decide +kernel)

/-! ### Rate changes (R134, R142) -/

/-- A rate change is known: rate `r` from boundary `n`. -/
def State.noteRate (s : State) (n : Nat) (r : Bool) : State := s.onTim (fun t => { t with rateAt := some (n, r) })

@[simp] theorem State.noteRate_rateAt (s : State) (n : Nat) (r : Bool) : (s.noteRate n r).tim.rateAt = some (n, r) := rfl

/-- A rate change is not staged before the epoch that precedes its boundary. -/
theorem State.stageRate_early {s : State} {n : Nat} {r : Bool} (h : s.tim.rateAt = some (n, r)) (hn : s.tim.epoch + 1 ≠ n) :
    s.stageRate = s := by
  rw [State.stageRate, h]
  exact if_neg hn

/-- In the epoch before its boundary a rate change is staged: the base moves there, and RATE is the new one. -/
theorem State.stageRate_due {s : State} {r : Bool} (h : s.tim.rateAt = some (s.tim.epoch + 1, r)) :
    s.stageRate = (((s.setReg64 0x23000030 (s.boundary (s.tim.epoch + 1))).setReg64 0x23000038 (s.tim.epoch + 1)).set fRate
      (b2n r)).onTim (fun t => { t with rateAt := none }) := by
  rw [State.stageRate, h]
  exact if_pos rfl

/-- The registers of the base and of the rate once a rate change is staged. -/
theorem State.stageRate_regs {s : State} {r : Bool} (h : s.tim.rateAt = some (s.tim.epoch + 1, r))
    (hb : s.boundary (s.tim.epoch + 1) < 2 ^ 64) (he : s.tim.epoch + 1 < 2 ^ 64) :
    s.stageRate.tim.rateAt = none ∧ s.stageRate.reg64 0x23000030 = s.boundary (s.tim.epoch + 1) ∧
      s.stageRate.reg64 0x23000038 = s.tim.epoch + 1 ∧ s.stageRate.get fRate = b2n r := by
  rw [State.stageRate_due h]
  refine ⟨rfl, ?_, ?_, ?_⟩
  · rw [State.onTim_reg64, State.reg64_set_ne _ _ (by decide) (by decide), State.reg64_setReg64_apart _ _ (by decide),
      State.reg64_setReg64_self _ _ hb]
  · rw [State.onTim_reg64, State.reg64_set_ne _ _ (by decide) (by decide), State.reg64_setReg64_self _ _ he]
  · rw [State.onTim_get, State.get_set_self _ _ _ (by decide)]
    cases r <;> rfl

/-- A running chip takes a RATE_CHANGE for a later epoch. -/
theorem exec_rateChange {s : State} {b : Packet} (hs : s.running) (hr : s.get fRun = 1) (he : s.tim.epoch < fieldAt b.data 8 8) :
    exec (.rateChange b) s =
      .next ((s.took b).noteRate (fieldAt b.data 8 8) (bit (byteAt b.data 2) 0)).stageRate := by
  show execRateChange b s = _
  rw [execRateChange, s.run_running _ hs]
  dsimp only
  rw [if_pos (by simp [hr, he])]
  rfl

/-! ### Vehicle time (R140, R142) -/

/-- The bytes of VT_UPDATE. -/
def State.vtBeacon (s : State) : List Byte :=
  beaconBytes 0x42 (leBytes 1 0 ++ leBytes 1 (b2n s.tim.ptp.locked) ++ leBytes 5 0) (unsigned 64 s.tim.ptp.vt)

theorem State.vtBeacon_fields (s : State) :
    byteAt s.vtBeacon 0 = 0x42 ∧ byteAt s.vtBeacon 2 = b2n s.tim.ptp.locked ∧ fieldAt s.vtBeacon 8 8 = unsigned 64 s.tim.ptp.vt := by
  refine ⟨byteAt_beaconBytes_type _ _ (by decide), byteAt_beaconBytes_two _ _ _ _ ?_, fieldAt_beaconBytes_word _ _ (BitVec.isLt _)⟩
  cases s.tim.ptp.locked <;> rfl

theorem exec_vtUpdateSend {s : State} (hs : s.running) (hp : s.loss.pole = some s.node) (hr : s.get fRun = 1)
    (hv : s.tim.vtSentEpoch ≠ some s.tim.epoch) :
    exec .vtUpdateSend s = .next ((s.onTim (fun t => { t with vtSentEpoch := some t.epoch })).broadcast s.vtBeacon) := by
  show execVtUpdateSend s = _
  rw [execVtUpdateSend, s.run_running _ hs, if_pos (by simp [s.isPole_iff.mpr hp, hr, hv])]
  rfl

theorem exec_vtUpdate {s : State} (b : Packet) (hs : s.running) :
    exec (.vtUpdate b) s = .next (((s.took b).setReg64 0x23000090 (fieldAt b.data 8 8)).onTim
      (fun t => { t with vtValid := bit (byteAt b.data 2) 0, vtEpoch := some t.epoch })) := by
  show execVtUpdate b s = _
  rw [execVtUpdate, s.run_running _ hs]

theorem exec_vtStale {s : State} (hs : s.running) (h : s.tim.vtEpoch.getD 0 + 3 ≤ s.tim.epoch) :
    exec .vtStale s = .next (s.onTim (fun t => { t with vtValid := false })) := by
  show execVtStale s = _
  rw [execVtStale, s.run_running _ hs, if_pos h]

/-! ### The statement -/

/-- Settles O11: each clause is the case of its command above. The boundaries are those of the base in force, a RATE_CHANGE is staged
at once only in the epoch before its boundary, and the declared instant is `formationTime`. -/
theorem epochsAndFormation : Obligations.EpochsAndFormation := by
  refine ⟨fun s hs => ⟨fun n _ => s.boundary_eq n, ?_, ?_, exec_epochBoundary_stopped hs⟩,
    fun b s hs => ⟨?_, ?_, ?_, ?_, ?_, ?_, ?_, ?_, exec_vtStale hs⟩⟩
  · intro hr hdue
    rw [exec_epochBoundary_run hs hr, if_pos hdue]
  · intro hr hlater
    rw [exec_epochBoundary_run hs hr, if_neg (Nat.not_le.mpr hlater)]
  · intro t hf hm ht
    rw [exec_formationInstant hs hf, if_pos ⟨hm, ht⟩]
  · intro t hf ht
    rw [exec_formationInstant hs hf, if_neg fun h => Nat.not_le.mpr ht h.2]
  · intro hm hfw hlc hf hp hb ht
    refine ⟨_, exec_formation_pole hs hm hfw hlc hf hp hb ht, rfl, ?_, ?_⟩
    · rw [State.onTim_get, State.get_set_self _ _ _ (by decide)]
      exact Nat.mod_mod _ _
    · rw [State.onTim_get, State.get_set_apart _ _ (by decide), State.took_get, hm]
  · intro hc hfw hlc hp hl hf hn ht
    obtain ⟨t, he, hmem, hver, hform⟩ := completes_membershipDeclare hs hc hfw hlc hp hl hf hn ht
    exact ⟨t, he, hmem, hver, _, hform, formationTime_spec _⟩
  · intro hr hlater
    refine ⟨_, exec_rateChange hs hr (by omega), ?_⟩
    rw [State.stageRate_early (State.noteRate_rateAt (s.took b) _ _) (Nat.ne_of_lt hlater)]
    exact ⟨rfl, rfl⟩
  · intro hr hnext hbound
    refine ⟨_, exec_rateChange hs hr (by omega), ?_⟩
    rw [hnext]
    have he : s.tim.epoch + 1 < 2 ^ 64 := hnext ▸ fieldAt_lt b.data 8 8
    exact State.stageRate_regs (State.noteRate_rateAt (s.took b) _ _) hbound he
  · intro hp hr hv
    obtain ⟨q, hq, hall, hdata⟩ :=
      (s.onTim (fun t => { t with vtSentEpoch := some t.epoch })).broadcast_beacons (bs := s.vtBeacon) (length_beaconBytes _ _ _)
    exact ⟨_, exec_vtUpdateSend hs hp hr hv, rfl, q, hq, hall, hdata ▸ s.vtBeacon_fields⟩
  · exact ⟨_, exec_vtUpdate b hs, State.reg64_setReg64_self _ _ (fieldAt_lt b.data 8 8), rfl, rfl⟩

end Sys2Proof.Machine

/-! Packets and their flits (O7): the fields of a header, and the bytes that the flits of a packet carry. -/

namespace Sys2Proof.Machine

/-! ### Byte strings, slices and flits -/

/-- A byte string is the bytes of the number that it spells (R7). -/
theorem leBytes_leNat (bs : List Byte) : leBytes bs.length (leNat bs) = bs := by
  induction bs with
  | nil => rfl
  | cons b bs ih =>
    have hb : b.toNat < 256 := b.isLt
    have hhead : BitVec.ofNat 8 (b.toNat + 256 * leNat bs) = b := BitVec.eq_of_toNat_eq (by simp; omega)
    have htail : (b.toNat + 256 * leNat bs) / 256 = leNat bs := by omega
    rw [List.length_cons, leNat, leBytes, hhead, htail, ih]

/-- A flit carries the 32 bytes that it was made of (R61). -/
theorem flitBytes_flitOf {bs : List Byte} (h : bs.length = 32) : flitBytes (flitOf bs) = bs := by
  have hlt : leNat bs < 2 ^ 256 := by simpa [h] using leNat_lt bs
  rw [flitBytes, flitOf, List.take_of_length_le (Nat.le_of_eq h), BitVec.toNat_ofNat, Nat.mod_eq_of_lt hlt, ← h, leBytes_leNat]

/-- A slice lists the bytes from its offset on, zero beyond the end. -/
theorem slice_eq_map (bs : List Byte) (off n : Nat) : slice bs off n = (List.range n).map (fun i => bs.getD (off + i) 0#8) := by
  have hpiece : ((bs.drop off).take n).length = min n (bs.length - off) := by rw [List.length_take, List.length_drop]
  have hlength : (slice bs off n).length = ((List.range n).map (fun i => bs.getD (off + i) 0#8)).length := by
    rw [length_slice, List.length_map, List.length_range]
  show (bs.drop off).take n ++ List.replicate (n - ((bs.drop off).take n).length) 0#8 = _
  refine List.ext_getElem hlength fun i _ hi => ?_
  have hn : i < n := by rwa [List.length_map, List.length_range] at hi
  rw [List.getElem_map, List.getElem_range]
  by_cases h : off + i < bs.length
  · rw [List.getElem_append_left (by omega), List.getElem_take, List.getElem_drop, List.getD_eq_getElem?_getD,
      List.getElem?_eq_getElem h, Option.getD_some]
  · rw [List.getElem_append_right (by omega), List.getElem_replicate, List.getD_eq_getElem?_getD,
      List.getElem?_eq_none (Nat.le_of_not_lt h), Option.getD_none]

theorem slice_append_slice (bs : List Byte) (m n : Nat) : slice bs 0 m ++ slice bs m n = slice bs 0 (m + n) := by
  simp [slice_eq_map, List.range_add]

/-- The slices of 32 bytes that `n` flits carry join to one slice. -/
theorem flatMap_slice (bs : List Byte) (n : Nat) : (List.range n).flatMap (fun i => slice bs (32 * i) 32) = slice bs 0 (32 * n) := by
  induction n with
  | zero => rfl
  | succ n ih => rw [List.range_succ, List.flatMap_append, ih, List.flatMap_singleton, slice_append_slice, Nat.mul_succ]

/-- A slice that covers the string is the string with zeros behind it. -/
theorem slice_zero_of_length_le {bs : List Byte} {n : Nat} (h : bs.length ≤ n) :
    slice bs 0 n = bs ++ List.replicate (n - bs.length) 0#8 := by
  simp [slice, List.take_of_length_le h]

/-! ### The header of a packet (Table 3-1) -/

/-- A header spells each field of its packet, cut to the width that Table 3-1 gives it. -/
theorem packetOf_packetHeader (p : Packet) (bs : List Byte) :
    packetOf (packetHeader p) bs =
      { dst := p.dst % 64, src := p.src % 64, tc := p.tc % 4, kind := p.kind % 16, bcast := p.bcast, dl := p.dl, poison := p.poison,
        len := p.len % 32, nbytes := p.nbytes % 1024, tag := p.tag % 1024, ten := p.ten % 8, issuer := p.issuer % 16,
        reserved := p.reserved % 8, stamp := p.stamp % 16777216, addr := p.addr % 281474976710656, data := bs } := by
  simp (disch := decide) only [packetOf, packetHeader, BitVec.extractLsb'_append_eq_of_le]
  simp only [Nat.reduceSub, BitVec.extractLsb'_append_eq_right, BitVec.extractLsb'_eq_self, BitVec.toNat_ofNat, BitVec.getLsbD_append,
    BitVec.getLsbD_ofBool]
  simp

/-- A well-formed packet is the one that its header and its payload spell. -/
theorem packetOf_packetHeader_of_wf {p : Packet} (h : p.wf = true) : packetOf (packetHeader p) p.data = p := by
  simp only [Packet.wf, Bool.and_eq_true, decide_eq_true_eq, and_assoc] at h
  obtain ⟨hdst, hsrc, htc, hkind, hlen, hnbytes, htag, hten, hissuer, hreserved, hstamp, haddr, -⟩ := h
  simp only [packetOf_packetHeader, Nat.mod_eq_of_lt, *]

theorem length_data_of_wf {p : Packet} (h : p.wf = true) : p.data.length = p.nbytes := by
  simp only [Packet.wf, Bool.and_eq_true] at h
  exact beq_iff_eq.mp h.2

/-- The header is the number that its 16 bytes spell. -/
theorem leNat_headerBytes (h : BitVec 128) : BitVec.ofNat 128 (leNat (leBytes 16 h.toNat)) = h := by
  rw [leNat_leBytes, Nat.mod_eq_of_lt (b := 256 ^ 16) h.isLt, BitVec.ofNat_toNat, BitVec.setWidth_eq]

/-! ### The flits of a packet (R88) -/

/-- Header and payload fit into LEN flits. -/
theorem add_le_lenOf (n : Nat) : 16 + n ≤ 32 * lenOf n := by
  unfold lenOf
  omega

/-- The flits of a packet carry its header, its payload, and zeros behind them. -/
theorem flatMap_packetFlits {p : Packet} (hwf : p.wf = true) (hlen : p.len = lenOf p.nbytes) :
    (packetFlits p).flatMap flitBytes =
      leBytes 16 (packetHeader p).toNat ++ (p.data ++ List.replicate (32 * p.len - (16 + p.nbytes)) 0#8) := by
  have hfit : (leBytes 16 (packetHeader p).toNat ++ p.data).length ≤ 32 * p.len := by
    simpa [length_data_of_wf hwf, hlen] using add_le_lenOf p.nbytes
  calc (packetFlits p).flatMap flitBytes
      = (List.range p.len).flatMap (fun i => slice (leBytes 16 (packetHeader p).toNat ++ p.data) (32 * i) 32) := by
        rw [packetFlits, List.flatMap_map]
        exact congrArg (fun g => (List.range p.len).flatMap g) (funext fun i => flitBytes_flitOf (length_slice _ _ _))
    _ = leBytes 16 (packetHeader p).toNat ++ (p.data ++ List.replicate (32 * p.len - (16 + p.nbytes)) 0#8) := by
        rw [flatMap_slice, slice_zero_of_length_le hfit]
        simp [length_data_of_wf hwf]

/-- Settles O7: the first 16 bytes of the flits are the header, which gives every field and NBYTES; that many bytes behind it are the
payload. -/
theorem packetRoundTrip : Obligations.PacketRoundTrip := by
  intro p hwf hlen
  have hn : ((packetHeader p).extractLsb' 26 10).toNat = p.data.length :=
    (congrArg Packet.nbytes (packetOf_packetHeader_of_wf hwf)).trans (length_data_of_wf hwf).symm
  have htake : ∀ zs, (leBytes 16 (packetHeader p).toNat ++ zs).take 16 = leBytes 16 (packetHeader p).toNat :=
    fun _ => List.take_left' (length_leBytes _ _)
  have hdrop : ∀ zs, (leBytes 16 (packetHeader p).toNat ++ zs).drop 16 = zs := fun _ => List.drop_left' (length_leBytes _ _)
  rw [flitsPacket, flatMap_packetFlits hwf hlen]
  simp only [htake, hdrop, leNat_headerBytes, hn, List.take_left, packetOf_packetHeader_of_wf hwf]

end Sys2Proof.Machine

/-! Requests at their target, and the end of transactions at their issuer (O9). -/

namespace Sys2Proof.Machine

/-! ### Packets at their endpoint (R89, R108) -/

/-- A well-formed packet that is the first of its class and source is performed. -/
theorem State.atTarget_ingress {s u : State} {pk : Packet} {kind : Nat} (run : State → State) (hk : pk.kind = kind)
    (hw : malformed pk = false) (hu : s.ingress pk pk.kind = some u) : s.atTarget pk kind run = run u := by
  rw [hk] at hu
  simp [State.atTarget, hu, hw]

/-! ### Requests (R92 to R94, R97, R172, R174) -/

section
variable {pk : Packet} {s u : State} (hs : s.running) (hw : malformed pk = false) (hu : s.ingress pk pk.kind = some u)
include hs hw hu

/-- A READ of no whole words, or of more than 512 bytes, is answered with ERR 0x02 (R94). -/
theorem exec_read_badLength (hk : pk.kind = 2)
    (hn : fieldAt pk.data 0 2 < 4 ∨ 512 < fieldAt pk.data 0 2 ∨ fieldAt pk.data 0 2 % 4 ≠ 0) :
    exec (.read pk) s = .next (u.sendFrom (errFor u.node 2 pk)) := by
  show execRead pk s = _
  rw [execRead, s.run_running _ hs, s.atTarget_ingress _ hk hw hu]
  dsimp only
  rw [if_pos (by simpa [or_assoc] using hn)]
  rfl

/-- A READ whose span can be read is answered with its bytes (R94, R166). -/
theorem exec_read_data {w : State} {bs : List Byte} {bad : Bool} (hk : pk.kind = 2) (h4 : 4 ≤ fieldAt pk.data 0 2)
    (h512 : fieldAt pk.data 0 2 ≤ 512) (hm : fieldAt pk.data 0 2 % 4 = 0)
    (hr : u.spanRead (.fabric pk.who) pk.addr (fieldAt pk.data 0 2) = (w, .inr (bs, bad))) :
    exec (.read pk) s = .next (w.sendFrom { dst := pk.src, tc := 3, kind := 5, poison := bad, nbytes := fieldAt pk.data 0 2, tag := pk.tag,
                                            ten := pk.ten, issuer := pk.issuer, data := bs }) := by
  show execRead pk s = _
  rw [execRead, s.run_running _ hs, s.atTarget_ingress _ hk hw hu]
  dsimp only
  rw [if_neg (by simp; omega), hr]

/-- A WRITE_BULK outside the staging area of the control SRAM is performed and answered (R93, R443). -/
theorem exec_writeBulk {w : State} {e : Nat} (hk : pk.kind = 1) (hst : (isSram pk.addr && decide (pk.addr < 0x1380000)) = false)
    (he : u.spanWrite (.fabric pk.who) pk.addr pk.data = (w, e)) :
    exec (.writeBulk pk) s = .next (w.answerPk pk e) := by
  show execWriteBulk pk s = _
  rw [execWriteBulk, s.run_running _ hs, s.atTarget_ingress _ hk hw hu]
  simp [hst, he]

/-- A MSG to a path-3 mailbox that is no BOOT_GO is placed, or refused with ERR 0x04 (R97, R443, R489). -/
theorem exec_msg {w : State} {ok : Bool} (hk : pk.kind = 3) (hlo : 0x26001000 ≤ pk.addr) (hhi : pk.addr ≤ 0x260013FF)
    (hgo : fieldAt pk.data 2 2 ≠ 0x0B22) (ha : u.msgArrive pk.src ((pk.addr - 0x26001000) / 0x100) pk.data = (w, ok)) :
    exec (.msg pk) s = .next (w.answerPk pk (if ok then 0 else 4)) := by
  show execMsg pk s = _
  rw [execMsg, s.run_running _ hs, s.atTarget_ingress _ hk hw hu]
  simp [within, hlo, hhi, hgo, ha]

/-- A CREDIT_REQ that is granted units is answered with them (R172). -/
theorem exec_creditReq {w : State} {g : Nat} (hk : pk.kind = 4) (hid : fieldAt pk.data 0 2 < 128)
    (hg : (u.settle pk.addr).gated (palBase (bits (fieldAt pk.data 0 2) 4 3)) = false)
    (hr : (u.settle pk.addr).creditReq pk.who (bits (fieldAt pk.data 0 2) 4 3) (fieldAt pk.data 0 2 % 16) pk.addr (fieldAt pk.data 2 4) =
      (w, .inr g)) :
    exec (.creditReq pk) s = .next (w.sendFrom
      (creditRet pk.src pk.tag pk.issuer pk.ten (bits (fieldAt pk.data 0 2) 4 3) (fieldAt pk.data 0 2 % 16) (32 * g))) := by
  show execCreditReq pk s = _
  rw [execCreditReq, s.run_running _ hs, s.atTarget_ingress _ hk hw hu]
  dsimp only
  rw [if_neg (Nat.not_le.mpr hid), if_neg (by simp [hg]), hr]

/-- A WRITE_STREAM to the palette of a core that is clocked is a stream write at the core's ingress (R92, R174). -/
theorem exec_writeStream {c : Nat} {t : State} {ok : Bool} (hk : pk.kind = 0) (hc : palCore pk.addr = some c)
    (hg : (u.settle pk.addr).gated pk.addr = false)
    (ht : (u.settle pk.addr).streamWrite pk.who c (pk.addr % 0x1000000) pk.data = (t, ok)) :
    exec (.writeStream pk) s = .next (if ok then t else t.streamFault pk c) := by
  show execWriteStream pk s = _
  rw [execWriteStream, s.run_running _ hs, s.atTarget_ingress _ hk hw hu]
  simp [hc, hg, ht]

end

/-- A stream write outside the live span of every window is counted (R159, R174). -/
theorem State.streamWrite_dead {s : State} {who : Who} {c a : Nat} {data : List Byte}
    (h : ∀ w, w < 16 → s.winLive c w a data.length = false) : s.streamWrite who c a data = (s.winViolation c, false) := by
  rw [State.streamWrite, if_neg]
  simpa using h

/-- A stream write in the live span of a window that the regions admit is performed (R159, R174). -/
theorem State.streamWrite_live {s : State} {who : Who} {c a w : Nat} {data : List Byte} (hw : w < 16)
    (hl : s.winLive c w a data.length = true) (hp : (s.palCheck who false true c a data.length).2 = 0) :
    s.streamWrite who c a data = ((s.palCheck who false true c a data.length).1.palPut c a data, true) := by
  rw [State.streamWrite, if_pos]
  · dsimp only
    rw [if_pos hp]
  · simpa using ⟨w, hw, hl⟩

/-- The firmware's own packets raise no fault event of a tenant (R174). -/
theorem State.streamFault_firmware (s : State) {pk : Packet} (c : Nat) (h : 4 ≤ pk.ten) : s.streamFault pk c = s := by
  rw [State.streamFault, if_neg (Nat.not_lt.mpr h)]

/-! ### Tags and bulk credit (R96, R440) -/

/-- Nothing waits for a tag or for bulk credit: nothing is issued. -/
theorem State.pump_idle {s : State} (h : s.fab.tagWait = []) : s.pump = s := by
  rw [State.pump, h, List.foldl_nil, ← h]

@[simp] theorem State.bulkCount_setBulk (s : State) (n k : Nat) : (s.setBulk n k).bulkCount n = k :=
  tblGet_tblSet_self _ _ _ _

@[simp] theorem State.bump_fab (s : State) (a : Nat) : (s.bump a).fab = s.fab := by
  unfold State.bump
  split <;> rfl

@[simp] theorem State.late_bulkCount (s : State) (n : Nat) : s.late.bulkCount n = s.bulkCount n := by
  simp [State.late, State.bulkCount]

/-- A late response is counted in `FAB_LATE_CNT` (R95). -/
theorem State.reg_late (s : State) : (s.late.reg 0x21008054).toNat = min 0xFFFFFFFF ((s.reg 0x21008054).toNat + 1) := by
  rw [State.late, State.reg_event_ne _ _ (by decide), State.reg_bump_self]

/-- A late answer is only counted when no core's reset has ended a transaction whose tag is in quarantine (R95). -/
theorem State.lateBulk_no_reset {s : State} (pk : Packet) (h : ∀ q ∈ s.fab.quarantine, q.reset = false) : s.lateBulk pk = s.late := by
  have hnone : s.fab.quarantine.find? (fun q => q.issuer = pk.issuer && q.tag = pk.tag && q.reset && q.bulk = some pk.src) = none :=
    List.find?_eq_none.mpr fun q hq => by simp [h q hq]
  rw [State.lateBulk, hnone]

/-- A late answer to a bulk packet that a core's reset has ended returns its count (R460). -/
theorem State.lateBulk_reset {s : State} {pk : Packet} {q : Quarantine} (hwait : s.fab.tagWait = []) (hq : q ∈ s.fab.quarantine)
    (hi : q.issuer = pk.issuer) (ht : q.tag = pk.tag) (hr : q.reset = true) (hb : q.bulk = some pk.src) :
    (s.lateBulk pk).bulkCount pk.src = s.bulkCount pk.src - 1 ∧
      ((s.lateBulk pk).reg 0x21008054).toNat = min 0xFFFFFFFF ((s.reg 0x21008054).toNat + 1) := by
  have hsome : (s.fab.quarantine.find? (fun q => q.issuer = pk.issuer && q.tag = pk.tag && q.reset && q.bulk = some pk.src)).isSome :=
    List.find?_isSome.mpr ⟨q, hq, by simp [hi, ht, hr, hb]⟩
  obtain ⟨q', hq'⟩ := Option.isSome_iff_exists.mp hsome
  rw [State.lateBulk, hq']
  dsimp only
  rw [State.pump_idle (by exact hwait)]
  exact ⟨(State.late_bulkCount _ _).trans (State.bulkCount_setBulk _ _ _), State.reg_late _⟩

/-! ### Responses (R95, R96, R172) -/

section
variable {pk : Packet} {s u : State} (hs : s.running) (hw : malformed pk = false) (hu : s.ingress pk pk.kind = some u)
include hs hw hu

/-- READ_DATA ends the transaction that it names, and is late where there is none. -/
theorem exec_readData (hk : pk.kind = 5) : exec (.readData pk) s =
    .next ((u.txnOf pk).elim u.late fun x => (u.endTxn x).landed x pk.data pk.poison) := by
  show execReadData pk s = _
  rw [execReadData, s.run_running _ hs, s.atTarget_ingress _ hk hw hu]
  cases u.txnOf pk <;> rfl

theorem exec_writeAck (hk : pk.kind = 6) : exec (.writeAck pk) s =
    .next ((u.txnOf pk).elim (u.lateBulk pk) fun x => (u.endTxn x).acked x) := by
  show execWriteAck pk s = _
  rw [execWriteAck, s.run_running _ hs, s.atTarget_ingress _ hk hw hu]
  cases u.txnOf pk <;> rfl

theorem exec_err (hk : pk.kind = 8) : exec (.err pk) s =
    .next ((u.txnOf pk).elim (u.lateBulk pk) fun x => (u.endTxn x).txnFailed x (byteAt pk.data 0)) := by
  show execErr pk s = _
  rw [execErr, s.run_running _ hs, s.atTarget_ingress _ hk hw hu]
  cases u.txnOf pk <;> rfl

/-- The CREDIT_RET that answers a channel's request is of the node and the window that the request names (R172, R201). -/
theorem exec_creditRet_channel {x : Txn} {c ch : Nat} (hk : pk.kind = 7) (hx : u.txnOf pk = some x) (huse : x.use = .credit c ch)
    (hdst : x.pk.dst = pk.src) (hwin : fieldAt x.pk.data 0 2 = fieldAt pk.data 0 2) :
    exec (.creditRet pk) s = .next ((u.endTxn x).chanCredit c ch (fieldAt pk.data 2 4 / 32) true) := by
  show execCreditRet pk s = _
  rw [execCreditRet, s.run_running _ hs, s.atTarget_ingress _ hk hw hu]
  simp [hx, Option.filter, hdst, hwin, huse]

end

/-! ### Timeouts and quarantines (R95, R96) -/

/-- 200 us after its issue a transaction of the issuer and tag ends with code 0x07. -/
theorem exec_responseTimeout {issuer : Fin 14} {tag : Fin 1024} {s : State} {x : Txn} (hs : s.running)
    (hx : s.fab.txns.find? (fun t => t.issuer = issuer.val && t.tag = tag.val && decide (t.since + 200 * us ≤ s.now)) = some x) :
    exec (.responseTimeout issuer tag) s = .next ((s.quarantineTxn x).txnFailed x 7) := by
  show execResponseTimeout issuer tag s = _
  rw [execResponseTimeout, s.run_running _ hs, hx]

/-- A quarantine that ends behind an empty queue of transactions frees its tag and writes no register. -/
theorem completes_tagQuarantineEnd {issuer : Fin 14} {tag : Fin 1024} {s : State} {q : Quarantine} (hs : s.running)
    (hq : s.fab.quarantine.find? (fun q => q.issuer = issuer.val && q.tag = tag.val && decide (q.until_ ≤ s.now)) = some q)
    (hwait : s.fab.tagWait = []) :
    Completes (.tagQuarantineEnd issuer tag) s (fun t => t.fab.quarantine = s.fab.quarantine.erase q ∧ t.regs = s.regs) := by
  show ∃ t, execTagQuarantineEnd issuer tag s = .next t ∧ _
  rw [execTagQuarantineEnd, s.run_running _ hs, hq]
  dsimp only
  refine ⟨_, rfl, ?_⟩
  rw [State.pump_idle (by cases q.bulk <;> exact hwait)]
  cases q.bulk <;> exact ⟨rfl, rfl⟩

/-! ### The statement -/

/-- Settles O9: each clause is the case of its command above; the tag and the issuer of a transaction that times out are those that it was
found by. -/
theorem transactionsEnd : Obligations.TransactionsEnd := by
  refine ⟨fun pk s u hs hw hu => ⟨exec_read_badLength hs hw hu, ?_, ?_, ?_, ?_, ?_, ?_⟩, fun pk s u hs hw hu => ⟨?_, ?_, ?_⟩,
    fun issuer tag s hs => ⟨?_, fun q hq hwait => completes_tagQuarantineEnd hs hq hwait⟩⟩
  · exact fun w bs bad hk h4 h512 hm hr => exec_read_data hs hw hu hk h4 h512 hm hr
  · exact fun w e hk hst he => exec_writeBulk hs hw hu hk hst he
  · intro w ok hk hlo hhi hgo ha
    rw [exec_msg hs hw hu hk hlo hhi hgo ha]
    cases ok <;> rfl
  · exact fun w g hk hid hg hr => exec_creditReq hs hw hu hk hid hg hr
  · intro c hk hc hg hdead hten
    rw [exec_writeStream hs hw hu hk hc hg (State.streamWrite_dead hdead), if_neg Bool.false_ne_true, State.streamFault_firmware _ _ hten]
  · intro c w hk hc hg h16 hlive hcheck
    rw [exec_writeStream hs hw hu hk hc hg (State.streamWrite_live h16 hlive hcheck), if_pos rfl]
  · intro c hc hk hx hreset
    simp only [List.mem_cons, List.not_mem_nil, or_false] at hc
    rcases hc with rfl | rfl | rfl
    · rw [exec_readData hs hw hu hk, hx, Option.elim_none]
    · rw [exec_writeAck hs hw hu hk, hx, Option.elim_none, State.lateBulk_no_reset _ (hreset.resolve_left nofun)]
    · rw [exec_err hs hw hu hk, hx, Option.elim_none, State.lateBulk_no_reset _ (hreset.resolve_left nofun)]
  · intro c hc hk hx hwait q hq hi ht hr hb
    have hlate := State.lateBulk_reset hwait hq hi ht hr hb
    simp only [List.mem_cons, List.not_mem_nil, or_false] at hc
    rcases hc with rfl | rfl
    · exact ⟨_, by rw [exec_writeAck hs hw hu hk, hx, Option.elim_none], hlate⟩
    · exact ⟨_, by rw [exec_err hs hw hu hk, hx, Option.elim_none], hlate⟩
  · intro x hx
    refine ⟨fun hk => ?_, fun hk => ?_, fun hk => ?_, fun c ch hk => exec_creditRet_channel hs hw hu hk hx⟩
    · rw [exec_readData hs hw hu hk, hx, Option.elim_some]
    · rw [exec_writeAck hs hw hu hk, hx, Option.elim_some]
    · rw [exec_err hs hw hu hk, hx, Option.elim_some]
  · intro x hx
    have hfound := List.find?_some hx
    simp only [Bool.and_eq_true, decide_eq_true_eq] at hfound
    obtain ⟨⟨hissuer, htag⟩, -⟩ := hfound
    exact ⟨exec_responseTimeout hs hx, rfl, _, rfl, hissuer, htag, rfl⟩

end Sys2Proof.Machine

/-! Packets that arrive at the router (O8): what becomes of a packet that is to be forwarded, and the one that the landing pool refuses. -/

namespace Sys2Proof.Machine

/-! ### Leaving a receive buffer -/

/-- Flits of the packet that begins with a flit in front of a VC buffer (R88, R90). -/
def frontLen (v : Nat) (f : Flit) : Nat := if v < 2 then 1 else max 1 (flitsPacket [f]).len

/-- A packet has left a VC buffer, with its entry of the landing pool. -/
def State.leaveBuffer (s : State) (p v n : Nat) (pk : Packet) : State := (s.takeFlits p v n).poolLeave p v pk

section
variable (s : State) (p v n : Nat) (pk : Packet)

@[simp] theorem State.leaveBuffer_regs : (s.leaveBuffer p v n pk).regs = s.regs := by
  unfold State.leaveBuffer State.poolLeave
  split <;> rfl

@[simp] theorem State.leaveBuffer_fab : (s.leaveBuffer p v n pk).fab = s.fab := by
  unfold State.leaveBuffer State.poolLeave
  split <;> rfl

@[simp] theorem State.leaveBuffer_loss : (s.leaveBuffer p v n pk).loss = s.loss := by
  unfold State.leaveBuffer State.poolLeave
  split <;> rfl

@[simp] theorem State.leaveBuffer_now : (s.leaveBuffer p v n pk).now = s.now := by
  unfold State.leaveBuffer State.poolLeave
  split <;> rfl

theorem State.leaveBuffer_vcBuf :
    ((s.leaveBuffer p v n pk).port p).vcBuf = (s.port p).vcBuf.set v (((s.port p).vcBuf.getD v []).drop n) := by
  unfold State.leaveBuffer State.poolLeave
  split <;> simp [State.onPort, State.takeFlits]

@[simp] theorem State.freeFlits_fab : (s.freeFlits p v n).fab = s.fab := by
  unfold State.freeFlits
  split <;> rfl

@[simp] theorem State.freeFlits_loss : (s.freeFlits p v n).loss = s.loss := by
  unfold State.freeFlits
  split <;> rfl

@[simp] theorem State.freeFlits_vcBuf : ((s.freeFlits p v n).port p).vcBuf = (s.port p).vcBuf := by
  unfold State.freeFlits
  split <;> simp

end

/-! ### Lines at the outputs (R98, R99, R102) -/

/-- The route entry of a node is held by the registers. -/
theorem State.route_congr {s t : State} (h : t.regs = s.regs) (d : Nat) : t.route d = s.route d := by
  simp only [State.route, State.get, State.reg, h]

/-- What output a packet's route names depends on the registers alone (R98, R99, R110). -/
theorem State.lookup_congr {s t : State} (h : t.regs = s.regs) (pk : Packet) : t.lookup pk = s.lookup pk := by
  have hg : t.get = s.get := funext fun f => by simp only [State.get, State.reg, h]
  have ha : t.active = s.active := funext fun p => by rw [State.active, State.active, hg]
  have hr : t.retraining = s.retraining := funext fun p => by rw [State.retraining, State.retraining, hg]
  have hp : t.pairPort = s.pairPort := by
    funext own other pair
    rw [State.pairPort, State.pairPort, ha, hr]
  rw [State.lookup, State.lookup, State.route_congr h, State.outOf, State.outOf, hp]

/-- A unicast whose route names an output, and that the landing pool does not refuse, is put in line there. -/
theorem State.route1_unicast (s : State) {pk : Packet} (p v : Nat) {out : Nat} (hb : pk.bcast = false) (hl : s.lookup pk = some out) :
    (s.route1 pk p v false).fab = (s.line pk p v out (s.route pk.dst)).fab ∧ (s.route1 pk p v false).loss = s.loss ∧
      ((s.route1 pk p v false).port p).vcBuf = (s.port p).vcBuf := by
  have hf : s.forward pk p v = s.line pk p v out (s.route pk.dst) := by simp [State.forward, hb, hl]
  simp only [State.route1, hf, Bool.false_eq_true, if_false]
  split
  · exact ⟨State.freeFlits_fab _ _ _ _, State.freeFlits_loss _ _ _ _, State.freeFlits_vcBuf _ _ _ _⟩
  · exact ⟨rfl, rfl, rfl⟩

/-- A packet in line at an output is the packet that arrived, but for DL (R102). -/
theorem State.dateline_fst (s : State) (pk : Packet) (i o : Nat) :
    (s.dateline pk i o).1.dst = pk.dst ∧ (s.dateline pk i o).1.data = pk.data := by
  unfold State.dateline
  split <;> exact ⟨rfl, rfl⟩

/-! ### The packet in front of a VC buffer (R89, R91, R103, R105) -/

/-- A node that has been reached is not seen anew. -/
theorem State.sawNode_reached {s : State} {n : Nat} (h : bit s.loss.reach n = true) : s.sawNode n = s := by
  simp [State.sawNode, h]

section
variable {p : Fin 6} {v : Fin 8} {s : State} {f : Flit} {fs : List Flit} {pk : Packet} (hs : s.running)
  (hv : (s.port p).vcBuf.getD v.val [] = f :: fs) (hlen : frontLen v f ≤ fs.length + 1)
  (hpk : flitsPacket ((f :: fs).take (frontLen v f)) = pk) (hm : malformed pk = false) (hst : s.stale pk = false) (hk : pk.kind ≠ 10)
include hs hv hlen hpk hm hst hk

/-- A whole, well-formed, fresh packet that is no HOP packet is looked up, and its source is seen. -/
theorem exec_packetReceive_routed : exec (.packetReceive p v) s =
    .next ((((s.leaveBuffer p v (frontLen v f) pk).route1 pk p v (s.poolRefused p v pk)).sawNode pk.src).showPool) := by
  show execPacketReceive p v s = _
  have hwhole : ¬ (f :: fs).length < frontLen v f := Nat.not_lt.mpr hlen
  unfold frontLen at hwhole hpk
  rw [execPacketReceive, s.run_running _ hs]
  dsimp only
  rw [hv]
  dsimp only
  rw [if_neg hwhole, hpk]
  simp [hm, hst, hk, State.leaveBuffer, frontLen]

/-- The packet waits at the output that its route names unless the landing pool refused it (R98, R104, R441). -/
theorem completes_packetReceive_waits {out : Nat} (hb : pk.bcast = false) (hreach : bit s.loss.reach pk.src = true)
    (hout : s.lookup pk = some out) (hpool : s.poolRefused p v pk = false) :
    Completes (.packetReceive p v) s (fun t =>
      (t.port p).vcBuf = (s.port p).vcBuf.set v.val ((f :: fs).drop (frontLen v f)) ∧
      ∃ w : Waiting, t.fab.waiting = s.fab.waiting ++ [w] ∧ w.out = out ∧ w.inPort = p.val ∧ w.inVc = v.val ∧ w.at_ = s.now ∧
        w.entry = s.route pk.dst ∧ w.pk.dst = pk.dst ∧ w.pk.data = pk.data) := by
  have hregs := s.leaveBuffer_regs p v (frontLen v f) pk
  obtain ⟨hfab, hloss, hbuf⟩ := State.route1_unicast (s.leaveBuffer p v (frontLen v f) pk) p v hb
    ((State.lookup_congr hregs pk).trans hout)
  refine ⟨_, exec_packetReceive_routed hs hv hlen hpk hm hst hk, ?_⟩
  rw [hpool, State.sawNode_reached (by rw [hloss, State.leaveBuffer_loss, hreach])]
  refine ⟨hbuf.trans ?_, ⟨_, (congrArg Fabric.waiting hfab).trans (congrArg (· ++ _) ?_), rfl, rfl, rfl, ?_, State.route_congr hregs _,
    State.dateline_fst _ _ _ _⟩⟩
  · rw [State.leaveBuffer_vcBuf, hv]
  · rw [State.leaveBuffer_fab]
  · exact s.leaveBuffer_now _ _ _ _

end

/-! ### A packet that the landing pool refuses (R439, R441) -/

/-- A WRITE_BULK of node 1 to this chip, node 0. -/
def bulkToSelf : Packet := { src := 1, tc := 2, kind := 1, len := lenOf 4, nbytes := 4, data := [1#8, 2#8, 3#8, 4#8] }

/-- Its only flit. -/
def bulkFlit : Flit := (packetFlits bulkToSelf).headD 0#256

/-- A chip whose route entry for itself names port 0, which is ACTIVE, in place of local delivery. The WRITE_BULK stands in VC 2 of that
port, and its header was, or was not, admitted to the landing pool. -/
def strayRoute (admitted : Bool) : State :=
  { ((State.reset.set (fLnkState 0) 4).setReg 0x21009000 0x8000#32).onPort 0 (fun q =>
      { q with vcBuf := [[], [], [bulkFlit]], pool := [(2, admitted)] }) with loss := { reach := 2 } }

/-- Admitted to the pool, the packet waits at port 0: the premises of `completes_packetReceive_waits` can be met. -/
theorem strayRoute_admitted : Completes (.packetReceive 0 2) (strayRoute true)
    (fun t => ∃ w : Waiting, t.fab.waiting = [w] ∧ w.out = 0) := by
  obtain ⟨t, ht, -, w, hw, hout, -⟩ := completes_packetReceive_waits (p := 0) (v := 2) (s := strayRoute true) (out := 0) rfl rfl
    (by decide +kernel) rfl (by decide +kernel) (by decide +kernel) (by decide +kernel) (by decide +kernel) (by decide +kernel)
    (by decide +kernel) (by decide +kernel)
  exact ⟨t, ht, w, hw, hout⟩

/-- Refused by the pool, it waits nowhere: its sender is sent ERR 0x04 (R441), which finds no route. -/
theorem strayRoute_refused : Completes (.packetReceive 0 2) (strayRoute false) (fun t => t.fab.waiting = []) :=
  ⟨_, rfl, by decide +kernel⟩

/-- Refutes O8: of a unicast that its route sends to a port the statement says that it waits there, and leaves out that the landing pool
may have refused it. `strayRoute false` is a chip on which both are so, and its packet does not wait. The default tables give a chip
local delivery for itself; a stray entry comes by a register write or with the route tables of a package (R98, R101). With the pool's
admission as a premise the clause holds (`completes_packetReceive_waits`). -/
theorem not_routerMovesPackets : ¬ Obligations.RouterMovesPackets := by
  intro ⟨hreceive, _⟩
  obtain ⟨-, -, -, hwaits, -⟩ := hreceive 0 2 (strayRoute false) rfl bulkFlit [] rfl
  obtain ⟨t, ht, -, w, hw, -⟩ := hwaits 0 (by decide +kernel) (by decide +kernel) (by decide +kernel) (by decide +kernel)
    (by decide +kernel) (by decide +kernel) (by decide +kernel) (by decide)
  obtain ⟨u, hu, hnone⟩ := strayRoute_refused
  rw [Host.Outcome.next.inj (ht.symm.trans hu), hnone] at hw
  exact absurd hw (by simp)

end Sys2Proof.Machine

/-! Number formats (O22): rounding, the patterns of the floating formats and what they encode back to, LOG12, and BS8 blocks. -/

namespace Sys2Proof.Machine

/-! ### Rounding to nearest, ties to even (R263) -/

@[simp] theorem rneShift_by_zero (m : Nat) : rneShift m 0 = m := rfl

/-- A rounding keeps the quotient, adds one to it, or at a tie takes the even one of the two. -/
theorem rneShift_cases (m : Nat) {n : Nat} (hn : 0 < n) : ∃ q r : Nat, m = q * 2 ^ n + r ∧ r < 2 ^ n ∧
    (2 * r < 2 ^ n ∧ rneShift m n = q ∨ 2 ^ n < 2 * r ∧ rneShift m n = q + 1 ∨ 2 * r = 2 ^ n ∧ rneShift m n = q + q % 2) := by
  have hhalf : 2 ^ n = 2 * 2 ^ (n - 1) := by rw [← Nat.pow_succ', Nat.succ_eq_add_one, Nat.sub_add_cancel hn]
  refine ⟨m / 2 ^ n, m % 2 ^ n, (Nat.div_add_mod' m _).symm, Nat.mod_lt _ (Nat.two_pow_pos n), ?_⟩
  rw [rneShift, if_neg (by omega)]
  dsimp only
  split
  next hbelow => exact .inl ⟨by omega, rfl⟩
  next hnot =>
    split
    next habove => exact .inr (.inl ⟨by omega, rfl⟩)
    next htie => exact .inr (.inr ⟨by omega, rfl⟩)

/-- The rounded value is at most half a step away, and an even multiple of the step when it is exactly that. -/
theorem rneShift_nearest (m : Nat) {n : Nat} (hn : 0 < n) :
    2 * rneShift m n * 2 ^ n ≤ 2 * m + 2 ^ n ∧ 2 * m ≤ 2 * rneShift m n * 2 ^ n + 2 ^ n ∧
      (2 * rneShift m n * 2 ^ n = 2 * m + 2 ^ n ∨ 2 * m = 2 * rneShift m n * 2 ^ n + 2 ^ n → rneShift m n % 2 = 0) := by
  obtain ⟨q, r, hm, hr, ⟨hlow, h⟩ | ⟨hhigh, h⟩ | ⟨htie, h⟩⟩ := rneShift_cases m hn
  · rw [h, Nat.mul_assoc]
    omega
  · rw [h, Nat.mul_assoc, Nat.add_mul]
    omega
  · rw [h, Nat.mul_assoc]
    rcases Nat.mod_two_eq_zero_or_one q with h0 | h1
    · rw [h0, Nat.add_zero]
      omega
    · rw [h1, Nat.add_mul]
      omega

/-- A whole number of steps is kept. -/
@[simp] theorem rneShift_mul_two_pow (m n : Nat) : rneShift (m * 2 ^ n) n = m := by
  rcases Nat.eq_zero_or_pos n with rfl | hn
  · rw [rneShift_by_zero, Nat.pow_zero, Nat.mul_one]
  · simp only [rneShift, if_neg (Nat.ne_of_gt hn), Nat.mul_mod_left, Nat.two_pow_pos, if_true, Nat.mul_div_left]

@[simp] theorem rneScale_by_zero (m : Nat) : rneScale m 0 = m := by simp [rneScale]

@[simp] theorem rneScale_zero (e : Int) : rneScale 0 e = 0 := by
  have h := rneShift_mul_two_pow 0 (-e).toNat
  rw [Nat.zero_mul] at h
  simp [rneScale, h]

/-! ### LOG12 (R257) -/

theorem log2_of_octave {a k : Nat} (ho : 512 ≤ a) (h : a < 1024) : Nat.log2 (a * 2 ^ k) = 9 + k := by
  have hp := Nat.two_pow_pos k
  have hne : a * 2 ^ k ≠ 0 := Nat.mul_ne_zero (by omega) (Nat.ne_of_gt hp)
  rw [Nat.log2_eq_iff hne, Nat.add_right_comm, Nat.pow_add, Nat.pow_add]
  exact ⟨Nat.mul_le_mul_right _ ho, Nat.mul_lt_mul_of_pos_right h hp⟩

theorem toLog12_ofLog12 {c : Nat} (hc : c < 4096) : toLog12 (ofLog12 c) = c := by
  by_cases hlin : c < 512
  · simp [toLog12, ofLog12, hlin]
  · have hlog := log2_of_octave (a := 512 + c % 512) (k := c / 512 - 1) (by omega) (by omega)
    have hbig : ¬ (512 + c % 512) * 2 ^ (c / 512 - 1) < 512 :=
      Nat.not_lt.mpr (Nat.le_trans (Nat.le_add_right 512 _) (Nat.le_mul_of_pos_right _ (Nat.two_pow_pos _)))
    rw [ofLog12, if_neg hlin, toLog12, if_neg hbig, hlog, Nat.add_sub_cancel_left]
    dsimp only
    rw [rneShift_mul_two_pow, if_neg (show 512 + c % 512 ≠ 1024 by omega)]
    dsimp only
    rw [if_neg (by omega)]
    omega

/-! ### The patterns of a floating format (R258, Table 8-2) -/

/-- What the lemmas about patterns use of a format: an exponent field, and in FP8-E4M3 the largest finite value 0x7E just below the
only NaN of its seven bits. -/
def FloatFmt.Regular (f : FloatFmt) : Prop := 0 < f.eb ∧ (f.fn = true → f.eb + f.mb = 7)

theorem regular_of_mem {f : FloatFmt} (h : f ∈ [e4m3, e5m2, fp16, bf16, fp32]) : f.Regular := by
  simp only [List.mem_cons, List.not_mem_nil, or_false] at h
  rcases h with rfl | rfl | rfl | rfl | rfl <;> exact ⟨by decide, by decide⟩

theorem fp32_regular : fp32.Regular := regular_of_mem (by simp)

/-- The bits of a pattern below its sign. -/
def FloatFmt.field (f : FloatFmt) (w : Nat) : Nat := w % 2 ^ (f.eb + f.mb)

/-- The field of an infinity. -/
def FloatFmt.infField (f : FloatFmt) : Nat := (2 ^ f.eb - 1) * 2 ^ f.mb

theorem FloatFmt.field_lt (f : FloatFmt) (w : Nat) : f.field w < 2 ^ f.eb * 2 ^ f.mb :=
  Nat.pow_add 2 f.eb f.mb ▸ Nat.mod_lt _ (Nat.two_pow_pos _)

/-- The exponent of a pattern is the upper part of its field. -/
theorem FloatFmt.bits_eq (f : FloatFmt) (w : Nat) : bits w f.mb f.eb = f.field w / 2 ^ f.mb := by
  rw [bits, FloatFmt.field, Nat.add_comm, Nat.pow_add, Nat.mod_mul_right_div_self]

/-- The mantissa of a pattern is the lower part of its field. -/
theorem FloatFmt.mod_eq (f : FloatFmt) (w : Nat) : w % 2 ^ f.mb = f.field w % 2 ^ f.mb :=
  (Nat.mod_mod_of_dvd w (Nat.pow_dvd_pow 2 (Nat.le_add_left _ _))).symm

theorem FloatFmt.field_div_lt (f : FloatFmt) (w : Nat) : f.field w / 2 ^ f.mb < 2 ^ f.eb :=
  Nat.div_lt_of_lt_mul (Nat.mul_comm _ _ ▸ f.field_lt w)

/-- A pattern is its sign and its field. -/
theorem FloatFmt.sign_add_field (f : FloatFmt) {w : Nat} (h : w < 2 ^ (1 + f.eb + f.mb)) :
    f.sign (bit w (f.eb + f.mb)) + f.field w = w := by
  rw [Nat.add_assoc, Nat.pow_add, Nat.mul_comm] at h
  have hq : w / 2 ^ (f.eb + f.mb) < 2 := Nat.div_lt_of_lt_mul h
  have hw := Nat.div_add_mod w (2 ^ (f.eb + f.mb))
  rw [FloatFmt.sign, FloatFmt.field, bit, Nat.testBit_eq_decide_div_mod_eq, Nat.mod_eq_of_lt hq]
  rcases Nat.le_one_iff_eq_zero_or_eq_one.mp (Nat.le_of_lt_succ hq) with h0 | h1
  · simpa [h0] using hw
  · simpa [h1] using hw

/-- A sign put in front of a field is the sign of the pattern. -/
theorem FloatFmt.bit_sign_add (f : FloatFmt) (neg : Bool) {x : Nat} (h : x < 2 ^ (f.eb + f.mb)) :
    bit (f.sign neg + x) (f.eb + f.mb) = neg := by
  cases neg
  · simp [FloatFmt.sign, bit, Nat.testBit_lt_two_pow h]
  · simp [FloatFmt.sign, bit, Nat.testBit_two_pow_add_eq, Nat.testBit_lt_two_pow h]

/-- It leaves the field as it was. -/
theorem FloatFmt.field_sign_add (f : FloatFmt) (neg : Bool) {x : Nat} (h : x < 2 ^ (f.eb + f.mb)) : f.field (f.sign neg + x) = x := by
  cases neg <;> simp [FloatFmt.sign, FloatFmt.field, Nat.mod_eq_of_lt h]

/-! ### The value of a pattern -/

/-- In a format with infinities a pattern is finite when its exponent is not all ones. -/
theorem FloatFmt.field_le_maxField_iff_of_inf {f : FloatFmt} (heb : 0 < f.eb) (hk : f.fn = false) (w : Nat) :
    f.field w ≤ f.maxField ↔ bits w f.mb f.eb ≠ 2 ^ f.eb - 1 := by
  have hE := Nat.one_lt_two_pow (Nat.ne_of_gt heb)
  have hlt := f.field_div_lt w
  have hpos : 0 < (2 ^ f.eb - 1) * 2 ^ f.mb := Nat.mul_pos (by omega) (Nat.two_pow_pos _)
  have hdiv : f.field w / 2 ^ f.mb < 2 ^ f.eb - 1 ↔ f.field w < (2 ^ f.eb - 1) * 2 ^ f.mb :=
    Nat.div_lt_iff_lt_mul (Nat.two_pow_pos _)
  rw [f.bits_eq, FloatFmt.maxField, hk, if_neg Bool.false_ne_true]
  omega

/-- In FP8-E4M3 a pattern is finite when its bits below the sign are not all ones. -/
theorem FloatFmt.field_le_maxField_iff_of_fn {f : FloatFmt} (hf : f.Regular) (hk : f.fn = true) (w : Nat) :
    f.field w ≤ f.maxField ↔ ¬ (bits w f.mb f.eb = 2 ^ f.eb - 1 ∧ w % 2 ^ f.mb = 2 ^ f.mb - 1) := by
  have hsize : 2 ^ f.mb * 2 ^ f.eb = 128 := by rw [Nat.mul_comm, ← Nat.pow_add, hf.2 hk]
  have hM := Nat.two_pow_pos f.mb
  have hones : 2 ^ f.mb - 1 + 2 ^ f.mb * (2 ^ f.eb - 1) = 127 := by
    have hle := Nat.le_mul_of_pos_right (2 ^ f.mb) (Nat.two_pow_pos f.eb)
    rw [Nat.mul_sub_one]
    omega
  have hlt := f.field_lt w
  rw [Nat.mul_comm, hsize] at hlt
  rw [f.bits_eq, f.mod_eq, Nat.div_mod_unique hM, hones, FloatFmt.maxField, hk, if_pos rfl]
  omega

theorem FloatFmt.maxField_lt {f : FloatFmt} (hf : f.Regular) : f.maxField < 2 ^ (f.eb + f.mb) := by
  have hlt : (2 ^ f.eb - 1) * 2 ^ f.mb ≤ 2 ^ (f.eb + f.mb) := Nat.pow_add 2 f.eb f.mb ▸ Nat.mul_le_mul_right _ (Nat.sub_le _ 1)
  have hpos := Nat.two_pow_pos (f.eb + f.mb)
  rw [FloatFmt.maxField]
  split
  next hk => rw [hf.2 hk]; decide
  next => omega

/-- A field of no exponent is that of a zero or of a subnormal value. -/
theorem FloatFmt.decode_subnormal {f : FloatFmt} (hf : f.Regular) {w : Nat} (h : f.field w < 2 ^ f.mb) :
    f.decode w = .fin (bit w (f.eb + f.mb)) (f.field w) (1 - (f.bias : Int) - f.mb) := by
  have he : bits w f.mb f.eb = 0 := (f.bits_eq w).trans (Nat.div_eq_of_lt h)
  have hm : w % 2 ^ f.mb = f.field w := (f.mod_eq w).trans (Nat.mod_eq_of_lt h)
  have hne : 0 ≠ 2 ^ f.eb - 1 := by have := Nat.one_lt_two_pow (Nat.ne_of_gt hf.1); omega
  simp [FloatFmt.decode, he, hm, hne]

/-- Any other finite field is that of a normal value. -/
theorem FloatFmt.decode_normal {f : FloatFmt} (hf : f.Regular) {w : Nat} (h : 2 ^ f.mb ≤ f.field w) (hmax : f.field w ≤ f.maxField) :
    f.decode w = .fin (bit w (f.eb + f.mb)) (2 ^ f.mb + f.field w % 2 ^ f.mb) ((f.field w / 2 ^ f.mb : Nat) - (f.bias : Int) - f.mb) := by
  have he : bits w f.mb f.eb ≠ 0 := by
    rw [f.bits_eq]
    exact Nat.ne_of_gt (Nat.div_pos h (Nat.two_pow_pos _))
  rw [← f.bits_eq, ← f.mod_eq]
  cases hk : f.fn
  · have hfin := (FloatFmt.field_le_maxField_iff_of_inf hf.1 hk w).mp hmax
    simp [FloatFmt.decode, hk, hfin, he]
  · have hfin := (FloatFmt.field_le_maxField_iff_of_fn hf hk w).mp hmax
    simp [FloatFmt.decode, hk, hfin, he]

/-- What lies beyond the largest finite value is a NaN or, in a format that has one, the infinity. -/
theorem FloatFmt.decode_special {f : FloatFmt} (hf : f.Regular) {w : Nat} (h : f.maxField < f.field w) :
    f.decode w = .nan ∨ f.fn = false ∧ f.field w = f.infField ∧ f.decode w = .inf (bit w (f.eb + f.mb)) := by
  cases hk : f.fn
  · have he := Classical.not_not.mp (mt (FloatFmt.field_le_maxField_iff_of_inf hf.1 hk w).mpr (Nat.not_le.mpr h))
    by_cases h0 : w % 2 ^ f.mb = 0
    · refine .inr ⟨rfl, ?_, by simp [FloatFmt.decode, he, hk, h0]⟩
      rw [← Nat.div_add_mod' (f.field w) (2 ^ f.mb), ← f.bits_eq, ← f.mod_eq, he, h0]
      rfl
    · exact .inl (by simp [FloatFmt.decode, he, hk, h0])
  · obtain ⟨he, hm⟩ := Classical.not_not.mp (mt (FloatFmt.field_le_maxField_iff_of_fn hf hk w).mpr (Nat.not_le.mpr h))
    exact .inl (by simp [FloatFmt.decode, he, hk, hm])

/-! ### The pattern of a value -/

theorem FloatFmt.encode_inf {f : FloatFmt} (hk : f.fn = false) (sat neg : Bool) : f.encode sat (.inf neg) = f.sign neg + f.infField := by
  simp [FloatFmt.encode, hk, FloatFmt.infField]

theorem FloatFmt.encode_zero (f : FloatFmt) (sat neg : Bool) (e : Int) : f.encode sat (.fin neg 0 e) = f.sign neg := by
  simp [FloatFmt.encode]

/-- A value below the normal range that is a whole number of its smallest steps has that number as its field (R267). -/
theorem FloatFmt.encode_subnormal (f : FloatFmt) (sat neg : Bool) {m : Nat} (h : m < 2 ^ f.mb) (hmax : m ≤ f.maxField) :
    f.encode sat (.fin neg m (1 - (f.bias : Int) - f.mb)) = f.sign neg + m := by
  by_cases h0 : m = 0
  · rw [h0, f.encode_zero]
    rfl
  · have hlog : Nat.log2 m < f.mb := (Nat.log2_lt h0).mpr h
    have hlow : floorLog m (1 - (f.bias : Int) - f.mb) < 1 - (f.bias : Int) := by
      rw [floorLog]
      omega
    simp only [FloatFmt.encode, if_neg h0, if_pos hlow, Int.sub_self, rneScale_by_zero, if_neg (Nat.not_lt.mpr hmax)]

/-- A value whose mantissa has the format's full precision is not rounded. -/
theorem FloatFmt.encode_normal (f : FloatFmt) (sat neg : Bool) {E M : Nat} (hE : 0 < E) (hM : M < 2 ^ f.mb)
    (hmax : E * 2 ^ f.mb + M ≤ f.maxField) :
    f.encode sat (.fin neg (2 ^ f.mb + M) ((E : Int) - f.bias - f.mb)) = f.sign neg + (E * 2 ^ f.mb + M) := by
  have hne : 2 ^ f.mb + M ≠ 0 := by have := Nat.two_pow_pos f.mb; omega
  have hlog : Nat.log2 (2 ^ f.mb + M) = f.mb := by
    rw [Nat.log2_eq_iff hne, Nat.pow_succ]
    omega
  have hfloor : floorLog (2 ^ f.mb + M) ((E : Int) - f.bias - f.mb) = (E : Int) - f.bias := by
    rw [floorLog, hlog]
    omega
  have hfield : ((E : Int) - f.bias + f.bias - 1).toNat * 2 ^ f.mb + (2 ^ f.mb + M) = E * 2 ^ f.mb + M := by
    rw [show ((E : Int) - f.bias + f.bias - 1).toNat = E - 1 by omega, ← Nat.add_assoc, ← Nat.succ_mul, Nat.succ_eq_add_one,
      Nat.sub_add_cancel hE]
  simp only [FloatFmt.encode, if_neg hne, hfloor, if_neg (show ¬ (E : Int) - f.bias < 1 - f.bias by omega), Int.sub_self,
    rneScale_by_zero, hfield, if_neg (Nat.not_lt.mpr hmax)]

/-- A conversion of a finite value writes its sign and a field of at most the largest finite value (R264). -/
theorem FloatFmt.encode_fin_saturated (f : FloatFmt) (neg : Bool) (m : Nat) (e : Int) :
    ∃ x ≤ f.maxField, f.encode true (.fin neg m e) = f.sign neg + x := by
  have hcut : ∀ y, (if f.maxField < y then f.maxField else y) ≤ f.maxField := fun y => by
    split
    next => exact Nat.le_refl _
    next hle => exact Nat.not_lt.mp hle
  by_cases h0 : m = 0
  · subst h0
    exact ⟨0, Nat.zero_le _, f.encode_zero true neg e⟩
  · simp only [FloatFmt.encode, if_neg h0, Bool.true_or, if_true]
    exact ⟨_, hcut _, rfl⟩

/-! ### Reading back, and what a conversion of a finite value reads as -/

/-- A pattern that is no NaN is written back as itself; a NaN as the canonical one (R253, R258, R266, R267). -/
theorem FloatFmt.encode_decode {f : FloatFmt} (hf : f.Regular) {w : Nat} (hw : w < 2 ^ (1 + f.eb + f.mb)) (sat : Bool) :
    f.encode sat (f.decode w) = if f.decode w = .nan then f.nan else w := by
  have hsplit := f.sign_add_field hw
  by_cases hmax : f.field w ≤ f.maxField
  · by_cases hsub : f.field w < 2 ^ f.mb
    · rw [FloatFmt.decode_subnormal hf hsub, f.encode_subnormal sat _ hsub hmax, if_neg FVal.noConfusion, hsplit]
    · have hE : 0 < f.field w / 2 ^ f.mb := Nat.div_pos (Nat.not_lt.mp hsub) (Nat.two_pow_pos _)
      have hM : f.field w % 2 ^ f.mb < 2 ^ f.mb := Nat.mod_lt _ (Nat.two_pow_pos _)
      have hEM := Nat.div_add_mod' (f.field w) (2 ^ f.mb)
      rw [FloatFmt.decode_normal hf (Nat.not_lt.mp hsub) hmax, f.encode_normal sat _ hE hM (hEM.symm ▸ hmax), if_neg FVal.noConfusion,
        hEM, hsplit]
  · rcases FloatFmt.decode_special hf (Nat.not_le.mp hmax) with hnan | ⟨hk, hinf, hval⟩
    · rw [hnan, if_pos rfl, FloatFmt.encode]
    · rw [hval, FloatFmt.encode_inf hk, if_neg FVal.noConfusion, ← hinf, hsplit]

/-- A pattern of at most the largest finite value reads as a finite value of its sign. -/
theorem FloatFmt.decode_finite {f : FloatFmt} (hf : f.Regular) {w : Nat} (h : f.field w ≤ f.maxField) :
    ∃ (k : Nat) (g : Int), f.decode w = .fin (bit w (f.eb + f.mb)) k g := by
  by_cases hsub : f.field w < 2 ^ f.mb
  · exact ⟨_, _, FloatFmt.decode_subnormal hf hsub⟩
  · exact ⟨_, _, FloatFmt.decode_normal hf (Nat.not_lt.mp hsub) h⟩

/-- A conversion makes no infinity and no NaN of a finite value, and keeps its sign (R264, R267). -/
theorem FloatFmt.decode_encode_fin {f : FloatFmt} (hf : f.Regular) (neg : Bool) (m : Nat) (e : Int) :
    ∃ (k : Nat) (g : Int), f.decode (f.encode true (.fin neg m e)) = .fin neg k g := by
  obtain ⟨x, hx, henc⟩ := f.encode_fin_saturated neg m e
  have hlt := Nat.lt_of_le_of_lt hx (FloatFmt.maxField_lt hf)
  obtain ⟨k, g, hdec⟩ := FloatFmt.decode_finite hf (w := f.sign neg + x) ((f.field_sign_add neg hlt).symm ▸ hx)
  exact ⟨k, g, by rw [henc, hdec, f.bit_sign_add neg hlt]⟩

/-! ### Integer results (R264, Table 8-5) -/

/-- A finite value becomes an integer of the range, an infinity the end of its sign. -/
theorem FVal.toInt_range {lo hi : Int} (h : lo ≤ hi) (neg : Bool) (m : Nat) (e : Int) :
    lo ≤ (FVal.fin neg m e).toInt lo hi ∧ (FVal.fin neg m e).toInt lo hi ≤ hi ∧ (FVal.inf neg).toInt lo hi = if neg then lo else hi :=
  ⟨Int.le_max_left _ _, Int.max_le.mpr ⟨h, Int.min_le_left _ _⟩, rfl⟩

/-! ### BS8 blocks (R259, R269) -/

/-- floor(log2) of the magnitude of a finite value that is not zero. -/
def FVal.magLog : FVal → Option Int
  | .fin _ m e => if m = 0 then none else some (floorLog m e)
  | _ => none

/-- The exponent of a block of finite values by its largest magnitude, before any carry. -/
def blockExp (vs : List FVal) : Nat :=
  match vs.filterMap FVal.magLog with
  | [] => 0
  | l :: ls => (max (ls.foldl max l + 127) 0).toNat

/-- The exponent code of a block of finite values: one higher where a mantissa rounds to 128 below the largest code. -/
def blockCode (vs : List FVal) : Nat :=
  if (bs8Mants vs (blockExp vs)).any (fun q => q.natAbs = 128) && decide (blockExp vs < 254) then blockExp vs + 1 else blockExp vs

/-- The byte of a mantissa, saturated to -127 to 127. -/
def mantByte (q : Int) : Nat := unsigned 8 (max (-127) (min 127 q))

/-- A block of finite values takes its code from them, and every element its mantissa for that code. -/
theorem toBs8_of_finite {vs : List FVal} (h : ∀ v ∈ vs, ∃ n m e, v = .fin n m e) :
    toBs8 vs = (blockCode vs, (bs8Mants vs (blockCode vs)).map mantByte) := by
  have hmiss : ∀ u : FVal, (∀ n m e, u ≠ .fin n m e) → vs.contains u = false := fun u hu => by
    rw [List.contains_eq_mem, decide_eq_false_iff_not]
    intro hmem
    obtain ⟨n, m, e, heq⟩ := h u hmem
    exact hu n m e heq
  have hnan : vs.contains .nan = false := hmiss _ fun _ _ _ => FVal.noConfusion
  have hinf : ∀ neg, vs.contains (.inf neg) = false := fun neg => hmiss _ fun _ _ _ => FVal.noConfusion
  simp only [toBs8, hnan, hinf, Bool.or_self, Bool.and_self, Bool.false_eq_true, if_false]
  rfl

theorem floorLog_le {m k : Nat} {e b : Int} (h0 : m ≠ 0) (hm : m < 2 ^ (k + 1)) (he : k + e ≤ b) : floorLog m e ≤ b := by
  have hlog := (Nat.log2_lt h0).mpr hm
  rw [floorLog]
  omega

/-- The exponent code of values below 2^128 is at most 254. -/
theorem blockCode_le {vs : List FVal} (h : ∀ v ∈ vs, ∀ l ∈ v.magLog, l ≤ 127) : blockCode vs ≤ 254 := by
  have hexp : blockExp vs ≤ 254 := by
    have hall : ∀ l ∈ vs.filterMap FVal.magLog, l ≤ 127 := fun l hl => by
      obtain ⟨v, hv, hlog⟩ := List.mem_filterMap.mp hl
      exact h v hv l hlog
    rw [blockExp]
    split
    next => exact Nat.zero_le _
    next l ls heq =>
      rw [heq] at hall
      have hmax : ls.foldl max l ≤ 127 := List.foldlRecOn ls max (motive := (· ≤ (127 : Int))) (hall l List.mem_cons_self)
        fun a ha b hb => Int.max_le.mpr ⟨ha, hall b (List.mem_cons_of_mem _ hb)⟩
      omega
  rw [blockCode]
  split
  next hcarry =>
    obtain ⟨-, hlt⟩ := Bool.and_eq_true_iff.mp hcarry
    exact of_decide_eq_true hlt
  next => exact hexp

theorem mantByte_spec (q : Int) : mantByte q < 256 ∧ -127 ≤ signed 8 (mantByte q) ∧ signed 8 (mantByte q) ≤ 127 := by
  have hlow : -127 ≤ max (-127) (min 127 q) := Int.le_max_left _ _
  have hhigh : max (-127) (min 127 q) ≤ 127 := Int.max_le.mpr ⟨by decide, Int.min_le_left _ _⟩
  have hread : signed 8 (mantByte q) = max (-127) (min 127 q) := by
    rw [signed, mantByte, unsigned, BitVec.ofNat_toNat, BitVec.setWidth_eq]
    exact BitVec.toInt_ofInt_eq_self (by decide) (Int.le_trans (by decide) hlow) (Int.lt_of_le_of_lt hhigh (by decide))
  rw [hread]
  exact ⟨BitVec.isLt _, hlow, hhigh⟩

/-- A block of zeros, of either sign, has exponent code 0. -/
theorem blockCode_zeros {vs : List FVal} (h : ∀ v ∈ vs, ∃ n e, v = .fin n 0 e) :
    blockCode vs = 0 ∧ ∀ x, ∀ q ∈ bs8Mants vs x, q = 0 := by
  have hlogs : vs.filterMap FVal.magLog = [] := List.filterMap_eq_nil_iff.mpr fun v hv => by
    obtain ⟨n, e, rfl⟩ := h v hv
    rfl
  have hexp : blockExp vs = 0 := by rw [blockExp, hlogs]
  have hmants : ∀ x, ∀ q ∈ bs8Mants vs x, q = 0 := fun x q hq => by
    obtain ⟨v, hv, rfl⟩ := List.mem_map.mp hq
    obtain ⟨n, e, rfl⟩ := h v hv
    cases n <;> simp [sgn]
  refine ⟨?_, hmants⟩
  have hcarry : (bs8Mants vs 0).any (fun q => q.natAbs = 128) = false := by
    rw [List.any_eq_false]
    intro q hq
    rw [hmants 0 q hq]
    decide
  rw [blockCode, hexp, hcarry]
  rfl

/-! ### Finite FP32 patterns -/

/-- A finite FP32 pattern reads as a mantissa of at most 24 bits and an exponent of at most 104. -/
theorem f32_of_isFin {w : Nat} (h : isFin w = true) : ∃ n m e, f32 w = .fin n m e ∧ m < 2 ^ 24 ∧ e ≤ 104 := by
  by_cases hmax : fp32.field w ≤ fp32.maxField
  · by_cases hsub : fp32.field w < 2 ^ fp32.mb
    · exact ⟨_, _, _, FloatFmt.decode_subnormal fp32_regular hsub, Nat.lt_trans hsub (by decide), by decide⟩
    · refine ⟨_, _, _, FloatFmt.decode_normal fp32_regular (Nat.not_lt.mp hsub) hmax, ?_, ?_⟩
      · have : fp32.field w % 2 ^ 23 < 2 ^ 23 := Nat.mod_lt _ (by decide)
        show 2 ^ 23 + fp32.field w % 2 ^ 23 < 2 ^ 24
        omega
      · have hle : fp32.field w ≤ 2139095039 := hmax
        show ((fp32.field w / 2 ^ 23 : Nat) : Int) - (127 : Nat) - (23 : Nat) ≤ 104
        omega
  · unfold isFin f32 at h
    rcases FloatFmt.decode_special fp32_regular (Nat.not_le.mp hmax) with hnan | ⟨-, -, hinf⟩
    · simp [hnan] at h
    · simp [hinf] at h

theorem magLog_f32_le {w : Nat} (h : isFin w = true) : ∀ l ∈ (f32 w).magLog, l ≤ 127 := by
  obtain ⟨n, m, e, hval, hm, he⟩ := f32_of_isFin h
  intro l hl
  rw [hval, FVal.magLog] at hl
  split at hl
  next => exact absurd hl (by simp)
  next h0 =>
    rw [← Option.some.inj hl]
    exact floorLog_le (k := 23) h0 hm (by omega)

/-- A pattern of no bits below its sign is a zero. -/
theorem f32_of_zero {w : Nat} (h : w % 2147483648 = 0) : ∃ n e, f32 w = .fin n 0 e := by
  have hfield : fp32.field w = 0 := h
  have hval := FloatFmt.decode_subnormal fp32_regular (w := w) (by rw [hfield]; decide)
  rw [hfield] at hval
  exact ⟨_, _, hval⟩

/-! ### The statement -/

/-- Settles O22: the patterns by `FloatFmt.encode_decode` and `FloatFmt.decode_encode_fin` for every regular format, the rounding by
`rneShift_nearest`, and a block of finite FP32 values by its code and the mantissas for that code. -/
theorem numberFormats : Obligations.NumberFormats := by
  refine ⟨⟨fun f hf w hw sat => FloatFmt.encode_decode (regular_of_mem hf) hw sat, fun c hc => toLog12_ofLog12 hc⟩,
    ⟨fun m n hn => rneShift_nearest m hn, fun f hf neg m e => FloatFmt.decode_encode_fin (regular_of_mem hf) neg m e,
      fun lo hi neg m e h => FVal.toInt_range h neg m e⟩, fun ws hlen hfin => ?_⟩
  have hvals : ∀ v ∈ ws.map f32, ∃ n m e, v = .fin n m e := List.forall_mem_map.mpr fun w hw => by
    obtain ⟨n, m, e, hval, -⟩ := f32_of_isFin (hfin w hw)
    exact ⟨n, m, e, hval⟩
  have hlogs : ∀ v ∈ ws.map f32, ∀ l ∈ v.magLog, l ≤ 127 := List.forall_mem_map.mpr fun w hw => magLog_f32_le (hfin w hw)
  rw [toBs8_of_finite hvals]
  refine ⟨blockCode_le hlogs, by simp [bs8Mants, hlen], List.forall_mem_map.mpr fun q _ => mantByte_spec q, fun hz => ?_⟩
  obtain ⟨hcode, hmants⟩ := blockCode_zeros (List.forall_mem_map.mpr fun w hw => f32_of_zero (hz w hw))
  refine ⟨hcode, List.forall_mem_map.mpr fun q hq => ?_⟩
  rw [hmants _ q hq]
  rfl

end Sys2Proof.Machine

/-! Thread-group instructions and the address that they are fetched from (O28, O30): what serving an 8-byte-aligned instruction does, and
the instruction that reaches into a second palette row. -/

namespace Sys2Proof.Machine

/-! ### Reads and checks of the palette that find nothing wrong -/

/-- A span of the palette has a parity error where one of its bytes gives one (R164). -/
theorem State.palRead_parityOk_iff {s : State} {c a n agent step attempt : Nat} :
    (s.palRead c a n agent step attempt).2.2 = false ↔ ∀ i < n, s.palBad c (a + i) = false := by
  rw [State.palRead, Bool.not_eq_false', List.isEmpty_iff, List.eq_nil_iff_forall_not_mem]
  simp only [List.mem_eraseDups, List.mem_map, List.mem_filter, List.mem_range, not_exists, not_and]
  exact ⟨fun h i hi => Bool.eq_false_iff.mpr fun hb => h _ i ⟨hi, hb⟩ rfl, fun h _ i hi => absurd hi.2 (by simp [h i hi.1])⟩

/-- A read without a parity error changes nothing (R165). -/
theorem State.palRead_parityOk {s : State} {c a n : Nat} (h : ∀ i < n, s.palBad c (a + i) = false) (agent step attempt : Nat) :
    s.palRead c a n agent step attempt = (s, s.palBytes c a n, false) := by
  have hbad : (List.range n).filter (fun i => s.palBad c (a + i)) = [] :=
    List.filter_eq_nil_iff.mpr fun i hi => by simp [h i (List.mem_range.mp hi)]
  simp [State.palRead, hbad]

/-- A check that lets an access through changes nothing (R159). -/
theorem State.palCheck_granted {s : State} {who : Who} {wide write : Bool} {c a n : Nat}
    (h : (s.palCheck who wide write c a n).2 = 0) : s.palCheck who wide write c a n = (s, 0) := by
  unfold State.palCheck at h ⊢
  dsimp only at h ⊢
  split at h
  · rfl
  · cases h
  · next f hf hsome =>
    obtain ⟨l, -, hl⟩ := List.exists_of_findSome?_eq_some hsome
    split at hl
    · cases hl
    · next hne => exact absurd h (Option.some.inj hl ▸ hne)

/-! ### Serving an instruction (R306) -/

/-- The state behind the fetch of an instruction without an error: the instruction cache holds its row. -/
def State.fetched (s : State) (c a : Nat) : State :=
  match s.icacheHit c a with
  | some _ => s
  | none => s.onTg c (fun t => { t with icache := ((a / 64 * 64, s.palBytes c (a / 64 * 64) 64) :: t.icache).take 256 })

/-- An 8-byte-aligned instruction is fetched without poison where its row is cached, or is read without a fault and a parity error. -/
theorem State.fetchIns_aligned {s : State} {c a : Nat} (l : Launch) (h8 : a % 8 = 0)
    (h : (s.icacheHit c a).isSome = true ∨
      (s.palCheck (s.coreWho c) false false c (a / 64 * 64) 64).2 = 0 ∧ (s.palRead c (a / 64 * 64) 64 6 0 0).2.2 = false) :
    s.fetchIns c a l = (s.fetched c a, .inr (s.insAt c a, false)) := by
  unfold State.fetchIns State.fetched State.insAt
  cases hit : s.icacheHit c a with
  | some line => rfl
  | none =>
    obtain ⟨hcheck, hread⟩ := h.resolve_left (by simp [hit])
    have hgood := State.palRead_parityOk_iff.mp hread
    have hpoison : (List.range 8).any (fun b => s.palBad c (a + b)) = false := by
      rw [List.any_eq_false]
      intro b hb
      have hlt := List.mem_range.mp hb
      have hrow := hgood (a % 64 + b) (by omega)
      rw [show a / 64 * 64 + (a % 64 + b) = a + b by omega] at hrow
      simp [hrow]
    simp only [State.palCheck_granted hcheck, State.palRead_parityOk hgood, hpoison]
    rfl

section
variable (s : State) (c a : Nat)

@[simp] theorem State.fetched_regs : (s.fetched c a).regs = s.regs := by
  unfold State.fetched
  split <;> rfl

@[simp] theorem State.fetched_reg (b : Nat) : (s.fetched c a).reg b = s.reg b := by
  rw [State.reg, State.fetched_regs, State.reg]

@[simp] theorem State.fetched_mem : (s.fetched c a).mem = s.mem := by
  unfold State.fetched
  split <;> rfl

@[simp] theorem State.fetched_group (h : Nat) : (s.fetched c a).group c h = s.group c h := by
  unfold State.fetched
  split
  · rfl
  · simp [State.group, State.onTg, State.onCore]

end

/-- The state in which the instruction at `x` takes effect: it is fetched and counted (R323). -/
def State.issueAt (s : State) (x : TgAt) : State := (s.fetched x.c x.pc).bump (tgReg x.c 0x14)

section
variable (s : State) (x : TgAt)

@[simp] theorem State.bump_mem (a : Nat) : (s.bump a).mem = s.mem := by
  unfold State.bump
  split <;> rfl

@[simp] theorem State.bump_group (a c h : Nat) : (s.bump a).group c h = s.group c h := by
  unfold State.bump
  split <;> rfl

@[simp] theorem State.issueAt_mem : (s.issueAt x).mem = s.mem := by simp [State.issueAt]

@[simp] theorem State.issueAt_group (h : Nat) : (s.issueAt x).group x.c h = s.group x.c h := by simp [State.issueAt]

theorem State.issueAt_reg {a : Nat} (h : tgReg x.c 0x14 ≠ a) : (s.issueAt x).reg a = s.reg a := by
  rw [State.issueAt, State.reg_bump_ne _ h, State.fetched_reg]

theorem State.issueAt_count :
    ((s.issueAt x).reg (tgReg x.c 0x14)).toNat = min 0xFFFFFFFF ((s.reg (tgReg x.c 0x14)).toNat + 1) := by
  rw [State.issueAt, State.reg_bump_self, State.fetched_reg]

/-- Which lane reads a register of wrong parity depends on the memories alone. -/
theorem State.badLane_congr {s t : State} (h : t.mem = s.mem) : t.badLane x = s.badLane x := by
  have hv : t.vreg x = s.vreg x := by funext r k; rw [State.vreg, State.vreg, h]
  have hb : t.opB x = s.opB x := by funext k; rw [State.opB, State.opB, State.src, State.src, hv]
  rw [State.badLane, State.badLane, State.farReads, State.farReads, hb, h]

end

/-- Where no register that the instruction reads has wrong parity, it takes effect (R320). -/
theorem State.checked_sound {s : State} {x : TgAt} (hl : s.badLane x = none) (hu : x.upBadLane = none) (run : TgAt → State → State) :
    s.checked x run = run x s := by
  rw [State.checked, hl, hu]
  dsimp only
  rw [ite_self]

/-- An instruction at an 8-byte-aligned PC that is served takes effect in the state behind its fetch (R306, R328). -/
theorem State.atIns_aligned {s : State} {c slot op : Nat} {x : TgAt} (h : s.serves c slot op x) (h8 : x.pc % 8 = 0)
    (run : TgAt → State → State) : s.atIns c slot op run = run x (s.issueAt x) := by
  obtain ⟨g, l, mask, pc, hgroup, hlaunch, hhold, hserve, hcode, hfetch, hx, hop, hopcode, hform, hmode, hlane, hup⟩ := h
  have hpc : x.pc = pc := by rw [hx]
  have hw : x.w = s.insAt c pc := by rw [hx]
  have hc : x.c = c := by rw [hx]
  have hfetched := State.fetchIns_aligned l (hpc ▸ h8) hfetch
  rw [hw] at hop hform
  have hchecked := State.checked_sound (s := s.issueAt x) ((State.badLane_congr x (s.issueAt_mem x)).trans hlane) hup run
  rw [← hchecked, State.issueAt, hc, hpc, hx, State.atIns, hgroup]
  dsimp only
  rw [hlaunch]
  dsimp only
  rw [hserve, if_neg (not_not_intro hhold)]
  dsimp only
  rw [hcode, hfetched]
  dsimp only
  rw [hop, hform, hmode]
  simp

/-- A group is served in the slot that the command names. -/
theorem State.serves_place {s : State} {c slot op : Nat} {x : TgAt} (h : s.serves c slot op x) : x.c = c ∧ x.slot = slot := by
  obtain ⟨g, l, mask, pc, -, -, -, -, -, -, rfl, -⟩ := h
  exact ⟨rfl, rfl⟩

@[simp] theorem State.putG_mem (s : State) (x : TgAt) (e : Group) : (s.putG x e).mem = s.mem := rfl

/-- An instruction that only writes its group back is one step of that group (R307, R308). -/
theorem State.tgStep_putG_issueAt (s : State) (x : TgAt) (e : Group) : s.tgStep ((s.issueAt x).putG x e) x (some e) := by
  have hgroups (h : Nat) : ((s.issueAt x).putG x e).group x.c h = if x.slot = h then some e else s.group x.c h := by
    rw [← s.issueAt_group x h]
    simp [State.putG, State.setGroup, State.group, State.onTg, State.onCore, tblGet_tblSet]
  exact ⟨by simp [hgroups], fun h hh => by rw [hgroups, if_neg hh.symm], s.issueAt_count x⟩

/-! ### At an 8-byte-aligned PC -/

section
variable {s : State} {c : Fin 8} {g : Fin 32} {x : TgAt} (hs : s.running) (h8 : x.pc % 8 = 0)
include hs h8

/-- NOP advances its group (R348). -/
theorem completes_nop_aligned (h : s.serves c g 0 x) :
    Completes (.nop c g) s (fun t => t.mem = s.mem ∧ s.tgStep t x (some ((x.g.next x).ran false))) := by
  refine ⟨(s.issueAt x).putG x _, ?_, by simp, s.tgStep_putG_issueAt x _⟩
  show execNop c g s = _
  rw [execNop, s.run_running _ hs, State.atIns_aligned h h8]
  rfl

/-- NOTEST reads the status of a note slot (R344). -/
theorem completes_notest_aligned (h : s.serves c g 0x71 x) (hx : x.exec ≠ 0) :
    Completes (.notest c g) s (fun t => t.mem = s.mem ∧
      s.tgStep t x (some (((x.g.setU (iDst x.w) ((s.reg (aNoteStat c (iNslot x.w))).toNat % 65536)).next x).ran false))) := by
  refine ⟨(s.issueAt x).putG x _, ?_, by simp, s.tgStep_putG_issueAt x _⟩
  obtain ⟨hc, -⟩ := State.serves_place h
  have hstat : (s.issueAt x).reg (aNoteStat x.c (iNslot x.w)) = s.reg (aNoteStat c (iNslot x.w)) := by
    have hslot : iNslot x.w < 4 := Nat.mod_lt _ (by decide)
    have hne : tgReg x.c 0x14 ≠ aNoteStat x.c (iNslot x.w) := by
      unfold tgReg aNoteStat dmaReg
      omega
    rw [s.issueAt_reg x hne, hc]
  show execNotest c g s = _
  rw [execNotest, s.run_running _ hs, State.atIns_aligned h h8, if_neg hx, hstat]
  rfl

end

/-! ### A PC that is no multiple of 8 -/

/-- A launch of one group of 32 threads whose code are the 16 instructions from address 0. -/
def rowLaunch : Launch := { step := 0, words := [3, 32 * 65536, 0, 16, 1] ++ List.replicate 11 0, param := [] }

/-- Its group at an address, whose lanes all execute. -/
def rowGroup (pc : Nat) : Group :=
  { launch := 0, index := 0, pc := pc, exist := 0xFFFFFFFF, active := 0xFFFFFFFF, u := List.replicate 64 0 }

/-- Core 0 with that group in slot 0 and one region over its first bank pair, whose bytes are zero but for `b` at the group's address. The
byte at address 64, the first of the second row, has wrong parity. -/
def rowState (pc : Nat) (b : Byte) : State :=
  let s := (((State.reset.setReg (aRgn 0 0 1) 0x1000#32).setReg (aRgn 0 0 2) 0x701#32).setReg (palReg 0 0xC) 1#32).set (fTenant 0) 7
  { s with
    cores := [(0, { tg := { launches := [rowLaunch], groups := [(0, some (rowGroup pc))] } })]
    mem := { pal := tblSet byteZero [] (palKey 0 0 0 pc) b, badPar := [palKey 0 1 0 0] } }

/-- What serving the group gives. -/
def rowAt (pc : Nat) (b : Byte) : TgAt :=
  { c := 0, slot := 0, l := rowLaunch, mask := 0xFFFFFFFF, exec := 0xFFFFFFFF, pc := pc, w := b.toNat, g := { rowGroup pc with run := 1 } }

/-- NOP and NOTEST are served there, at the last aligned address of the first row and at one that reaches into the second: what `serves`
asks for speaks of the first row alone. -/
theorem rowState_serves : ∀ pc ∈ [56, 60], ∀ b ∈ [0x00#8, 0x71#8], (rowState pc b).serves 0 0 b.toNat (rowAt pc b) := by
  intro pc hpc b hb
  have h : ∀ pc ∈ [56, 60], ∀ b ∈ [0x00#8, 0x71#8],
      (rowGroup pc).serve rowLaunch.indep = some (0xFFFFFFFF, pc) ∧ rowLaunch.holds pc = true ∧
        ((rowState pc b).palCheck ((rowState pc b).coreWho 0) false false 0 (pc / 64 * 64) 64).2 = 0 ∧
        ((rowState pc b).palRead 0 (pc / 64 * 64) 64 6 0 0).2.2 = false ∧
        rowAt pc b =
          { c := 0, slot := 0, l := rowLaunch, mask := 0xFFFFFFFF, pc := pc, w := (rowState pc b).insAt 0 pc,
            g := { rowGroup pc with active := 0xFFFFFFFF, last := if rowLaunch.indep then (lowLane 0xFFFFFFFF).getD 0 else (rowGroup pc).last,
                                    run := (rowGroup pc).run + 1 },
            exec := 0xFFFFFFFF &&& guardMask (rowGroup pc).p ((rowState pc b).insAt 0 pc) } ∧
        iOp (rowAt pc b).w = b.toNat ∧ isOpcode b.toNat = true ∧ malformedIns rowLaunch.vregs (rowAt pc b).w = false ∧
        modeBad rowLaunch b.toNat = false ∧ (rowAt pc b).upBadLane = none := by decide +kernel
  obtain ⟨hserve, hcode, hcheck, hread, hat, hop, hopcode, hform, hmode, hup⟩ := h pc hpc b hb
  exact ⟨rowGroup pc, rowLaunch, 0xFFFFFFFF, pc, rfl, rfl, rfl, hserve, hcode, .inr ⟨hcheck, hread⟩, hat, hop, hopcode, hform, hmode, rfl,
    hup⟩

/-- At the aligned address NOP goes on: the premises of `completes_nop_aligned` can be met. -/
theorem rowState_nop_aligned : Completes (.nop 0 0) (rowState 56 0x00#8) (fun t => ∃ e : Group, t.group 0 0 = some e ∧ e.pc = 64) := by
  obtain ⟨t, ht, -, hgroup, -⟩ :=
    completes_nop_aligned (s := rowState 56 0x00#8) (c := 0) (g := 0) rfl rfl (rowState_serves 56 (by decide) 0x00#8 (by decide))
  exact ⟨t, ht, _, hgroup, rfl⟩

/-- At the address that reaches into the second row the fetch meets the byte of wrong parity, and the launch aborts with its group (R320). -/
theorem rowState_nop_straddles : Completes (.nop 0 0) (rowState 60 0x00#8) (fun t => t.group 0 0 = none) :=
  ⟨_, rfl, by decide +kernel⟩

theorem rowState_notest_straddles : Completes (.notest 0 0) (rowState 60 0x71#8) (fun t => t.group 0 0 = none) :=
  ⟨_, rfl, by decide +kernel⟩

/-- A command answers one state: it does not both write a slot's group back and free the slot. -/
theorem Completes.not_slot_freed {i : Instr} {s : State} {P : State → Prop} {x : TgAt} (h : Completes i s P)
    (hstep : ∀ t, P t → ∃ e, s.tgStep t x (some e)) : ¬ Completes i s (fun t => t.group x.c x.slot = none) := by
  rintro ⟨u, hu, hnone⟩
  obtain ⟨t, ht, hP⟩ := h
  obtain ⟨e, hgroup, -⟩ := hstep t hP
  rw [Host.Outcome.next.inj (ht.symm.trans hu), hnone] at hgroup
  cases hgroup

/-- Refutes O30: `State.serves` asks that the row of the PC has good parity, but the fetch looks at the 8 bytes from the PC, which reach
into the next row where the PC is no multiple of 8. On `rowState 60`, whose second row begins with a byte of wrong parity, NOP is served by
the statement's terms and aborts the launch. The model does not come to such a PC by itself: CODE_BASE is checked for 8-byte alignment
(Table 10-5) and targets are whole instructions away (R328, R333). At an aligned PC NOP goes on (`completes_nop_aligned`). -/
theorem not_tgControl : ¬ Obligations.TgControl := by
  intro ⟨hmasked, _⟩
  obtain ⟨hadvance, -⟩ := hmasked (rowState 60 0x00#8) rfl 0 0 (rowAt 60 0x00#8) rfl
  have hnop := hadvance (.nop 0 0, 0) (by simp) (rowState_serves 60 (by decide) 0x00#8 (by decide))
  exact hnop.not_slot_freed (x := rowAt 60 0x00#8) (fun _ ⟨_, e, hstep, _⟩ => ⟨e, hstep⟩) rowState_nop_straddles

/-- Refutes O28, as `not_tgControl` does O30: on `rowState 60`, a chip whose group stands at a PC that is no multiple of 8, NOTEST is
served by the statement's terms and aborts the launch on the poison of the next row. At an aligned PC it reads the status of its note slot
(`completes_notest_aligned`). -/
theorem not_tgMemory : ¬ Obligations.TgMemory := by
  intro ⟨_, _, hnotes⟩
  obtain ⟨-, hnotest⟩ := hnotes (rowState 60 0x71#8) rfl 0 0 (rowAt 60 0x71#8) (by decide)
  exact (hnotest (rowState_serves 60 (by decide) 0x71#8 (by decide))).not_slot_freed (x := rowAt 60 0x71#8)
    (fun _ ⟨_, hstep⟩ => ⟨_, hstep⟩) rowState_notest_straddles

end Sys2Proof.Machine
